-- ==== Sys2Proof/Word.lean ====
section
/-! DEFINITION. The word types of the body link: the byte a frame is made of (R161, R162). -/

namespace Sys2Proof

/-- One byte on the body link (R161: 8 data bits). -/
abbrev Byte := BitVec 8

end Sys2Proof
end

