-- ==== Sys2Proof/Config.lean ====
section
/-! DEFINITION. What the manual leaves open: the free values of the model, each a constant with no body. -/

namespace Sys2Proof

/-- FREE VALUE (safe; log entry 3). R155: where two inputs reach their fourth asserted sample together, "either may be taken as
the cause". The argument is a counter that State holds and each use advances, so every tie has a choice of its own. -/
opaque Config.wakeTie : Nat → Nat

end Sys2Proof
end

