-- ==== Sys2Proof/Syntax.lean ====
section
/-! DEFINITION. The commands of the part: one constructor of `Instr` for each row of spec/opcode_table.json, with what
the outside world gives the part when that step happens (a byte on RX, a sample, the level of a strap). A request of the
host carries no operand of its own: its payload is the frame at the head of the inbound queue (R166). -/

namespace Sys2Proof

/-- A lamp channel, 0 to 13 (Table 1-1: HEAVY 0–3, LIGHT 4–13). -/
abbrev LampId := Fin 14

/-- Any channel, 0 to 16 (Table 1-1). -/
abbrev ChanId := Fin 17

/-- Gauge A is 0, gauge B is 1 (chapter 6). Also the number of the sense pin that the gauge reads (R107). -/
abbrev GaugeId := Fin 2

/-- The six switch inputs of Table 8-1. -/
inductive InputId where
  | ign | brake | haz | door | sw0 | sw1
  deriving DecidableEq, Repr

/-- The three inputs whose edges are watched in SLEEP (R152). -/
inductive WakeInput where
  | ign | haz | door
  deriving DecidableEq, Repr

/-- The switch input that a watched edge belongs to. -/
def WakeInput.input : WakeInput → InputId
  | .ign => .ign
  | .haz => .haz
  | .door => .door

/-- One value for each switch input of Table 8-1. -/
structure PerInput (α : Type) where
  ign : α
  brake : α
  haz : α
  door : α
  sw0 : α
  sw1 : α
  deriving DecidableEq, Repr

/-- The levels of the six input pins at one sample: `true` is HIGH, nearer the positive battery terminal (R143). -/
abbrev PinLevels := PerInput Bool

/-- The commands of the part, one for each row of spec/opcode_table.json, in the table's order. -/
inductive Instr where
  -- requests of the host, each taken from the head of the inbound queue (R166)
  | ident
  | status
  | cause
  | evfetch
  | evmask
  | start
  | stop
  | sleep
  | wake
  | restart
  | fnset
  | fnmulti
  | turn
  | haz
  | sceneadd
  | scenedrop
  | faultclr
  | gaugetest
  | chread
  | fnread
  | sceneread
  | supplyread
  | fanread
  | gaugeread
  | chcfg
  | subcfg
  | fncfg
  | flashcfg
  | fancfg
  | gaugecfg
  | curvecfg
  | supplycfg
  | inputcfg
  | linkcfg
  | unknownKind
  -- the body link
  /-- A byte on RX with its parity bit and the level read at its stop bit (`true`: the stop level) (R161). -/
  | rxByte (data : Byte) (parity stop : Bool)
  | gapTimeout
  | replySent
  | restartReset
  -- resets
  | powerOn
  | brownout
  | resetLine
  /-- The last reset condition releases; `polOpen` is the strap POL left open (positive earth) (R143). -/
  | resetRelease (polOpen : Bool)
  -- the channel bank
  /-- The reading found on each channel 0 to 16 at one sampling moment: a current in mA where the output conducts, the magnitude
  of the line's voltage in mV where a read-back is taken (R3, R19); none on a channel on which no reading falls due, such as a
  gauge before the first conducting part after its duty last became nonzero (R116). -/
  | currentSample (readings : Vector (Option Nat) 17)
  | channelAverage
  | trip (ch : LampId) (milliamps : Nat)
  | inrushEnd (ch : LampId)
  | retryExpiry (ch : LampId)
  | tripForgiveness (ch : LampId)
  | lampOutDecision (ch : LampId) (milliamps : Nat)
  | fedDecision (ch : LampId) (millivolts : Nat)
  -- the flash engine
  | onPhaseEnd
  | offPhaseEnd
  -- the fan controller
  | kickEnd
  | rampTimerExpiry
  | stallFound (milliamps : Nat)
  | stallWaitEnd
  | fanForgiveness
  -- the gauge unit
  /-- The 10-bit code of one sense pin (R107). -/
  | senseSample (g : GaugeId) (code : Nat)
  | gaugeUpdate
  | senderStatusChange (g : GaugeId)
  | gaugeOutputShort (g : GaugeId) (milliamps : Nat)
  | testComplete
  -- the supply monitor
  /-- The magnitudes in mV on BAT and CHG (R126). -/
  | supplySample (bat chg : Nat)
  | holdEnd (bat chg : Nat)
  | supplyEvaluation
  | chargeChange
  | voltageLevelChange
  -- the input block and the operating states
  | inputSample (pins : PinLevels)
  | inputLevelChange (i : InputId)
  | enterSleep
  | sleepEdge (i : WakeInput)
  | wakeConfirmed (i : WakeInput) (pins : PinLevels)
  | windowTimeout
  | rxWake
  | receiverRestart
  -- timers
  | sceneExpiry (id : Byte)
  | dwellEnd
  | fadeStep
  | linkTimeout
  | limpLightingBegin
  | timeCountTick
  deriving DecidableEq, Repr

end Sys2Proof
end

