-- ==== Sys2Proof/Decode.lean ====
section
/-! DEFINITION. The encodings of the body link: the codes and lengths of the request kinds (Tables 9-3 and 11-3), the
frame envelope with its check byte (R162, Table 11-1), and the command that a table word spells. -/

namespace Sys2Proof

/-- The request kinds of Table 9-3. -/
inductive ReqKind where
  | ident | status | cause | evfetch | evmask
  | start | stop | sleep | wake | restart
  | fnset | fnmulti | turn | haz | sceneadd | scenedrop | faultclr | gaugetest
  | chread | fnread | sceneread | supplyread | fanread | gaugeread
  | chcfg | subcfg | fncfg | flashcfg | fancfg | gaugecfg | curvecfg | supplycfg | inputcfg | linkcfg
  deriving DecidableEq, Repr

/-- The code of a request kind (Table 9-3). -/
def ReqKind.code : ReqKind → Byte
  | .ident => 0x01
  | .status => 0x02
  | .cause => 0x03
  | .evfetch => 0x04
  | .evmask => 0x05
  | .start => 0x10
  | .stop => 0x11
  | .sleep => 0x12
  | .wake => 0x13
  | .restart => 0x14
  | .fnset => 0x20
  | .fnmulti => 0x21
  | .turn => 0x22
  | .haz => 0x23
  | .sceneadd => 0x24
  | .scenedrop => 0x25
  | .faultclr => 0x26
  | .gaugetest => 0x27
  | .chread => 0x30
  | .fnread => 0x31
  | .sceneread => 0x32
  | .supplyread => 0x33
  | .fanread => 0x34
  | .gaugeread => 0x35
  | .chcfg => 0x40
  | .subcfg => 0x41
  | .fncfg => 0x42
  | .flashcfg => 0x43
  | .fancfg => 0x44
  | .gaugecfg => 0x45
  | .curvecfg => 0x46
  | .supplycfg => 0x47
  | .inputcfg => 0x48
  | .linkcfg => 0x49

/-- Every request kind, in the order of Table 9-3. -/
def ReqKind.all : List ReqKind :=
  [.ident, .status, .cause, .evfetch, .evmask, .start, .stop, .sleep, .wake, .restart,
   .fnset, .fnmulti, .turn, .haz, .sceneadd, .scenedrop, .faultclr, .gaugetest,
   .chread, .fnread, .sceneread, .supplyread, .fanread, .gaugeread,
   .chcfg, .subcfg, .fncfg, .flashcfg, .fancfg, .gaugecfg, .curvecfg, .supplycfg, .inputcfg, .linkcfg]

/-- The request kind that a kind byte names, or none where the byte is no code of Table 9-3. -/
def ReqKind.ofCode (b : Byte) : Option ReqKind :=
  ReqKind.all.find? (fun k => k.code == b)

/-- The payload lengths a request kind allows (R182, Table 11-3). -/
def ReqKind.lengthOk (k : ReqKind) (n : Nat) : Bool :=
  match k with
  | .ident | .status | .cause | .evfetch | .start | .stop | .sleep | .wake | .restart | .gaugetest => n == 0
  | .evmask => n == 3
  | .fnset => n == 2
  | .fnmulti => [2, 4, 6, 8, 10, 12].contains n
  | .turn | .haz | .scenedrop | .faultclr | .chread | .fnread | .sceneread | .supplyread | .fanread => n == 1
  | .sceneadd => [2, 4, 6, 8, 10, 12, 14].contains n
  | .gaugeread => n == 2
  | .chcfg => n == 11
  | .subcfg => n == 3
  | .fncfg => n == 5
  | .flashcfg => n == 1
  | .fancfg => n == 17
  | .gaugecfg => n == 11
  | .curvecfg => [7, 11, 15, 19].contains n
  | .supplycfg => n == 20
  | .inputcfg => n == 8
  | .linkcfg => n == 1

/-- A frame without its envelope: the kind byte and the payload (Table 11-1). In a reply the payload begins with the
result code. -/
structure Frame where
  kind : Byte
  payload : List Byte
  deriving DecidableEq, Repr

/-- The start mark (R162). -/
def startMark : Byte := 0xC3

/-- The 8-bit sum of some bytes. -/
def byteSum (bs : List Byte) : Byte := bs.foldl (· + ·) 0

/-- The length byte of a frame. -/
def Frame.lengthByte (f : Frame) : Byte := BitVec.ofNat 8 f.payload.length

/-- The check byte: it makes the 8-bit sum of length, kind, payload and check 0 (R162). -/
def Frame.checkByte (f : Frame) : Byte := 0 - byteSum (f.lengthByte :: f.kind :: f.payload)

/-- The bytes of a frame on the line, in order (R162, Table 11-1). -/
def Frame.bytes (f : Frame) : List Byte :=
  startMark :: f.lengthByte :: f.kind :: (f.payload ++ [f.checkByte])

/-- The even parity bit of a byte: it makes the number of ones among the data bits and itself even (R161). -/
def parityBit (b : Byte) : Bool :=
  (List.range 8).foldl (fun acc i => acc ^^ b.getLsbD i) false

/-- The eleven bit levels in which a byte goes over the line, in order: the start bit, 8 data bits with the least significant first,
the even parity bit, the stop bit; `true` is the stop level (R161). -/
def lineBits (b : Byte) : List Bool := false :: ((List.range 8).map b.getLsbD ++ [parityBit b, true])

/-- The bit levels of a frame on the line, its bytes back to back (R161). -/
def Frame.lineBits (f : Frame) : List Bool := f.bytes.flatMap Sys2Proof.lineBits

/-- The command that a word spells by the table's bits. No row of spec/opcode_table.json gives bits (every row's "fields"
list is empty and none has "fixed"), so no word spells a command. -/
def decodeTableWord (_nbits _w : Nat) : Option Instr := none

end Sys2Proof
end

