-- ==== Sys2Proof/Machine/Types.lean ====
section
/-! DEFINITION. The named values of the part's records, with the names the manual gives them (Table 11-2 lists their codes). -/

namespace Sys2Proof.Machine

/-- The operating states of Table 8-2. -/
inductive OpState where
  | limp | drive | park | watch | sleep
  deriving DecidableEq, Repr

/-- The lamp-channel states of Table 1-5. -/
inductive LampState where
  | off | queued | inrush | on | tripped | lockedOut
  deriving DecidableEq, Repr

/-- off_reason, demand_reason and the resolved reason: one enumeration (Table 11-2). -/
inductive Reason where
  | none | demand | ignOff | shed | hold | fault | lockout
  deriving DecidableEq, Repr

/-- The 16 functions of Table 3-1. -/
inductive Fn where
  | side | dip | main | fog | reverse | brake | indL | indR | telltale | maintell
  | panel | interior | aux1 | aux2 | aux3 | fan
  deriving DecidableEq, Repr

/-- Sides of the indicators: the active set and the host side request (Table 11-2; BOTH in the active set only). -/
inductive Sides where
  | none | left | right | both
  deriving DecidableEq, Repr

/-- The phases of the flash engine (Table 4-3). -/
inductive FlashPhase where
  | idle | on | off
  deriving DecidableEq, Repr

/-- The courtesy phases of Table 3-7. -/
inductive CourtesyPhase where
  | quiet | opened | dwell | fade
  deriving DecidableEq, Repr

/-- The fan states of Table 5-1. -/
inductive FanState where
  | stopped | waiting | kick | ramping | running | stallWait | lockedOut
  deriving DecidableEq, Repr

/-- The gauge states of Table 6-3. -/
inductive GaugeState where
  | off | run | test | outputFault
  deriving DecidableEq, Repr

/-- Sender status, and the class of an update (R111). -/
inductive SenderStatus where
  | ok | opened | short
  deriving DecidableEq, Repr

/-- The limit status of a gauge (R115). -/
inductive LimitStatus where
  | none | saturated | undervolt
  deriving DecidableEq, Repr

/-- The side of the battery to which the outputs switch their loads (R143, 00_scope.md "Pins"). -/
inductive BatterySide where
  | positive | negative
  deriving DecidableEq, Repr

/-- What a gauge shows while its sender is at fault (R112). -/
inductive FaultAction where
  | zero | keep
  deriving DecidableEq, Repr

/-- The mode of a sense pin (R107). -/
inductive SenseMode where
  | sender | switch
  deriving DecidableEq, Repr

/-- The polarity setting of a switch input (R145). -/
inductive Polarity where
  | default | activeHigh | activeLow
  deriving DecidableEq, Repr

/-- The system voltage (Table 7-2). -/
inductive SystemVoltage where
  | v6 | v12
  deriving DecidableEq, Repr

/-- The reset kinds, which are the start causes (R160, R180). -/
inductive StartCause where
  | powerOn | brownout | resetLine | restart
  deriving DecidableEq, Repr

/-- The cause that a WOKEN event carries (Table 11-2). -/
inductive WakeCause where
  | ign | haz | door | request | rx
  deriving DecidableEq, Repr

/-- The event kinds of Table 10-1. -/
inductive EventKind where
  | chTrip | chLockout | chLampOut | chLampOk | chFed | subst | shed | holdOn | holdOff | fanStall
  | fanLockout | gaugeSender | gaugeLimit | sceneEnd | input | state | linkSilent | charge | testEnd | woken
  deriving DecidableEq, Repr

/-- The result codes of Table 9-2. -/
inductive ResultCode where
  | ok | clamped | held | badKind | badLength | badValue | locked | notReady | isProtected | full | duplicate | unknown
  | ignOn | busy
  deriving DecidableEq, Repr

/-- The frame assembler, named after the byte it waits for (R162). The payload bytes held stand in the order received. -/
inductive Assembler where
  | hunt
  | length
  | kind (len : Nat)
  | payload (len : Nat) (kind : Byte) (held : List Byte)
  | check (len : Nat) (kind : Byte) (held : List Byte)
  deriving DecidableEq, Repr

end Sys2Proof.Machine
end

