-- ==== Sys2Proof/Machine/Tables.lean ====
section
/-! DEFINITION. The fixed tables of the manual: channel kinds, the limp map, function attributes, enumeration codes. -/

namespace Sys2Proof.Machine

/-! ### Channels (Tables 1-1 and 1-4) -/

/-- The lamp channels in ascending order. -/
def allLamps : List LampId := [0, 1, 2, 3, 4, 5, 6, 7, 8, 9, 10, 11, 12, 13]

/-- A HEAVY channel: 0 to 3 (R1, Table 1-1). The other lamp channels are LIGHT. -/
def isHeavy (ch : LampId) : Bool := ch.val < 4

/-- The channel number of a lamp channel among all 17. -/
def lampChan (ch : LampId) : ChanId := ⟨ch.val, by omega⟩

/-- The fan's channel, 14 (Table 1-1). -/
def fanChan : ChanId := 14

/-- The gauge's channel: 15 for gauge A, 16 for gauge B (Table 1-1). -/
def gaugeChan (g : GaugeId) : ChanId := ⟨15 + g.val, by omega⟩

/-- The maximum continuous current of a lamp channel's kind, in mA (Table 1-1). -/
def maxContinuous (ch : LampId) : Nat := if isHeavy ch then 15000 else 6000

/-- The hard limit of a lamp channel's kind, in mA (Table 1-1, R5). -/
def hardLimit (ch : LampId) : Nat := if isHeavy ch then 40000 else 12000

/-- The range of nominal_mA for a lamp channel's kind (Table 1-2). -/
def nominalRange (ch : LampId) : Nat × Nat := if isHeavy ch then (500, 12000) else (100, 5000)

/-- The default nominal_mA of a lamp channel's kind (Table 1-2). -/
def nominalDefault (ch : LampId) : Nat := if isHeavy ch then 4500 else 1800

/-- The start weight of channels 0 to 14 (Table 2-1). -/
def startWeight (ch : Fin 15) : Nat := if ch.val < 4 then 2 else if ch.val < 14 then 1 else 2

/-- The limp map (Table 1-4). -/
def limpMap (ch : LampId) : Option Fn :=
  match ch.val with
  | 0 | 1 => some .dip
  | 4 | 5 => some .brake
  | 6 | 7 => some .indL
  | 8 | 9 => some .indR
  | 10 | 11 => some .side
  | _ => none

/-! ### Functions (Table 3-1) -/

/-- The code of a function (Table 3-1). -/
def Fn.code : Fn → Fin 16
  | .side => 0
  | .dip => 1
  | .main => 2
  | .fog => 3
  | .reverse => 4
  | .brake => 5
  | .indL => 6
  | .indR => 7
  | .telltale => 8
  | .maintell => 9
  | .panel => 10
  | .interior => 11
  | .aux1 => 12
  | .aux2 => 13
  | .aux3 => 14
  | .fan => 15

/-- Every function, in code order. -/
def allFns : List Fn :=
  [.side, .dip, .main, .fog, .reverse, .brake, .indL, .indR, .telltale, .maintell,
   .panel, .interior, .aux1, .aux2, .aux3, .fan]

/-- The function of a code, or none above 15. -/
def Fn.ofCode (n : Nat) : Option Fn := allFns[n]?

/-- The class of a function after every reset (Table 3-1). -/
def Fn.resetClass : Fn → Nat
  | .fog => 3
  | .panel => 2
  | .interior => 3
  | .aux1 => 3
  | .aux2 => 3
  | .aux3 => 3
  | .fan => 2
  | _ => 0

/-- ignition_fed after every reset (Table 3-1). TELLTALE and MAINTELL have no yes or no of their own there ("follows the
flash engine", "follows MAIN"); the model holds no (DESIGN CHOICE, unsafe; log entry 7). -/
def Fn.resetIgnitionFed : Fn → Bool
  | .fog => true
  | .reverse => true
  | .brake => true
  | .indL => true
  | .indR => true
  | .fan => true
  | _ => false

/-- The functions whose class and ignition feed FNCFG may write (R42). -/
def Fn.configurable : Fn → Bool
  | .fog | .panel | .interior | .aux1 | .aux2 | .aux3 | .fan => true
  | _ => false

/-- Protected against FNSET and FNMULTI (R41). -/
def Fn.hostProtected : Fn → Bool
  | .indL | .indR | .telltale | .maintell => true
  | _ => false

/-- Protected against scenes (R41, R57). -/
def Fn.sceneProtected : Fn → Bool
  | .indL | .indR | .telltale | .maintell | .brake | .fan => true
  | _ => false

/-- Dimmable functions (Table 3-1, R16). -/
def Fn.dimmable : Fn → Bool
  | .panel | .interior | .aux1 | .aux2 | .aux3 => true
  | _ => false

/-- Functions whose channels are signalling channels (R2, R36). -/
def Fn.signalling : Fn → Bool
  | .brake | .indL | .indR | .telltale => true
  | _ => false

/-- Functions whose channels the flash engine drives (R78); a stop/turn channel serves IND_L or IND_R (R2). -/
def Fn.flashDrivenFn : Fn → Bool
  | .indL | .indR | .telltale => true
  | _ => false

/-! ### Enumeration codes (Table 11-2) -/

def OpState.code : OpState → Nat
  | .limp => 0
  | .drive => 1
  | .park => 2
  | .watch => 3
  | .sleep => 4

def LampState.code : LampState → Nat
  | .off => 0
  | .queued => 1
  | .inrush => 2
  | .on => 3
  | .tripped => 4
  | .lockedOut => 5

def FanState.code : FanState → Nat
  | .stopped => 0
  | .waiting => 1
  | .kick => 2
  | .ramping => 3
  | .running => 4
  | .stallWait => 5
  | .lockedOut => 6

def GaugeState.code : GaugeState → Nat
  | .off => 0
  | .run => 1
  | .test => 2
  | .outputFault => 3

def Reason.code : Reason → Nat
  | .none => 0
  | .demand => 1
  | .ignOff => 2
  | .shed => 3
  | .hold => 4
  | .fault => 5
  | .lockout => 6

def Sides.code : Sides → Nat
  | .none => 0
  | .left => 1
  | .right => 2
  | .both => 3

def FlashPhase.code : FlashPhase → Nat
  | .idle => 0
  | .on => 1
  | .off => 2

def CourtesyPhase.code : CourtesyPhase → Nat
  | .quiet => 0
  | .opened => 1
  | .dwell => 2
  | .fade => 3

def SenderStatus.code : SenderStatus → Nat
  | .ok => 0
  | .opened => 1
  | .short => 2

def LimitStatus.code : LimitStatus → Nat
  | .none => 0
  | .saturated => 1
  | .undervolt => 2

def FaultAction.code : FaultAction → Nat
  | .zero => 0
  | .keep => 1

def SenseMode.code : SenseMode → Nat
  | .sender => 0
  | .switch => 1

def Polarity.code : Polarity → Nat
  | .default => 0
  | .activeHigh => 1
  | .activeLow => 2

def SystemVoltage.code : SystemVoltage → Nat
  | .v6 => 6
  | .v12 => 12

/-- Start causes; NONE is 0. -/
def StartCause.code : StartCause → Nat
  | .powerOn => 1
  | .brownout => 2
  | .resetLine => 3
  | .restart => 4

def WakeCause.code : WakeCause → Nat
  | .ign => 0
  | .haz => 1
  | .door => 2
  | .request => 3
  | .rx => 4

/-- TEST_END details. -/
def testEndDone : Nat := 0
def testEndAborted : Nat := 1

/-- Result codes (Table 9-2). -/
def ResultCode.code : ResultCode → Byte
  | .ok => 0
  | .clamped => 1
  | .held => 2
  | .badKind => 3
  | .badLength => 4
  | .badValue => 5
  | .locked => 6
  | .notReady => 7
  | .isProtected => 8
  | .full => 9
  | .duplicate => 10
  | .unknown => 11
  | .ignOn => 12
  | .busy => 13

/-- The number of a switch input (Table 8-1). -/
def inputNumber : InputId → Nat
  | .ign => 0
  | .brake => 1
  | .haz => 2
  | .door => 3
  | .sw0 => 4
  | .sw1 => 5

/-- The switch inputs in number order. -/
def allInputs : List InputId := [.ign, .brake, .haz, .door, .sw0, .sw1]

/-- The default polarity of an input is ACTIVE_HIGH: a feed switch in a negative-earth car, an earthing switch in a
positive-earth car (Table 8-1). -/
def defaultActiveHigh (i : InputId) (earthPositive : Bool) : Bool :=
  match i with
  | .ign | .brake | .haz => !earthPositive
  | .door | .sw0 | .sw1 => earthPositive

/-! ### Events (Table 10-1) -/

/-- The code of an event kind, 1 to 20. -/
def EventKind.code : EventKind → Nat
  | .chTrip => 1
  | .chLockout => 2
  | .chLampOut => 3
  | .chLampOk => 4
  | .chFed => 5
  | .subst => 6
  | .shed => 7
  | .holdOn => 8
  | .holdOff => 9
  | .fanStall => 10
  | .fanLockout => 11
  | .gaugeSender => 12
  | .gaugeLimit => 13
  | .sceneEnd => 14
  | .input => 15
  | .state => 16
  | .linkSilent => 17
  | .charge => 18
  | .testEnd => 19
  | .woken => 20

/-- The kinds of the urgent lane. -/
def EventKind.urgent : EventKind → Bool
  | .chTrip | .chLockout | .chFed | .subst | .holdOn | .fanStall | .fanLockout | .linkSilent => true
  | _ => false

/-- The tag of a record in an EVFETCH reply (R184, Table 11-10). -/
def EventKind.tag (k : EventKind) (subject : Nat) : Nat :=
  match k with
  | .chTrip | .chLockout | .chLampOut | .chLampOk | .chFed | .subst => (k.code - 1) * 17 + subject + 1
  | .shed => 103
  | .holdOn => 104
  | .holdOff => 105
  | .fanStall => 106
  | .fanLockout => 107
  | .gaugeSender => 108 + subject
  | .gaugeLimit => 110 + subject
  | .sceneEnd => 112
  | .input => 113 + subject
  | .state => 119
  | .linkSilent => 120
  | .charge => 121
  | .testEnd => 122
  | .woken => 123

/-! ### Supply defaults (Table 7-2) -/

def SystemVoltage.vlow1 : SystemVoltage → Nat
  | .v6 => 5800
  | .v12 => 11600

def SystemVoltage.vlow2 : SystemVoltage → Nat
  | .v6 => 5500
  | .v12 => 11000

def SystemVoltage.vover : SystemVoltage → Nat
  | .v6 => 8200
  | .v12 => 16000

def SystemVoltage.vrelease : SystemVoltage → Nat
  | .v6 => 7600
  | .v12 => 15000

def SystemVoltage.chargeThreshold : SystemVoltage → Nat
  | .v6 => 6400
  | .v12 => 12800

/-- The gauge Vref default of a system voltage (Table 6-1, R140). -/
def SystemVoltage.vref : SystemVoltage → Nat
  | .v6 => 5000
  | .v12 => 10000

/-- One unit of 0.01 A·h in mA·s (Table 0-3). -/
def chargeUnit : Nat := 36000

end Sys2Proof.Machine
end

