-- ==== Sys2Proof/Machine/State.lean ====
section
/-! DEFINITION. The state of the part: the records of its ten blocks (Table 0-1), the queue of commands that wait, and the
state right after reset. -/

namespace Sys2Proof.Machine

/-! ### Channel bank -/

/-- The configuration fields of a lamp channel (Table 1-2). -/
structure LampCfg where
  fn : Option Fn
  stopTurn : Bool
  nominal : Nat
  lampOutPct : Nat
  tripPct : Nat
  inrushMs : Nat
  retryLimit : Nat
  deriving DecidableEq, Repr

/-- A run of consecutive samples that gave one verdict (R17, R19). -/
structure Run where
  verdict : Bool
  count : Nat
  deriving DecidableEq, Repr

/-- The record of a lamp channel (Tables 1-2 and 1-3). The applied duty is `State.appliedDuty`, computed from these (R16);
last sample and average stand in `Meas`, which every channel has. -/
structure LampRec where
  cfg : LampCfg
  /-- The spare's own configuration while it stands in for a primary (R23). -/
  setAside : Option LampCfg
  substituteFor : Option LampId
  state : LampState
  demand : Nat
  demandReason : Reason
  offReason : Reason
  lampOut : Bool
  fed : Bool
  retriesUsed : Nat
  onTime : Nat
  retryTimer : Nat
  inrushTimer : Nat
  granted : Bool
  /-- Consecutive samples above the threshold in force (R11). -/
  overCount : Nat
  /-- Agreeing samples of a steady ON channel; the verdict is "below the lamp-out threshold" (R17). -/
  lampRun : Run
  /-- Agreeing read-backs; the verdict is "fed" (R19). -/
  fedRun : Run
  /-- The last sample of the present ON phase, if one was taken while flash-driven (R18). -/
  phaseSample : Option Nat
  /-- The channel has just entered a channel list, so it is handed its value whether or not that changed (R48, R81). Clear
  between commands: the model's own field. -/
  entered : Bool
  deriving DecidableEq, Repr

/-- The current measurement of a channel (R3, R4). -/
structure Meas where
  last : Nat
  average : Nat
  /-- Sum of the slot values of the present 100-ms interval. -/
  slotSum : Nat
  /-- The newest slot value of the present interval. -/
  slotLast : Nat
  deriving DecidableEq, Repr

/-- A substitution entry (Table 1-6); `pair` is none while the entry is empty. -/
structure SubEntry where
  pair : Option (LampId × LampId)
  engaged : Bool
  deriving DecidableEq, Repr

/-- The channel bank's state. -/
structure Bank where
  lamps : Vector LampRec 14
  meas : Vector Meas 17
  subs : Vector SubEntry 3
  /-- A 100-ms interval is under way (it is not between a wake and the first mark after it, R126, R156). -/
  intervalOpen : Bool
  /-- The averages of the interval just closed are handed over and not yet evaluated (R127). -/
  averagesReady : Bool
  deriving DecidableEq, Repr

/-! ### Start arbiter -/

/-- An entry of the start queue: a channel 0 to 14 and the class it joined with (R29). The allowance in use is computed from
the grant holders (R30). -/
structure QEntry where
  ch : Fin 15
  cls : Nat
  deriving DecidableEq, Repr

/-! ### Function resolver -/

/-- A function record (R41). The channel list is `State.channelsOf`, computed from the bank's serving functions. -/
structure FnRec where
  cls : Nat
  ignitionFed : Bool
  base : Nat
  resolved : Nat
  reason : Reason
  deriving DecidableEq, Repr

/-- A scene (Table 3-5). -/
structure Scene where
  id : Byte
  entries : List (Fn × Nat)
  /-- Lifetime remaining in ms; none is absent. -/
  life : Option Nat
  deriving DecidableEq, Repr

/-- The courtesy record of INTERIOR (R41, R62, R63). -/
structure Courtesy where
  enable : Bool
  holdS : Nat
  phase : CourtesyPhase
  level : Nat
  /-- Time left of the dwell, or of the present step of the fade, in ms. -/
  timer : Nat
  deriving DecidableEq, Repr

/-- The function resolver's state. -/
structure Resolver where
  fns : Vector FnRec 16
  /-- Oldest first (R57). -/
  scenes : List Scene
  courtesy : Courtesy
  deriving DecidableEq, Repr

/-! ### Flash engine -/

/-- The flash record (Table 4-1). -/
structure Flash where
  phase : FlashPhase
  active : Sides
  hostSide : Sides
  hostHazard : Bool
  hazIn : Bool
  timer : Option Nat
  half : Nat
  fast : Bool
  rate : Nat
  deriving DecidableEq, Repr

/-! ### Fan controller -/

/-- The fan settings (Table 5-2). -/
structure FanSettings where
  duty1 : Nat
  duty2 : Nat
  duty3 : Nat
  duty4 : Nat
  kickTime : Nat
  slew : Nat
  stallCurrent : Nat
  stallTime : Nat
  retryLimit : Nat
  deriving DecidableEq, Repr

/-- The fan record (Table 5-1). -/
structure Fan where
  state : FanState
  step : Nat
  target : Nat
  applied : Nat
  kickTimer : Option Nat
  rampTimer : Option Nat
  stallTimer : Nat
  waitTimer : Option Nat
  retriesUsed : Nat
  runningTime : Nat
  granted : Bool
  settings : FanSettings
  deriving DecidableEq, Repr

/-! ### Gauge unit -/

/-- A point of a gauge curve (Table 6-1). -/
structure Point where
  ohms : Nat
  position : Nat
  deriving DecidableEq, Repr

/-- The configuration of a gauge (Table 6-1). -/
structure GaugeCfg where
  enabled : Bool
  rp : Nat
  curve : List Point
  k : Nat
  dfs : Nat
  vref : Nat
  faultAction : FaultAction
  deriving DecidableEq, Repr

/-- A gauge record (Tables 6-1 and 6-2). -/
structure Gauge where
  cfg : GaugeCfg
  /-- A pending curve: its point count n and its points 1 to 4 (R123). -/
  pendingCurve : Option (Nat × List Point)
  state : GaugeState
  code : Nat
  resistance : Option Nat
  lastGood : Option Nat
  sender : SenderStatus
  runClass : SenderStatus
  runCount : Nat
  target : Nat
  f : Nat
  p : Nat
  d : Nat
  limit : LimitStatus
  shortCount : Nat
  /-- The gauge has entered RUN from OFF and not yet been updated (R110). -/
  fresh : Bool
  /-- The sense samples of the present 100-ms interval, newest first (R107). -/
  samples : List Nat
  deriving DecidableEq, Repr

/-- The gauge unit's state; the test step is shared (R108). -/
structure GaugeUnit where
  gauges : Vector Gauge 2
  testStep : Nat
  deriving DecidableEq, Repr

/-! ### Supply monitor -/

/-- The supply settings (Table 7-2). -/
structure SupplySettings where
  system : SystemVoltage
  dynamo : Nat
  t1 : Nat
  t2 : Nat
  t3 : Nat
  h : Nat
  vlow1 : Nat
  vlow2 : Nat
  vover : Nat
  vrelease : Nat
  chargeThreshold : Nat
  deriving DecidableEq, Repr

/-- The supply record (Table 7-1) with its settings. -/
structure Supply where
  latest : Nat
  vs : Nat
  chg : Nat
  charging : Bool
  chargeCount : Nat
  iTotal : Nat
  account : Nat
  la : Nat
  below1 : Nat
  below2 : Nat
  recovery : Nat
  lv : Nat
  l : Nat
  hold : Bool
  releaseCount : Nat
  /-- The samples (BAT, CHG) of the present interval, newest first, at most ten (R126). -/
  samples : List (Nat × Nat)
  settings : SupplySettings
  deriving DecidableEq, Repr

/-! ### Input block -/

/-- The record of a switch input (R144, R145). -/
structure InRec where
  level : Bool
  count : Nat
  polarity : Polarity
  deriving DecidableEq, Repr

/-- The 40-ms confirmation window of SLEEP (R155): the levels and counts as debounced within it, the consecutive asserted
samples of IGN, HAZ and DOOR, and the changes of level held back, oldest first. -/
structure Window where
  levels : PerInput Bool
  counts : PerInput Nat
  ignRun : Nat
  hazRun : Nat
  doorRun : Nat
  held : List (InputId × Bool)
  deriving DecidableEq, Repr

/-- The input block's state. -/
structure Inputs where
  recs : PerInput InRec
  senseMode : Vector SenseMode 2
  /-- The earth polarity that POL gave at the last reset: `true` is positive earth (R143). -/
  earthPositive : Bool
  deriving DecidableEq, Repr

/-! ### Operating-state controller -/

/-- The operating-state controller's state (R146). -/
structure OpCtl where
  state : OpState
  configured : Bool
  sleepRequested : Bool
  linkSilent : Bool
  silenceTimer : Nat
  /-- Link timeout in units of 100 ms; 0 is off (R158). -/
  linkTimeout : Nat
  limpLighting : Bool
  silenceCount : Nat
  linkSilentLatch : Bool
  limpLatch : Bool
  window : Option Window
  /-- A reset condition holds the part (R160). -/
  resetHeld : Bool
  deriving DecidableEq, Repr

/-! ### Link and report block -/

/-- The body link's state (R162, R164, R165, R168). -/
structure Link where
  assembler : Assembler
  /-- Oldest first. -/
  inbound : List Frame
  shifting : Option Frame
  waiting : Option Frame
  overrun : Bool
  lineError : Bool
  formatError : Bool
  checkError : Bool
  /-- The 4 ms after a waking RX edge, in which the receiver is not running (R156, R169). -/
  receiverPaused : Bool
  /-- A RESTART stands taken (R150). -/
  restartTaken : Bool
  deriving DecidableEq, Repr

/-- An event record (R172). -/
structure EventRec where
  kind : EventKind
  subject : Nat
  detail : Nat
  count : Nat
  time : BitVec 16
  deriving DecidableEq, Repr

/-- The start-cause set: each cause at most once (R180). -/
structure CauseSet where
  powerOn : Bool
  brownout : Bool
  resetLine : Bool
  restart : Bool
  deriving DecidableEq, Repr

/-- The report half of the link and report block (chapter 10). ATTN is `State.attn`, computed from these (R177). -/
structure Report where
  /-- Head first: urgent records before ordinary ones (R172). -/
  events : List EventRec
  /-- Bit k−1 enables kind k (R175, Table 11-3). -/
  mask : BitVec 24
  overflow : Bool
  causes : CauseSet
  timeCount : BitVec 16
  deriving DecidableEq, Repr

/-! ### The whole part -/

/-- The state of the part. -/
structure State where
  bank : Bank
  queue : List QEntry
  resolver : Resolver
  flash : Flash
  fan : Fan
  gauges : GaugeUnit
  supply : Supply
  inputs : Inputs
  op : OpCtl
  link : Link
  report : Report
  /-- The model's own field: how many free values have been used (log entry 3). -/
  freeCount : Nat
  /-- The commands that wait, first in, first out. -/
  pending : List Instr
  deriving DecidableEq, Repr

/-- Why the part stops. The manual gives every step an effect in every state, so no command of this model stops: the type has
no constructor (safe: nothing is hidden behind a stop). -/
inductive Fault where
  deriving DecidableEq, Repr

/-- Why the model refuses a command. -/
inductive Refusal where
  /-- Raised by exec's arm of a command that has no meaning yet (safe: nothing is claimed of it). No arm raises it. -/
  | notModelled (mnemonic : String)
  deriving DecidableEq, Repr

/-! ### Reset values -/

/-- The configuration of a lamp channel after every reset (R28, Table 1-2). -/
def LampCfg.reset (ch : LampId) : LampCfg where
  fn := limpMap ch
  stopTurn := false
  nominal := nominalDefault ch
  lampOutPct := 50
  tripPct := 160
  inrushMs := 150
  retryLimit := 3

/-- A lamp channel after every reset (R28). That the inrush timer then reads 0 is the model's (DESIGN CHOICE, log entry 30: R28 and
Table 1-3 do not name it). -/
def LampRec.reset (ch : LampId) : LampRec where
  cfg := LampCfg.reset ch
  setAside := none
  substituteFor := none
  state := .off
  demand := 0
  demandReason := .demand
  offReason := .none
  lampOut := false
  fed := false
  retriesUsed := 0
  onTime := 0
  retryTimer := 0
  inrushTimer := 0
  granted := false
  overCount := 0
  lampRun := { verdict := false, count := 0 }
  fedRun := { verdict := false, count := 0 }
  phaseSample := none
  entered := false

/-- A measurement after every reset (R4). -/
def Meas.reset : Meas where
  last := 0
  average := 0
  slotSum := 0
  slotLast := 0

/-- The channel bank after every reset (R28). -/
def Bank.reset : Bank where
  lamps := #v[.reset 0, .reset 1, .reset 2, .reset 3, .reset 4, .reset 5, .reset 6, .reset 7, .reset 8, .reset 9,
    .reset 10, .reset 11, .reset 12, .reset 13]
  meas := #v[.reset, .reset, .reset, .reset, .reset, .reset, .reset, .reset, .reset, .reset, .reset, .reset, .reset,
    .reset, .reset, .reset, .reset]
  subs := #v[{ pair := none, engaged := false }, { pair := none, engaged := false }, { pair := none, engaged := false }]
  intervalOpen := true
  averagesReady := false

/-- A function record after every reset (R67). -/
def FnRec.reset (f : Fn) : FnRec where
  cls := f.resetClass
  ignitionFed := f.resetIgnitionFed
  base := 0
  resolved := 0
  reason := .none

/-- The resolver after every reset (R67). That the courtesy timer then reads 0 is the model's (DESIGN CHOICE, log entry 30: R67 gives
the phase and the level). -/
def Resolver.reset : Resolver where
  fns := #v[.reset .side, .reset .dip, .reset .main, .reset .fog, .reset .reverse, .reset .brake, .reset .indL,
    .reset .indR, .reset .telltale, .reset .maintell, .reset .panel, .reset .interior, .reset .aux1, .reset .aux2,
    .reset .aux3, .reset .fan]
  scenes := []
  courtesy := { enable := true, holdS := 15, phase := .quiet, level := 0, timer := 0 }

/-- The flash record after every reset (Table 4-1). -/
def Flash.reset : Flash where
  phase := .idle
  active := .none
  hostSide := .none
  hostHazard := false
  hazIn := false
  timer := none
  half := 0
  fast := false
  rate := 90

/-- The fan record and settings after every reset (R106). -/
def Fan.reset : Fan where
  state := .stopped
  step := 0
  target := 0
  applied := 0
  kickTimer := none
  rampTimer := none
  stallTimer := 0
  waitTimer := none
  retriesUsed := 0
  runningTime := 0
  granted := false
  settings :=
    { duty1 := 350, duty2 := 550, duty3 := 750, duty4 := 1000, kickTime := 300, slew := 50, stallCurrent := 9000,
      stallTime := 500, retryLimit := 3 }

/-- A gauge record after every reset (R125). The class of the persistence run is OK, with a count of 0 (DESIGN CHOICE, log entry
30: the manual gives the count alone). -/
def Gauge.reset : Gauge where
  cfg :=
    { enabled := false, rp := 220, curve := [{ ohms := 30, position := 1000 }, { ohms := 240, position := 0 }], k := 32,
      dfs := 600, vref := 10000, faultAction := .zero }
  pendingCurve := none
  state := .off
  code := 0
  resistance := none
  lastGood := none
  sender := .ok
  runClass := .ok
  runCount := 0
  target := 0
  f := 0
  p := 0
  d := 0
  limit := .none
  shortCount := 0
  fresh := false
  samples := []

/-- The supply settings after every reset: the 12 V defaults (R142, Table 7-2). -/
def SupplySettings.reset : SupplySettings where
  system := .v12
  dynamo := 19000
  t1 := 50
  t2 := 100
  t3 := 200
  h := 5
  vlow1 := 11600
  vlow2 := 11000
  vover := 16000
  vrelease := 15000
  chargeThreshold := 12800

/-- The supply record after every reset (R142, Table 7-1). -/
def Supply.reset : Supply where
  latest := 0
  vs := 0
  chg := 0
  charging := false
  chargeCount := 0
  iTotal := 0
  account := 0
  la := 0
  below1 := 0
  below2 := 0
  recovery := 0
  lv := 0
  l := 0
  hold := false
  releaseCount := 0
  samples := []
  settings := SupplySettings.reset

/-- A switch input after every reset (R144, R145). -/
def InRec.reset : InRec where
  level := false
  count := 0
  polarity := .default

/-- The input block after every reset; POL is taken as strapped to GND here (DESIGN CHOICE, unsafe; log entry 1). -/
def Inputs.reset : Inputs where
  recs := { ign := .reset, brake := .reset, haz := .reset, door := .reset, sw0 := .reset, sw1 := .reset }
  senseMode := #v[.sender, .sender]
  earthPositive := false

/-- The operating-state controller after every reset (R160, R158). -/
def OpCtl.reset : OpCtl where
  state := .limp
  configured := false
  sleepRequested := false
  linkSilent := false
  silenceTimer := 0
  linkTimeout := 20
  limpLighting := false
  silenceCount := 0
  linkSilentLatch := false
  limpLatch := false
  window := none
  resetHeld := false

/-- The body link after every reset (R171). -/
def Link.reset : Link where
  assembler := .hunt
  inbound := []
  shifting := none
  waiting := none
  overrun := false
  lineError := false
  formatError := false
  checkError := false
  receiverPaused := false
  restartTaken := false

/-- The report half after every reset (R172, R175, R178); the start-cause set is that of a first power-on (R180, log
entry 1). -/
def Report.reset : Report where
  events := []
  mask := 0x0FFFFF
  overflow := false
  causes := { powerOn := true, brownout := false, resetLine := false, restart := false }
  timeCount := 0

/-- The part right after a POWER_ON reset is released, in a negative-earth car (log entry 1), with no command waiting. -/
def State.reset : State where
  bank := Bank.reset
  queue := []
  resolver := Resolver.reset
  flash := Flash.reset
  fan := Fan.reset
  gauges := { gauges := #v[.reset, .reset], testStep := 0 }
  supply := Supply.reset
  inputs := Inputs.reset
  op := OpCtl.reset
  link := Link.reset
  report := Report.reset
  freeCount := 0
  pending := []

end Sys2Proof.Machine
end

