-- ==== Sys2Proof/Machine/Ops.lean ====
section
/-! DEFINITION. The named reads and writes of the records, the events, the serving functions and the outputs of the part. -/

namespace Sys2Proof

/-- One entry of a record with a value for each switch input. -/
def PerInput.get (x : PerInput α) : InputId → α
  | .ign => x.ign
  | .brake => x.brake
  | .haz => x.haz
  | .door => x.door
  | .sw0 => x.sw0
  | .sw1 => x.sw1

/-- Replace one entry of a record with a value for each switch input. -/
def PerInput.put (x : PerInput α) (i : InputId) (a : α) : PerInput α :=
  match i with
  | .ign => { x with ign := a }
  | .brake => { x with brake := a }
  | .haz => { x with haz := a }
  | .door => { x with door := a }
  | .sw0 => { x with sw0 := a }
  | .sw1 => { x with sw1 := a }

end Sys2Proof

namespace Sys2Proof.Machine

/-! ### Reading and writing records -/

/-- The record of a lamp channel. -/
def State.lamp (s : State) (ch : LampId) : LampRec := s.bank.lamps[ch]

/-- Replace the record of a lamp channel. -/
def State.setLamp (s : State) (ch : LampId) (r : LampRec) : State :=
  { s with bank := { s.bank with lamps := s.bank.lamps.set ch r } }

/-- The measurement of a channel. -/
def State.measOf (s : State) (ch : ChanId) : Meas := s.bank.meas[ch]

/-- Replace the measurement of a channel. -/
def State.setMeas (s : State) (ch : ChanId) (m : Meas) : State :=
  { s with bank := { s.bank with meas := s.bank.meas.set ch m } }

/-- A substitution entry. -/
def State.subEntry (s : State) (e : Fin 3) : SubEntry := s.bank.subs[e]

/-- Replace a substitution entry. -/
def State.setSub (s : State) (e : Fin 3) (x : SubEntry) : State :=
  { s with bank := { s.bank with subs := s.bank.subs.set e x } }

/-- The substitution entries in ascending order. -/
def allSubs : List (Fin 3) := [0, 1, 2]

/-- A function record. -/
def State.fnRec (s : State) (f : Fn) : FnRec := s.resolver.fns[f.code]

/-- Replace a function record. -/
def State.setFn (s : State) (f : Fn) (r : FnRec) : State :=
  { s with resolver := { s.resolver with fns := s.resolver.fns.set f.code r } }

/-- A gauge record. -/
def State.gauge (s : State) (g : GaugeId) : Gauge := s.gauges.gauges[g]

/-- Replace a gauge record. -/
def State.setGauge (s : State) (g : GaugeId) (r : Gauge) : State :=
  { s with gauges := { s.gauges with gauges := s.gauges.gauges.set g r } }

/-- The gauges in order. -/
def allGauges : List GaugeId := [0, 1]

/-- The mode of a sense pin. -/
def State.senseModeOf (s : State) (g : GaugeId) : SenseMode := s.inputs.senseMode[g]

/-- The record of a switch input. -/
def State.inRec (s : State) (i : InputId) : InRec := s.inputs.recs.get i

/-- Replace the record of a switch input. -/
def State.setInRec (s : State) (i : InputId) (r : InRec) : State :=
  { s with inputs := { s.inputs with recs := s.inputs.recs.put i r } }

/-- The debounced level of a switch input (R144). -/
def State.level (s : State) (i : InputId) : Bool := (s.inRec i).level

/-! ### Events (R173, R174) -/

/-- Two records of one kind and subject. -/
def EventRec.same (a b : EventRec) : Bool := a.kind == b.kind && a.subject == b.subject

/-- Coalescing: the record keeps its place and its subject, its count rises to at most 255, its detail and time become those
of the new occurrence (R173 step 2). -/
def EventRec.coalesce (old new : EventRec) : EventRec :=
  { old with detail := new.detail, count := min 255 (old.count + 1), time := new.time }

/-- A new record at its place: urgent after the last urgent record, ordinary at the tail (R173 step 3). -/
def placeEvent (q : List EventRec) (r : EventRec) : List EventRec :=
  if r.kind.urgent then
    q.filter (fun x => x.kind.urgent) ++ r :: q.filter (fun x => !x.kind.urgent)
  else q ++ [r]

/-- An occurrence that the mask lets through: the queue after it, and whether something was lost (R173, R174). -/
def insertEvent (q : List EventRec) (r : EventRec) : List EventRec × Bool :=
  if q.any (fun x => x.same r) then (q.map (fun x => if x.same r then x.coalesce r else x), false)
  else if q.length < 16 then (placeEvent q r, false)
  else if !r.kind.urgent then (q, true)
  else if q.all (fun x => x.kind.urgent) then (q, true)
  else (placeEvent q.dropLast r, true)

/-- The event mask enables a kind (R175). -/
def State.eventEnabled (s : State) (k : EventKind) : Bool := s.report.mask.getLsbD (k.code - 1)

/-- A block raises an event (R173); the detail is a two-byte field (R172, R181). -/
def State.raise (s : State) (k : EventKind) (subject detail : Nat) : State :=
  if s.eventEnabled k then
    let r : EventRec :=
      { kind := k, subject := subject, detail := min 65535 detail, count := 1, time := s.report.timeCount }
    let q := insertEvent s.report.events r
    { s with report := { s.report with events := q.1, overflow := s.report.overflow || q.2 } }
  else s

/-! ### Serving functions (R2) -/

/-- The serving function of a lamp channel in an operating state (R2): the limp map in LIMP, otherwise the configured
function, or the primary's for a spare that stands in. -/
def Bank.servingIn (b : Bank) (op : OpState) (ch : LampId) : Option Fn :=
  if op = .limp then limpMap ch
  else
    match b.lamps[ch].substituteFor with
    | some p => b.lamps[p].cfg.fn
    | none => b.lamps[ch].cfg.fn

/-- The serving function of a lamp channel (R2). -/
def State.serving (s : State) (ch : LampId) : Option Fn := s.bank.servingIn s.op.state ch

/-- The lamp channels serving a function, ascending: its channel list (R41). -/
def State.channelsOf (s : State) (f : Fn) : List LampId := allLamps.filter (fun ch => s.serving ch == some f)

/-- A stop/turn channel: serving IND_L or IND_R with stop_turn in effect, which it never is in LIMP (R2). -/
def State.stopTurnChannel (s : State) (ch : LampId) : Bool :=
  s.op.state != .limp && (s.lamp ch).cfg.stopTurn &&
    (s.serving ch == some .indL || s.serving ch == some .indR)

/-- A signalling channel (R2, R36). -/
def State.signalling (s : State) (ch : LampId) : Bool := (s.serving ch).any Fn.signalling

/-- A driven channel: the flash engine hands it its values (R78). -/
def State.driven (s : State) (ch : LampId) : Bool := (s.serving ch).any Fn.flashDrivenFn

/-- The side of an indicator function stands in the active set. -/
def sideActive (active : Sides) (f : Fn) : Bool :=
  match f with
  | .indL => active == .left || active == .both
  | .indR => active == .right || active == .both
  | _ => false

/-- Flash-driven under a given flash record: an indicator channel whose side is in the active set, or a TELLTALE channel (R18,
R80). -/
def State.flashDrivenBy (s : State) (fl : Flash) (ch : LampId) : Bool :=
  match s.serving ch with
  | some .telltale => true
  | some f => sideActive fl.active f
  | none => false

/-- Flash-driven now (R18). -/
def State.flashDriven (s : State) (ch : LampId) : Bool := s.flashDrivenBy s.flash ch

/-! ### Thresholds (R5) -/

/-- The lamp-out threshold. -/
def lampOutThreshold (c : LampCfg) : Nat := c.nominal * c.lampOutPct / 100

/-- The trip threshold, clamped to the kind's maximum continuous current. -/
def tripThreshold (ch : LampId) (c : LampCfg) : Nat := min (c.nominal * c.tripPct / 100) (maxContinuous ch)

/-- The inrush trip threshold, clamped to the kind's hard limit. -/
def inrushTripThreshold (ch : LampId) (c : LampCfg) : Nat := min (8 * c.nominal) (hardLimit ch)

/-! ### Outputs -/

/-- The applied duty of a lamp channel in percent (R16). -/
def State.appliedDuty (s : State) (ch : LampId) : Nat :=
  let c := s.lamp ch
  if s.supply.hold then 0
  else
    match c.state with
    | .inrush | .on =>
      if c.demand = 0 then 0
      else if isHeavy ch then 100
      else if (s.serving ch).any Fn.dimmable then c.demand
      else 100
    | _ => 0

/-- The states in which the fan's output is on (R90). -/
def FanState.conducts : FanState → Bool
  | .kick | .ramping | .running => true
  | _ => false

/-- The fan's output conducts in some part of its period: it is on, at a duty other than 0, which a ramp after a kick time of 0
starts at (R90, R93). -/
def Fan.driven (f : Fan) : Bool := f.state.conducts && f.applied != 0

/-- The duty in per mille at which an output pin is driven: H0–H3 and L0–L9 for the lamp channels, M0 for channel 14, G0 and
G1 for 15 and 16. Every output is off while a reset is held (R160) and while HOLD stands (R20). -/
def State.outputDuty (s : State) (ch : ChanId) : Nat :=
  if s.op.resetHeld || s.supply.hold || s.op.state == .sleep then 0
  else if h : ch.val < 14 then 10 * s.appliedDuty ⟨ch.val, h⟩
  else if ch.val = 14 then (if s.fan.driven then s.fan.applied else 0)
  else if ch.val = 15 then (s.gauge 0).d
  else (s.gauge 1).d

/-- The side of the battery to which every output switches its load: the negative side in a positive-earth car, by the sample of
POL that the last reset's release took (R143). -/
def State.outputSide (s : State) : BatterySide := if s.inputs.earthPositive then .negative else .positive

/-- What an output pin carries: the side it switches its load to, and the duty in per mille; none while it is off (R143, R160,
R20). -/
def State.output (s : State) (ch : ChanId) : Option (BatterySide × Nat) :=
  if s.outputDuty ch = 0 then none else some (s.outputSide, s.outputDuty ch)

/-- The SREF output is driven at 5.0 V (R107). -/
def State.sref (s : State) : Bool :=
  !s.op.resetHeld && s.op.state != .sleep && (s.senseModeOf 0 == .sender || s.senseModeOf 1 == .sender)

/-- ATTN is asserted (R177, R160). -/
def State.attn (s : State) : Bool :=
  !s.report.events.isEmpty && s.op.state != .sleep && !s.op.resetHeld

/-- TX is sending a reply (R168, R171). -/
def State.txBusy (s : State) : Bool := s.link.shifting.isSome && !s.op.resetHeld

/-- What TX carries from the start bit of the reply in the shifting stage on: the bits of that reply, then without a gap those of the
reply in the waiting stage; the line rests at the stop level before and after (R161, R168). While a reset is held it carries
nothing (R160, R171). -/
def State.txLine (s : State) : List Bool :=
  if s.op.resetHeld then [] else (s.link.shifting.toList ++ s.link.waiting.toList).flatMap Frame.lineBits

/-! ### The allowance (R30) -/

/-- A lamp channel's part of the allowance in use. -/
def State.lampGrantWeight (s : State) (ch : LampId) : Nat :=
  if (s.lamp ch).state = .inrush ∧ (s.lamp ch).granted then startWeight ⟨ch.val, by omega⟩ else 0

/-- The allowance in use: the sum of the weights of the grant holders (R30). -/
def State.allowanceInUse (s : State) : Nat :=
  (allLamps.map s.lampGrantWeight).sum + (if s.fan.granted then startWeight 14 else 0)

/-! ### Resets (R160) -/

/-- Every block at the values its chapter gives after every reset, with POL sampled; the start-cause set survives (R160,
R180), and so do the commands that wait and the model's own counter. -/
def State.afterReset (s : State) (polOpen : Bool) : State :=
  { State.reset with
    inputs := { Inputs.reset with earthPositive := polOpen }
    report := { Report.reset with causes := s.report.causes }
    freeCount := s.freeCount
    pending := s.pending }

/-- A command acts only while no reset holds the part (R160, R171). -/
def State.live (s : State) (k : State → State) : Host.Outcome State Fault Refusal :=
  if s.op.resetHeld then .next s else .next (k s)

end Sys2Proof.Machine
end

