-- ==== Sys2Proof/Machine/Arbiter.lean ====
section
/-! DEFINITION. The start arbiter (chapter 2) and the fan's ramp, which a grant may start. -/

namespace Sys2Proof.Machine

/-! ### Turn-ons and grants -/

/-- A lamp channel enters INRUSH: the window is loaded, the consecutive-trip count restarts (R9, R11). -/
def LampRec.enterInrush (c : LampRec) (granted : Bool) : LampRec :=
  { c with state := .inrush, granted := granted, inrushTimer := c.cfg.inrushMs, overCount := 0, offReason := .none }

/-- The fan enters RAMPING at an applied duty; where that is already the target it goes to RUNNING at once, with
running_time 0 (R94, R96). -/
def Fan.enterRamping (f : Fan) (applied : Nat) : Fan :=
  if applied = f.target then
    { f with state := .running, applied := applied, rampTimer := none, runningTime := 0 }
  else
    { f with state := .ramping, applied := applied, rampTimer := some 100, runningTime := 0 }

/-- The fan is granted: KICK at full duty, or straight to RAMPING where the kick time is 0 (R93, R39). -/
def Fan.takeGrant (f : Fan) : Fan :=
  if f.settings.kickTime = 0 then
    Fan.enterRamping { f with granted := false, stallTimer := 0 } 0
  else
    { f with state := .kick, applied := 1000, kickTimer := some f.settings.kickTime, granted := true, stallTimer := 0 }

/-- A grant reaches its channel (R31). -/
def State.grant (s : State) (ch : Fin 15) : State :=
  if h : ch.val < 14 then
    s.setLamp ⟨ch.val, h⟩ ((s.lamp ⟨ch.val, h⟩).enterInrush true)
  else { s with fan := s.fan.takeGrant }

/-- The grant pass over the queue: heads are granted while they fit in the free allowance, and the head is never passed over
(R31). -/
def State.grantPass : List QEntry → State → State
  | [], s => { s with queue := [] }
  | e :: q, s =>
    if startWeight e.ch ≤ 4 - s.allowanceInUse then State.grantPass q (s.grant e.ch)
    else { s with queue := e :: q }

/-! ### Joins and removals -/

/-- A channel waits for a grant: a lamp channel in QUEUED, the fan in WAITING (R29). -/
def State.waits (s : State) (ch : Fin 15) : Bool :=
  if h : ch.val < 14 then (s.lamp ⟨ch.val, h⟩).state == .queued else s.fan.state == .waiting

/-- Channels 0 to 14 in ascending order. -/
def allQueueable : List (Fin 15) := [0, 1, 2, 3, 4, 5, 6, 7, 8, 9, 10, 11, 12, 13, 14]

/-- The class a channel joins with: that of its serving function, or of FAN for channel 14 (R29). -/
def State.joinClass (s : State) (ch : Fin 15) : Nat :=
  if h : ch.val < 14 then
    match s.serving ⟨ch.val, h⟩ with
    | some f => (s.fnRec f).cls
    | none => 0
  else (s.fnRec .fan).cls

/-- The entries whose channels still wait (R34). -/
def State.stillQueued (s : State) : List QEntry := s.queue.filter (fun e => s.waits e.ch)

/-- The entries of one join: the waiting channels that hold no entry yet, in ascending channel order (R32, R33). -/
def State.newEntries (s : State) : List QEntry :=
  (allQueueable.filter (fun ch => s.waits ch && !(s.stillQueued.any (fun e => e.ch == ch)))).map
    (fun ch => { ch := ch, cls := s.joinClass ch })

/-- An entry of the class-0 group (R29). -/
def QEntry.classZero (e : QEntry) : Bool := e.cls == 0

/-- The queue after a removal and a join: each group keeps its order and the new entries follow it (R32, R33, R34). -/
def State.joinedQueue (s : State) : List QEntry :=
  s.stillQueued.filter QEntry.classZero ++ s.newEntries.filter QEntry.classZero ++
    (s.stillQueued.filter (fun e => !e.classZero) ++ s.newEntries.filter (fun e => !e.classZero))

/-- The entries of channels that no longer wait leave, and a pass follows (R34, R35, R31). -/
def State.removalPass (s : State) : State := State.grantPass s.stillQueued s

/-- The channels that wait without an entry join, and a pass follows (R32, R33, R31). -/
def State.joinPass (s : State) : State := State.grantPass s.joinedQueue s

/-- What the arbiter does after any change of the queue or the allowance: the removals and releases with their pass, then one
join with its own (R31 to R35; log entry 5, DEDUCED, for their order within one cause). -/
def State.arbitrate (s : State) : State := s.removalPass.joinPass

/-- Take a channel's entry out of the queue whatever its state (R38). -/
def State.dropEntry (s : State) (ch : LampId) : State :=
  { s with queue := s.queue.filter (fun e => e.ch.val != ch.val) }

end Sys2Proof.Machine
end

