-- ==== Sys2Proof/Machine/Resolver.lean ====
section
/-! DEFINITION. The function resolver: resolution by the steps of R49 to R56, and what is withheld (R46). -/

namespace Sys2Proof.Machine

/-- The value a scene gives a function, if it names it. -/
def Scene.valueOf (sc : Scene) (f : Fn) : Option Nat := (sc.entries.find? (fun e => e.1 == f)).map (·.2)

/-- The value of the newest scene that names a function (R49). -/
def newestScene (scenes : List Scene) (f : Fn) : Option Nat := scenes.reverse.findSome? (fun sc => sc.valueOf f)

/-- The starting value: limp lighting for DIP and SIDE in LIMP, the base demand otherwise (R49). -/
def State.startValue (s : State) (f : Fn) : Nat :=
  if s.op.state = .limp ∧ (f = .dip ∨ f = .side) then (if s.op.limpLighting then 100 else 0)
  else (s.fnRec f).base

/-- The value after the scene list (R49). -/
def State.sceneValue (s : State) (f : Fn) : Nat :=
  if f.sceneProtected then s.startValue f
  else (newestScene s.resolver.scenes f).getD (s.startValue f)

/-- The value before the gates: the courtesy lamp and the BRAKE input have acted (R50). -/
def State.openValue (s : State) (f : Fn) : Nat :=
  match f with
  | .interior => max (s.sceneValue .interior) s.resolver.courtesy.level
  | .brake => if s.level .brake then 100 else s.sceneValue .brake
  | f => s.sceneValue f

/-- The ignition gate is open for a function (R51). -/
def State.ignitionGateOpen (s : State) (f : Fn) : Bool :=
  match s.op.state with
  | .drive => true
  | .limp => f != .fan && s.level .ign
  | .park | .watch | .sleep => false

/-- The shed gate affects a class at a shed level (R52). -/
def shedAffects (cls l : Nat) : Bool := 1 ≤ cls && 4 - cls ≤ l

/-- PANEL under shedding: halved and rounded up, raised to 10, never more than it was (R53). -/
def panelShed (v : Nat) : Nat := min v (max 10 ((v + 1) / 2))

/-- The reduction of the FAN step (R54). -/
def fanReduction (cls l : Nat) : Nat := l - (4 - cls) + 1

/-- The value the shed gate lets through where it affects the function (R52, R53, R54). -/
def shedValue (f : Fn) (cls l v : Nat) : Nat :=
  match f with
  | .panel => panelShed v
  | .fan => v - fanReduction cls l
  | _ => 0

/-- The value after both gates, and the gate that lowered it (R51 to R54; DEDUCED, log entry 6: a gate gives its reason where it lowers
a value, as R48 says). -/
def State.gatedValue (s : State) (f : Fn) : Nat × Reason :=
  let r := s.fnRec f
  let v := s.openValue f
  if r.ignitionFed && !s.ignitionGateOpen f then (0, if v = 0 then .none else .ignOff)
  else if shedAffects r.cls s.supply.l then
    let w := shedValue f r.cls s.supply.l v
    (w, if w < v then .shed else .none)
  else (v, .none)

/-- The resolved value and the gate's reason. MAINTELL follows MAIN; the flash engine's functions are not resolved (R55). -/
def State.resolve (s : State) (f : Fn) : Nat × Reason :=
  match f with
  | .indL | .indR | .telltale => (0, .none)
  | .maintell => (if (s.gatedValue .main).1 = 0 then 0 else 100, .none)
  | f => s.gatedValue f

/-- The resolved reason of the record: HOLD while HOLD stands and the value is nonzero (R48, R56). -/
def State.resolvedReason (s : State) (v : Nat × Reason) : Reason :=
  if s.supply.hold && v.1 != 0 then .hold else v.2

/-- Resolve one function into its record. -/
def State.resolveFn (s : State) (f : Fn) : State :=
  let v := s.resolve f
  s.setFn f { s.fnRec f with resolved := v.1, reason := s.resolvedReason v }

/-- Resolve every function (R48). A function whose inputs did not change resolves to what it holds. -/
def State.resolveAll (s : State) : State := allFns.foldl State.resolveFn s

/-- A function is withheld: its resolved value is lower than with the gates open, or HOLD stands while it is nonzero (R46). -/
def State.withheld (s : State) (f : Fn) : Bool :=
  (s.resolve f).1 < s.openValue f || (s.supply.hold && (s.resolve f).1 != 0)

/-- The reason that goes with a value handed to a channel: the gate's with a 0, none (DEMAND in the channel's record)
otherwise (R48, R7). -/
def carriedReason (v : Nat) (r : Reason) : Reason :=
  if v = 0 then
    match r with
    | .ignOff => .ignOff
    | .shed => .shed
    | _ => .demand
  else .demand

end Sys2Proof.Machine
end

