-- ==== Sys2Proof/Machine/FlashEngine.lean ====
section
/-! DEFINITION. The flash engine (chapter 4): the wanted set, ON starts, the values of Table 4-4, lamp-out at the end of an
ON phase. -/

namespace Sys2Proof.Machine

/-- The normal half-period of a rate (R69). -/
def halfNormal (rate : Nat) : Nat := 10 * (3000 / rate)

/-- The fast half-period of a rate (R69). -/
def halfFast (rate : Nat) : Nat := 10 * (1500 / rate)

/-- Hazard is asserted (R71). -/
def Flash.hazard (f : Flash) : Bool := f.hazIn || f.hostHazard

/-- The wanted set (R72). -/
def State.wanted (s : State) : Sides :=
  if s.flash.hazard then .both
  else if s.op.state = .drive then s.flash.hostSide
  else .none

/-- A channel serving a function has its lamp_out flag set (R74). -/
def State.anyLampOut (s : State) (f : Fn) : Bool := (s.channelsOf f).any (fun ch => (s.lamp ch).lampOut)

/-- The fast flag decided at an ON start (R74). -/
def State.fastFor (s : State) (set : Sides) : Bool :=
  match set with
  | .left => s.anyLampOut .indL
  | .right => s.anyLampOut .indR
  | _ => false

/-- A channel that ceases to be flash-driven restarts its count of agreeing samples (R17). -/
def State.restartIfCeased (fl : Flash) (s : State) (ch : LampId) : State :=
  if s.flashDriven ch && !s.flashDrivenBy fl ch then
    s.setLamp ch { s.lamp ch with lampRun := { verdict := false, count := 0 } }
  else s

/-- The flash record changes. -/
def State.setFlash (s : State) (fl : Flash) : State :=
  { allLamps.foldl (State.restartIfCeased fl) s with flash := fl }

/-- No sample of the new ON phase has been taken (R18). -/
def State.clearPhaseSample (s : State) (ch : LampId) : State :=
  s.setLamp ch { s.lamp ch with phaseSample := none }

/-- An ON phase begins with an active set (R73). The values it gives are handed on by `State.settle`. -/
def State.onStart (s : State) (set : Sides) : State :=
  let fast := s.fastFor set
  let half := if fast then halfFast s.flash.rate else halfNormal s.flash.rate
  let s1 := allLamps.foldl State.clearPhaseSample s
  s1.setFlash { s.flash with phase := .on, active := set, fast := fast, half := half, timer := some half }

/-- In IDLE a wanted set other than NONE begins an ON phase at once (R73). In SLEEP the engine does nothing (R88). -/
def State.flashPoke (s : State) : State :=
  if s.flash.phase = .idle ∧ s.wanted ≠ .none ∧ s.op.state ≠ .sleep then s.onStart s.wanted else s

/-- The value Table 4-4 gives a driven channel (R78, R79). -/
def State.flashValue (s : State) (ch : LampId) (f : Fn) : Nat :=
  if f = .telltale then (if s.flash.phase = .on then 100 else 0)
  else if sideActive s.flash.active f then (if s.flash.phase = .on then 100 else 0)
  else if s.stopTurnChannel ch then (s.fnRec .brake).resolved
  else 0

/-- The lamp_out flag takes a verdict, with its event on a change (R17, R18). -/
def State.setLampOut (s : State) (ch : LampId) (out : Bool) (milliamps : Nat) : State :=
  let c := s.lamp ch
  if c.lampOut = out then s
  else (s.setLamp ch { c with lampOut := out }).raise (if out then .chLampOut else .chLampOk) ch.val milliamps

/-- The lamp_out decision of a flash-driven channel at the end of an ON phase: by the last sample of the phase, also where the
channel tripped or restarted part-way through it; with no sample the verdict stands (R18; DEDUCED, log entry 33, against the
"whole ON phase" of R82). -/
def State.decidePhase (s : State) (ch : LampId) : State :=
  if s.flashDriven ch then
    match (s.lamp ch).phaseSample with
    | some v => s.setLampOut ch (v < lampOutThreshold (s.lamp ch).cfg) v
    | none => s
  else s

end Sys2Proof.Machine
end

