-- ==== Sys2Proof/Machine/FanControl.lean ====
section
/-! DEFINITION. The fan controller (chapter 5): steps, stops, stalls and clearing. -/

namespace Sys2Proof.Machine

/-- The duty of a step; 0 for step 0 (R91, Table 5-2). -/
def FanSettings.dutyOf (x : FanSettings) (step : Nat) : Nat :=
  match step with
  | 0 => 0
  | 1 => x.duty1
  | 2 => x.duty2
  | 3 => x.duty3
  | _ => x.duty4

/-- The fan goes to STOPPED: applied duty 0, every timer stopped, a grant given back (Table 5-3, R101, R102). retries_used is
kept. -/
def Fan.stop (f : Fan) : Fan :=
  { f with
    state := .stopped
    applied := 0
    kickTimer := none
    rampTimer := none
    stallTimer := 0
    waitTimer := none
    runningTime := 0
    granted := false }

/-- The fan goes to WAITING (R92). The arbiter finds it there and lets it join. -/
def Fan.startWaiting (f : Fan) : Fan :=
  { f with state := .waiting, stallTimer := 0, waitTimer := none, runningTime := 0 }

/-- A new resolved step (R91, Table 5-3, R95). -/
def Fan.takeStep (f : Fan) (step : Nat) (hold : Bool) : Fan :=
  let g := { f with step := step, target := f.settings.dutyOf step }
  match f.state with
  | .stopped => if step != 0 && !hold then g.startWaiting else g
  | .waiting | .kick | .ramping => if step = 0 then g.stop else g
  | .running =>
    if step = 0 then g.stop
    else if g.target = g.applied then g
    else { g with state := .ramping, rampTimer := some 100, runningTime := 0 }
  | .stallWait | .lockedOut => g

/-- The resolved step reaches the controller where it differs from the one stored (R91). -/
def State.fanFollow (s : State) : State :=
  if (s.fnRec .fan).resolved = s.fan.step then s
  else { s with fan := s.fan.takeStep (s.fnRec .fan).resolved s.supply.hold }

/-- A fan in STOPPED with a nonzero step goes to WAITING while HOLD does not stand (R92, R100, R101). -/
def State.fanStart (s : State) : State :=
  if s.fan.state = .stopped ∧ s.fan.step ≠ 0 ∧ s.supply.hold = false then { s with fan := s.fan.startWaiting } else s

/-- Leaving DRIVE stops the fan unless it is locked out (R102). -/
def Fan.leaveDrive (f : Fan) : Fan := if f.state = .lockedOut then f else f.stop

/-- HOLD stops the fan by its state (R101). -/
def Fan.onHold (f : Fan) : Fan :=
  match f.state with
  | .waiting | .kick | .ramping | .running => f.stop
  | .stopped | .stallWait | .lockedOut => f

/-- A lockout is cleared: STOPPED with retries_used 0, stall timer 0 and running_time 0 (R100). -/
def Fan.clearLockout (f : Fan) : Fan :=
  if f.state = .lockedOut then { f.stop with retriesUsed := 0 } else f

/-- The stall timer after a sample in RAMPING or RUNNING (R97). -/
def Fan.stallTimerAfter (f : Fan) (milliamps : Nat) : Nat :=
  if f.settings.stallCurrent ≤ milliamps then f.stallTimer + 10 else 0

/-- A sample finds a stall (R97). None is taken at an applied duty of 0 (R90). -/
def Fan.stalls (f : Fan) (milliamps : Nat) : Bool :=
  f.driven && (30000 ≤ milliamps || (f.state != .kick && f.settings.stallTime ≤ f.stallTimerAfter milliamps))

/-- A stall is found (R98): the output off, FAN_STALL, then STALL_WAIT or the lockout with its event. -/
def State.fanStalled (s : State) (milliamps : Nat) : State :=
  let f := s.fan
  let s1 := { s with fan := f.stop }.raise .fanStall 14 milliamps
  if f.retriesUsed < f.settings.retryLimit then
    { s1 with fan := { f.stop with state := .stallWait, waitTimer := some 5000, retriesUsed := f.retriesUsed + 1 } }
  else
    { s1 with fan := { f.stop with state := .lockedOut } }.raise .fanLockout 14 f.retriesUsed

/-- The ramp timer expires (R94). -/
def Fan.rampExpiry (f : Fan) : Fan :=
  if (f.applied - f.target) + (f.target - f.applied) ≤ f.settings.slew then
    { f with state := .running, applied := f.target, rampTimer := none, runningTime := 0 }
  else
    { f with
      applied := if f.applied < f.target then f.applied + f.settings.slew else f.applied - f.settings.slew
      rampTimer := some 100 }

end Sys2Proof.Machine
end

