-- ==== Sys2Proof/Machine/ChannelBank.lean ====
section
/-! DEFINITION. The channel bank (chapter 1): demands, samples, trips, read-backs, substitution. -/

namespace Sys2Proof.Machine

/-! ### Demands (R7, R8) -/

/-- What a channel in OFF does with a nonzero demand (R7): it stays while HOLD stands, turns on exempt if it is a signalling
channel, waits in QUEUED otherwise. -/
def LampRec.turnOn (c : LampRec) (hold signalling : Bool) : LampRec :=
  if hold then { c with offReason := .hold }
  else if signalling then c.enterInrush false
  else { c with state := .queued, offReason := .none }

/-- The output goes off for a demand of 0: a grant held is given back and the window abandoned (R7, R10). -/
def LampRec.turnOff (c : LampRec) (r : Reason) : LampRec :=
  { c with state := .off, granted := false, inrushTimer := 0, offReason := r }

/-- A new demand value reaches a lamp channel (R7, R8). -/
def LampRec.takeDemand (c : LampRec) (v : Nat) (r : Reason) (hold signalling : Bool) : LampRec :=
  let d := { c with demand := v, demandReason := r, entered := false }
  match c.state with
  | .off => if v = 0 then { d with offReason := r } else d.turnOn hold signalling
  | .queued | .inrush | .on => if v = 0 then d.turnOff r else d
  | .tripped | .lockedOut => d

/-- The value a lamp channel is to carry and the reason that goes with it: from the flash engine for a driven channel (R78),
from the resolver otherwise (R48), and 0 by DEMAND where it serves no function (R21). -/
def State.wantOf (s : State) (ch : LampId) : Nat × Reason :=
  match s.serving ch with
  | none => (0, .demand)
  | some f =>
    if f.flashDrivenFn then (s.flashValue ch f, .demand)
    else
      let r := s.fnRec f
      (r.resolved, carriedReason r.resolved r.reason)

/-- A channel is due a value: it has just entered a list, its value or reason changed, or it is in OFF with a nonzero demand
to act on (R48, R78, R15, R20). -/
def State.handDue (s : State) (ch : LampId) : Bool :=
  let c := s.lamp ch
  let w := s.wantOf ch
  c.entered || w.1 != c.demand || w.2 != c.demandReason || (c.state == .off && w.1 != 0)

/-- Hand a channel its value where it is due one. -/
def State.hand (s : State) (ch : LampId) : State :=
  if s.handDue ch then
    s.setLamp ch ((s.lamp ch).takeDemand (s.wantOf ch).1 (s.wantOf ch).2 s.supply.hold (s.signalling ch))
  else s

/-- Hand every lamp channel its value where it is due one: the values of one cause go together (R48). -/
def State.handAll (s : State) : State := allLamps.foldl State.hand s

/-! ### Changes of serving function (R21, R38) -/

/-- A lamp channel's serving function has changed: lamp_out cleared without an event, the counts of R17 restarted, a queue
entry given up; it is handed the value of its new function (R21, R38). The last sample of an ON phase under way is dropped with
them, so that the end of the phase decides from samples of the new function alone (DEDUCED, log entry 31: R21 names the flag and
the counts, R18 the last sample of the phase). -/
def State.functionChanged (s : State) (ch : LampId) : State :=
  let c := s.lamp ch
  let d := { c with lampOut := false, lampRun := { verdict := false, count := 0 }, phaseSample := none, entered := true }
  if c.state = .queued then (s.setLamp ch { d with state := .off }).dropEntry ch else s.setLamp ch d

/-- Apply a change of the map: every channel whose serving function differs from the one given has changed (R21). -/
def State.mapChanged (old : LampId → Option Fn) (s : State) : State :=
  allLamps.foldl (fun s ch => if s.serving ch = old ch then s else s.functionChanged ch) s

/-- Mark a channel that serves a function to be handed its value (R66: START hands every channel its value). A channel that serves none,
before START and after it, is handed nothing, so that its off_reason stays as it is (DEDUCED, log entry 47: R66 and R38 speak of every
channel, R48 of the channels in a function's list). -/
def State.markEntered (s : State) (ch : LampId) : State :=
  if (s.serving ch).isSome then s.setLamp ch { s.lamp ch with entered := true } else s

/-! ### Substitution (R23, R24) -/

/-- A channel stands in for a primary through an engaged entry. -/
def State.spareBusy (s : State) (ch : LampId) : Bool :=
  allSubs.any (fun e => (s.subEntry e).engaged && (s.subEntry e).pair.any (fun p => p.2 == ch))

/-- An entry may engage: its primary is LOCKED_OUT outside LIMP, it is not engaged, its spare is free and not LOCKED_OUT
(R23). -/
def State.mayEngage (s : State) (e : Fin 3) : Bool :=
  match (s.subEntry e).pair with
  | none => false
  | some (p, q) =>
    (s.lamp p).state == .lockedOut && s.op.state != .limp && !(s.subEntry e).engaged && !s.spareBusy q &&
      (s.lamp q).state != .lockedOut

/-- The settings a spare takes from its primary; it keeps its own function field and retry_limit (R23). -/
def LampCfg.takenFrom (own primary : LampCfg) : LampCfg :=
  { own with
    stopTurn := primary.stopTurn
    nominal := primary.nominal
    lampOutPct := primary.lampOutPct
    tripPct := primary.tripPct
    inrushMs := primary.inrushMs }

/-- An entry engages (R23). -/
def State.engage (s : State) (e : Fin 3) (p q : LampId) : State :=
  let c := s.lamp q
  let s1 := s.setLamp q
    { c with setAside := some c.cfg, cfg := c.cfg.takenFrom (s.lamp p).cfg, substituteFor := some p }
  let s2 := s1.setSub e { s.subEntry e with engaged := true }
  (s2.functionChanged q).raise .subst p.val q.val

/-- Examine one entry for engagement (R23). -/
def State.examineEntry (s : State) (e : Fin 3) : State :=
  if s.mayEngage e then
    match (s.subEntry e).pair with
    | some (p, q) => s.engage e p q
    | none => s
  else s

/-- Examine the entries, lowest first, that name a channel as the occasion gives (R23). For entries that name one spare that is R23's own
order; that entries with different spares which engage on one START raise their SUBST events in ascending entry order too is the
model's (DESIGN CHOICE, log entry 42: R23 ranks only the entries of one spare). -/
def State.examine (occasion : LampId × LampId → Bool) (s : State) : State :=
  allSubs.foldl (fun s e => if (s.subEntry e).pair.any occasion then s.examineEntry e else s) s

/-- The record of a spare that is released: OFF, no grant, no retry delay, its own settings again (R24). -/
def LampRec.release (c : LampRec) : LampRec :=
  { c with
    state := .off
    granted := false
    inrushTimer := 0
    retryTimer := 0
    retriesUsed := 0
    onTime := 0
    cfg := c.setAside.getD c.cfg
    setAside := none
    substituteFor := none
    demand := 0
    demandReason := .demand
    offReason := .demand }

/-- An engaged entry is released (R24). -/
def State.releaseEntry (s : State) (e : Fin 3) : State :=
  let x := s.subEntry e
  match x.pair with
  | some (_, q) =>
    if x.engaged then
      let s1 := (s.setSub e { x with engaged := false }).setLamp q (s.lamp q).release
      (s1.functionChanged q).dropEntry q
    else s
  | none => s

/-- Release the engaged entries whose pair meets a condition. -/
def State.releaseWhere (which : LampId × LampId → Bool) (s : State) : State :=
  allSubs.foldl (fun s e => if (s.subEntry e).pair.any which then s.releaseEntry e else s) s

/-- A lamp channel leaves LOCKED_OUT for OFF; it then acts on its demand as any channel in OFF does (R15). -/
def LampRec.clearLockout (c : LampRec) : LampRec :=
  if c.state = .lockedOut then
    { c with state := .off, retriesUsed := 0, onTime := 0, offReason := c.demandReason }
  else c

/-- Lift a lamp channel's lockout (R15). -/
def State.clearLamp (s : State) (ch : LampId) : State := s.setLamp ch (s.lamp ch).clearLockout

/-- Lift the lockout of every lamp channel (R27, R149). -/
def State.clearAllLamps (s : State) : State := allLamps.foldl State.clearLamp s

/-! ### Trips (R11, R12) -/

/-- The threshold in force in INRUSH and in ON (R11). -/
def overThreshold (ch : LampId) (c : LampRec) : Nat :=
  if c.state = .inrush then inrushTripThreshold ch c.cfg else tripThreshold ch c.cfg

/-- The consecutive count after a sample (R11). -/
def overCountAfter (ch : LampId) (c : LampRec) (milliamps : Nat) : Nat :=
  if overThreshold ch c < milliamps then c.overCount + 1 else 0

/-- A lamp channel conducts. -/
def LampState.conducts : LampState → Bool
  | .inrush | .on => true
  | _ => false

/-- A lamp channel's line is read back (R3, R19). -/
def LampState.readBack : LampState → Bool
  | .off | .tripped | .lockedOut => true
  | _ => false

/-- A sample trips the channel (R11). -/
def tripsOn (ch : LampId) (c : LampRec) (milliamps : Nat) : Bool :=
  c.state.conducts && (hardLimit ch ≤ milliamps || 3 ≤ overCountAfter ch c milliamps)

/-- The retry delay of a trip (R12). -/
def retryDelay (retriesUsed : Nat) : Nat := min 6400 (100 * 2 ^ retriesUsed)

/-- The record of a channel that trips with retries left. -/
def LampRec.tripped (c : LampRec) : LampRec :=
  { c with
    state := .tripped
    granted := false
    inrushTimer := 0
    onTime := 0
    retryTimer := retryDelay c.retriesUsed
    retriesUsed := c.retriesUsed + 1
    offReason := .fault }

/-- The record of a channel that trips with its retries spent. -/
def LampRec.lockedOut (c : LampRec) : LampRec :=
  { c with state := .lockedOut, granted := false, inrushTimer := 0, onTime := 0, offReason := .lockout }

/-- A lamp channel trips (R12). -/
def State.lampTrips (s : State) (ch : LampId) (milliamps : Nat) : State :=
  let c := s.lamp ch
  if c.retriesUsed < c.cfg.retryLimit then
    (s.setLamp ch c.tripped).raise .chTrip ch.val milliamps
  else
    let s1 := (s.setLamp ch c.lockedOut).raise .chTrip ch.val milliamps
    (s1.raise .chLockout ch.val c.retriesUsed).examine (fun p => p.1 == ch)

/-! ### Samples (R3, R4, R17, R19) -/

/-- The slot value of a sample: the sample by the fraction of the slot in which the output conducted, rounded down (R4).
`duty` is in per mille. -/
def slotValue (sample duty : Nat) : Nat := sample * duty / 1000

/-- Store a sample of a channel and its slot value (R4). -/
def State.storeSample (s : State) (ch : ChanId) (sample duty : Nat) : State :=
  let m := s.measOf ch
  if s.bank.intervalOpen then
    s.setMeas ch
      { m with last := sample, slotSum := m.slotSum + slotValue sample duty, slotLast := slotValue sample duty }
  else s.setMeas ch { m with last := sample }

/-- A run of agreeing samples after one more; it need not count beyond 3 (R17, R19). -/
def Run.after (r : Run) (verdict : Bool) : Run :=
  if r.verdict = verdict then { verdict := verdict, count := min 3 (r.count + 1) }
  else { verdict := verdict, count := 1 }

/-- A sample of a lamp channel in ON that is not flash-driven is judged; one of a flash-driven channel in an ON phase is kept
as the last of the phase (R17, R18). -/
def State.judgeSample (s : State) (ch : LampId) (milliamps : Nat) : State :=
  let c := s.lamp ch
  if s.flashDriven ch then
    if s.flash.phase = .on then s.setLamp ch { c with phaseSample := some milliamps } else s
  else if c.state = .on then
    let r := c.lampRun.after (milliamps < lampOutThreshold c.cfg)
    let s1 := s.setLamp ch { c with lampRun := r }
    if r.count = 3 then s1.setLampOut ch r.verdict milliamps else s1
  else s

/-- A current sample of a lamp channel is judged and tested for a trip (R11, R17, R18). -/
def State.lampActs (s : State) (ch : LampId) (milliamps : Nat) : State :=
  let c := s.lamp ch
  let s1 := s.judgeSample ch milliamps
  let s2 := s1.setLamp ch { s1.lamp ch with overCount := overCountAfter ch c milliamps }
  if tripsOn ch c milliamps then s2.lampTrips ch milliamps else s2

/-- A lamp channel that conducts takes a current sample: it is stored, judged, and tested for a trip (R3, R4, R11, R17). -/
def State.lampSample (s : State) (ch : LampId) (milliamps : Nat) : State :=
  (s.storeSample (lampChan ch) milliamps (10 * s.appliedDuty ch)).lampActs ch milliamps

/-- A line counts as fed (R19). -/
def State.lineFed (s : State) (millivolts : Nat) : Bool := s.supply.latest < 2 * millivolts

/-- A lamp channel that is off reads its line back (R19). -/
def State.readBack (s : State) (ch : LampId) (millivolts : Nat) : State :=
  let c := s.lamp ch
  let r := c.fedRun.after (s.lineFed millivolts)
  let fed := if r.count = 3 then r.verdict else c.fed
  let s1 := s.setLamp ch { c with fedRun := r, fed := fed }
  if fed && !c.fed then s1.raise .chFed ch.val millivolts else s1

/-- A read-back of a lamp channel is taken: outside SLEEP, in OFF, TRIPPED and LOCKED_OUT, and not while HOLD stands, through
which the count of R19 holds (R3, R19, R20). -/
def State.readBackTaken (s : State) (ch : LampId) : Bool :=
  s.op.state != .sleep && !s.supply.hold && (s.lamp ch).state.readBack

/-- A sample of channel 14 reaches the stall rules (R97). -/
def State.fanActs (s : State) (milliamps : Nat) : State :=
  if s.fan.stalls milliamps then s.fanStalled milliamps
  else if s.fan.state = .kick then s
  else { s with fan := { s.fan with stallTimer := s.fan.stallTimerAfter milliamps } }

/-- A sample of channel 14, taken while its output conducts, with the stall rules (R3, R97). -/
def State.fanSample (s : State) (milliamps : Nat) : State :=
  if s.fan.driven then (s.storeSample fanChan milliamps s.fan.applied).fanActs milliamps else s

/-! ### HOLD (R20) -/

/-- HOLD reaches a lamp channel's record (R20). -/
def LampRec.onHold (c : LampRec) : LampRec :=
  match c.state with
  | .queued | .inrush | .on => c.turnOff .hold
  | .off => if c.demand = 0 then c else { c with offReason := .hold }
  | .tripped | .lockedOut => c

end Sys2Proof.Machine
end

