-- ==== Sys2Proof/Machine/GaugeUnit.lean ====
section
/-! DEFINITION. The gauge unit (chapter 6): states, the update chain, the output short, the sweep test. -/

namespace Sys2Proof.Machine

/-! ### Arithmetic -/

/-- A quotient rounded to nearest with halves away from zero (R113, R114). -/
def roundAway (n : Int) (d : Nat) : Int :=
  if n < 0 then -(((2 * n.natAbs + d) / (2 * d) : Nat) : Int) else (((2 * n.natAbs + d) / (2 * d) : Nat) : Int)

/-- The mean of ten samples, rounded to nearest with halves up (R111, R127). -/
def meanOfTen (xs : List Nat) : Nat := (xs.sum + 5) / 10

/-- The class of an update's code (R111). -/
def codeClass (c : Nat) : SenderStatus := if 1015 ≤ c then .opened else if c ≤ 2 then .short else .ok

/-- The resistance of a code of class OK, clamped to 9,999 Ω (R112). -/
def resistanceOf (rp c : Nat) : Nat := min 9999 ((rp * c + (1023 - c) / 2) / (1023 - c))

/-- The target between two neighbouring points (R113). -/
def interpolate (a b : Point) (r : Nat) : Nat :=
  ((a.position : Int) +
    roundAway (((b.position : Int) - (a.position : Int)) * ((r : Int) - (a.ohms : Int))) (b.ohms - a.ohms)).toNat

/-- The curve beyond its first point: the segment that holds R, or the last position (R113). -/
def curveFrom (a : Point) : List Point → Nat → Nat
  | [], _ => a.position
  | b :: rest, r => if r < b.ohms then interpolate a b r else curveFrom b rest r

/-- The curve maps a resistance to a target (R113). -/
def curveAt (curve : List Point) (r : Nat) : Nat :=
  match curve with
  | [] => 0
  | a :: rest => if r ≤ a.ohms then a.position else curveFrom a rest r

/-- The damping step's change of f (R114 steps 1 to 3). -/
def dampStep (k f target : Nat) : Int :=
  let d : Int := 16 * (target : Int) - (f : Int)
  let step := roundAway (d * (k : Int)) 256
  if step = 0 then (if 0 < d then 1 else if d < 0 then -1 else 0) else step

/-- The filter value after a damping step (R114 step 4). -/
def damp (k f target : Nat) : Nat := ((f : Int) + dampStep k f target).toNat

/-- The displayed position of a filter value (R114 step 5). -/
def positionOf (f : Nat) : Nat := (f + 8) / 16

/-- The position of the test ramp at step n (R120). -/
def rampPosition (n : Nat) : Nat :=
  if n ≤ 30 then (1000 * n + 15) / 30 else (1000 * (60 - n) + 15) / 30

/-- The compensation step: the duty and the limit status (R115). -/
def compensate (p dfs vref vs : Nat) : Nat × LimitStatus :=
  if 2 * vs < vref then (0, .undervolt)
  else
    let den := 1000 * vs * vs
    let q := (dfs * p * vref * vref + den / 2) / den
    if 1000 < q then (1000, .saturated) else (q, .none)

/-! ### States (R109) -/

/-- OFF to RUN: the short count and the run's count restart, D is 0 until the first update (R109, R110). -/
def Gauge.enterRun (x : Gauge) : Gauge :=
  { x with state := .run, shortCount := 0, runCount := 0, d := 0, fresh := true }

/-- To OFF or OUTPUT_FAULT: D 0, the limit status NONE without an event, the short count 0 (R109, R116). -/
def Gauge.leaveRun (x : Gauge) (st : GaugeState) : Gauge :=
  { x with state := st, d := 0, limit := .none, shortCount := 0, fresh := false }

/-- A gauge is in TEST. -/
def State.testRunning (s : State) : Bool := (s.gauge 0).state == .test || (s.gauge 1).state == .test

/-- The conditions of R109 bring a gauge from OFF to RUN. -/
def State.gaugePokeOne (s : State) (g : GaugeId) : State :=
  if (s.gauge g).state = .off ∧ (s.gauge g).cfg.enabled ∧ s.op.state = .drive then
    s.setGauge g (s.gauge g).enterRun
  else s

/-- Every gauge that meets the conditions of R109 goes to RUN. -/
def State.gaugePoke (s : State) : State := allGauges.foldl State.gaugePokeOne s

/-- A test under way ends early (R121). -/
def State.abortTest (s : State) : State :=
  { s with gauges := { s.gauges with testStep := 0 } }.raise .testEnd 0 testEndAborted

/-- Leaving DRIVE: RUN and TEST go to OFF (R109). -/
def Gauge.leaveDrive (x : Gauge) : Gauge :=
  match x.state with
  | .run | .test => x.leaveRun .off
  | .off | .outputFault => x

/-- Leaving DRIVE reaches the gauge unit (R109, R121). -/
def State.gaugesLeaveDrive (s : State) : State :=
  let s1 := allGauges.foldl (fun s g => s.setGauge g (s.gauge g).leaveDrive) s
  if s.testRunning then s1.abortTest else s1

/-- HOLD reaches a gauge: D is 0, a test is left for RUN (R118, R121). -/
def Gauge.onHold (x : Gauge) : Gauge :=
  match x.state with
  | .test => { x with state := .run, d := 0, shortCount := 0 }
  | _ => { x with d := 0, shortCount := 0 }

/-- HOLD reaches the gauge unit (R118, R121). -/
def State.gaugesOnHold (s : State) : State :=
  let s1 := allGauges.foldl (fun s g => s.setGauge g (s.gauge g).onHold) s
  if s.testRunning then s1.abortTest else s1

/-- OUTPUT_FAULT ends in OFF (R117). -/
def Gauge.clearFault (x : Gauge) : Gauge := if x.state = .outputFault then { x with state := .off } else x

/-! ### The update (R110 to R115, R120) -/

/-- The sender status and the persistence run after an update of a class (R111). -/
def Gauge.senderAfter (x : Gauge) (cls : SenderStatus) : SenderStatus × SenderStatus × Nat :=
  if cls = x.sender then (x.sender, x.runClass, 0)
  else
    let n := if cls = x.runClass then x.runCount + 1 else 1
    if 3 ≤ n then (cls, cls, 0) else (x.sender, cls, n)

/-- The target from last good R, or 0 where that is absent (R112). -/
def Gauge.lastGoodTarget (x : Gauge) : Nat :=
  match x.lastGood with
  | some r => curveAt x.cfg.curve r
  | none => 0

/-- The sender part of an update: code, class, status, resistance, last good R and target (R111, R112, R113). -/
def Gauge.senseUpdate (x : Gauge) : Gauge :=
  let c := meanOfTen x.samples
  let cls := codeClass c
  let st := x.senderAfter cls
  let r := if cls = .ok then some (resistanceOf x.cfg.rp c) else none
  let good := if st.1 = .ok ∧ cls = .ok then r else x.lastGood
  let y := { x with code := c, resistance := r, sender := st.1, runClass := st.2.1, runCount := st.2.2, lastGood := good }
  { y with
    target :=
      if st.1 ≠ .ok ∧ x.cfg.faultAction = .zero then 0
      else y.lastGoodTarget }

/-- The damping part of an update: the first update after OFF sets f outright, the others damp (R110, R114), also where that
first one comes while HOLD stands, in TEST, or after an aborted test (DEDUCED, log entry 15). -/
def Gauge.dampUpdate (x : Gauge) : Gauge :=
  let f := if x.fresh then 16 * x.target else damp x.cfg.k x.f x.target
  { x with f := f, p := if x.fresh then x.target else positionOf f, fresh := false }

/-- An interval holds ten samples (R110). -/
def Gauge.fullInterval (x : Gauge) : Bool := x.samples.length == 10

/-- The sender and damping parts of an update, with GAUGE_SENDER on a change of status; skipped where the interval is short
(R110, R120). -/
def State.gaugeSense (s : State) (g : GaugeId) : State :=
  let x := s.gauge g
  if x.fullInterval then
    let y := x.senseUpdate.dampUpdate
    let s1 := s.setGauge g y
    if y.sender = x.sender then s1 else s1.raise .gaugeSender g.val y.sender.code
  else s

/-- The compensation part of an update, with GAUGE_LIMIT on a change; it is not run while HOLD stands (R115, R118). A D of 0
returns the short count to 0 (R116). -/
def State.gaugeCompensate (s : State) (g : GaugeId) : State :=
  let x := s.gauge g
  if s.supply.hold then s
  else
    let c := compensate x.p x.cfg.dfs x.cfg.vref s.supply.vs
    let s1 := s.setGauge g
      { x with d := c.1, limit := c.2, shortCount := if c.1 = 0 then 0 else x.shortCount }
    if c.2 = x.limit then s1 else s1.raise .gaugeLimit g.val c.2.code

/-- The update of one gauge at a mark (R110). In TEST the position is that of the ramp at step n (R120). -/
def State.gaugeUpdateOne (n : Nat) (s : State) (g : GaugeId) : State :=
  match (s.gauge g).state with
  | .run => if (s.gauge g).fullInterval then (s.gaugeSense g).gaugeCompensate g else s
  | .test =>
    let s1 := s.gaugeSense g
    (s1.setGauge g { s1.gauge g with p := rampPosition n }).gaugeCompensate g
  | .off | .outputFault => s

/-- The interval of a gauge's samples begins anew. -/
def State.clearSamples (s : State) (g : GaugeId) : State := s.setGauge g { s.gauge g with samples := [] }

/-- TEST returns to RUN (R120), and the short count to 0 (R116). -/
def Gauge.endTest (x : Gauge) : Gauge := if x.state = .test then { x with state := .run, shortCount := 0 } else x

/-- The test ends at step 60 (R120). -/
def State.finishTest (s : State) : State :=
  let s1 := allGauges.foldl (fun s g => s.setGauge g (s.gauge g).endTest) s
  { s1 with gauges := { s1.gauges with testStep := 0 } }.raise .testEnd 0 testEndDone

/-- A 100-ms mark of the gauge unit (R110, R120): the test step advances, both gauges are updated, a test that has reached step
60 ends. Gauge A's whole chain comes before gauge B's (DESIGN CHOICE, log entry 35: the manual gives no order of the two). -/
def State.gaugeMark (s : State) : State :=
  let n := s.gauges.testStep + 1
  let s0 := if s.testRunning then { s with gauges := { s.gauges with testStep := n } } else s
  let s1 := allGauges.foldl (State.gaugeUpdateOne n) s0
  let s2 := allGauges.foldl State.clearSamples s1
  if s.testRunning && n == 60 then s2.finishTest else s2

/-! ### The output short (R116) -/

/-- A gauge output is sampled: RUN or TEST with D nonzero and HOLD not standing. Until the first conducting part after D last became
nonzero CURRENT_SAMPLE carries no reading for it (R116, log entry 28). -/
def State.gaugeSampled (s : State) (g : GaugeId) : Bool :=
  ((s.gauge g).state == .run || (s.gauge g).state == .test) && (s.gauge g).d != 0 && !s.supply.hold

/-- The output is shorted: OUTPUT_FAULT with CH_TRIP, and the end of a test in which no gauge is left (R116, R121). -/
def State.gaugeShorted (s : State) (g : GaugeId) (milliamps : Nat) : State :=
  let s1 := (s.setGauge g ((s.gauge g).leaveRun .outputFault)).raise .chTrip (gaugeChan g).val milliamps
  if (s.gauge g).state = .test ∧ s1.testRunning = false then s1.abortTest else s1

/-- A sample of a gauge channel reaches the short rule: the second in a row above 1,000 mA finds a short (R116). -/
def State.gaugeActs (s : State) (g : GaugeId) (milliamps : Nat) : State :=
  if 1000 < milliamps then
    if (s.gauge g).shortCount = 0 then s.setGauge g { s.gauge g with shortCount := 1 }
    else s.gaugeShorted g milliamps
  else s.setGauge g { s.gauge g with shortCount := 0 }

/-- A sample of a gauge channel, taken while its output is driven, with the short rule (R3, R4, R116). -/
def State.gaugeSample (s : State) (g : GaugeId) (milliamps : Nat) : State :=
  if s.gaugeSampled g then (s.storeSample (gaugeChan g) milliamps (s.gauge g).d).gaugeActs g milliamps else s

end Sys2Proof.Machine
end

