-- ==== Sys2Proof/Machine/Settle.lean ====
section
/-! DEFINITION. What follows a cause in the blocks that read what it changed, as one step. -/

namespace Sys2Proof.Machine

/-- What one cause brings about in the blocks that read what it changed: an IDLE engine starts to flash (R73), a gauge goes to
RUN (R109), every function is resolved (R48), changed values are handed to their channels together (R48, R7, R78), the fan
takes its step (R91, R92), and the arbiter removes, joins once and makes its pass (R31 to R35). On a part whose inputs did not
change it changes nothing. -/
def State.settle (s : State) : State :=
  s.flashPoke.gaugePoke.resolveAll.handAll.fanFollow.fanStart.arbitrate

end Sys2Proof.Machine
end

