-- ==== Sys2Proof/Machine/SupplyMonitor.lean ====
section
/-! DEFINITION. The supply monitor (chapter 7): sampling, HOLD, the evaluation with the drain account and the shed levels. -/

namespace Sys2Proof.Machine

/-! ### HOLD (R136, R137) -/

/-- HOLD is declared: every output block acts in its own record (R136, R20, R37, R101, R118). HOLD_ON stands before the TEST_END of a
test that HOLD aborts (DESIGN CHOICE, log entry 37). -/
def State.declareHold (s : State) (millivolts : Nat) : State :=
  let s1 := { s with supply := { s.supply with hold := true, releaseCount := 0 } }.raise .holdOn 0 millivolts
  let s2 := allLamps.foldl (fun s ch => s.setLamp ch (s.lamp ch).onHold) s1
  let s3 := { s2 with fan := s2.fan.onHold }
  s3.gaugesOnHold.settle

/-- HOLD ends: the loads restart as one join (R137, R37). -/
def State.endHold (s : State) (millivolts : Nat) : State :=
  ({ s with supply := { s.supply with hold := false, releaseCount := 0 } }.raise .holdOff 0 millivolts).settle

/-- A supply sample is checked for HOLD (R136, R137). -/
def State.checkHold (s : State) (millivolts : Nat) : State :=
  if s.supply.hold then
    if millivolts < s.supply.settings.vrelease then
      if 49 ≤ s.supply.releaseCount then s.endHold millivolts
      else { s with supply := { s.supply with releaseCount := s.supply.releaseCount + 1 } }
    else { s with supply := { s.supply with releaseCount := 0 } }
  else if s.supply.settings.vover ≤ millivolts then s.declareHold millivolts
  else s

/-- A sample of BAT and CHG is stored (R126): the latest supply sample, and a slot of the interval where one is under way. -/
def State.storeSupply (s : State) (bat chg : Nat) : State :=
  { s with
    supply :=
      { s.supply with
        latest := bat
        samples := if s.bank.intervalOpen then ((bat, chg) :: s.supply.samples).take 10 else s.supply.samples } }

/-- The supply monitor takes a sample (R126); in SLEEP neither line is sampled. -/
def State.supplySampled (s : State) (bat chg : Nat) : State :=
  if s.op.state = .sleep then s else (s.storeSupply bat chg).checkHold bat

/-! ### The evaluation (R127) -/

/-- The charging state and its count after an evaluation of a CHG voltage (R128). -/
def chargeAfter (x : Supply) (chg : Nat) : Bool × Nat :=
  if (decide (x.settings.chargeThreshold ≤ chg)) = x.charging then (x.charging, 0)
  else if 9 ≤ x.chargeCount then (!x.charging, 0)
  else (x.charging, x.chargeCount + 1)

/-- The net current of an evaluation in mA (R129). -/
def netCurrent (iTotal dynamo : Nat) (charging : Bool) : Int :=
  if charging then (iTotal : Int) - (dynamo : Int) else (iTotal : Int)

/-- The change of the drain account in mA·s (R130). -/
def accountDelta (net : Int) : Int :=
  if 0 ≤ net then (((net.toNat + 5) / 10 : Nat) : Int) else -(((net.natAbs * 7) / 80 : Nat) : Int)

/-- The cap of the drain account in mA·s (R130). -/
def SupplySettings.cap (x : SupplySettings) : Nat := x.t3 * chargeUnit + 1800000

/-- The drain account after a change (R130). -/
def accountAfter (account cap : Nat) (delta : Int) : Nat := min cap ((account : Int) + delta).toNat

/-- The threshold of an account level 1 to 3 in mA·s (R132). -/
def SupplySettings.threshold (x : SupplySettings) (level : Nat) : Nat :=
  (match level with
    | 1 => x.t1
    | 2 => x.t2
    | _ => x.t3) * chargeUnit

/-- The account has reached the next level's threshold (R132). -/
def laRises (x : SupplySettings) (account la : Nat) : Bool := la < 3 && x.threshold (la + 1) ≤ account

/-- The account lies below the present level's threshold less H, or is 0 (R132). -/
def laFalls (x : SupplySettings) (account la : Nat) : Bool :=
  0 < la && (account + x.h * chargeUnit < x.threshold la || account == 0)

/-- Repeat a rise at most so many times. -/
def laRise (x : SupplySettings) (account : Nat) : Nat → Nat → Nat
  | 0, la => la
  | n + 1, la => if laRises x account la then laRise x account n (la + 1) else la

/-- Repeat a fall at most so many times. -/
def laFall (x : SupplySettings) (account : Nat) : Nat → Nat → Nat
  | 0, la => la
  | n + 1, la => if laFalls x account la then laFall x account n (la - 1) else la

/-- La after an evaluation (R132). -/
def laAfter (x : SupplySettings) (account la : Nat) : Nat :=
  if laRises x account la then laRise x account 3 la else laFall x account 3 la

/-- The recovery level of a voltage level (R133). -/
def SupplySettings.recoveryLevel (x : SupplySettings) (lv : Nat) : Nat :=
  (if lv = 1 then x.vlow1 else x.vlow2) + 300

/-- A dwell count after one evaluation (R133). -/
def dwell (limit count : Nat) (hit : Bool) : Nat := if hit then min limit (count + 1) else 0

/-- The counts of the voltage level brought up to date (R133). -/
def voltageCounts (x : Supply) (vs : Nat) : Supply :=
  { x with
    below1 := dwell 20 x.below1 (vs < x.settings.vlow1)
    below2 := dwell 20 x.below2 (vs < x.settings.vlow2)
    recovery :=
      if x.lv = 1 ∨ x.lv = 2 then dwell 50 x.recovery (x.settings.recoveryLevel x.lv ≤ vs) else 0 }

/-- Lv changed by the first rule that applies; every change sets the recovery count to 0 (R133). -/
def voltageLevel (x : Supply) : Supply :=
  if x.below2 = 20 ∧ x.lv < 2 then { x with lv := 2, recovery := 0 }
  else if x.below1 = 20 ∧ x.lv = 0 then { x with lv := 1, recovery := 0 }
  else if (x.lv = 1 ∨ x.lv = 2) ∧ x.recovery = 50 then { x with lv := x.lv - 1, recovery := 0 }
  else x

/-- The sum of the 17 averages (R129). -/
def State.averageSum (s : State) : Nat := (s.bank.meas.toList.map (·.average)).sum

/-- The supply record after an evaluation, steps 1 to 6 (R127). -/
def Supply.evaluated (x : Supply) (iTotal : Nat) : Supply :=
  let vs := meanOfTen (x.samples.map (·.1))
  let chg := meanOfTen (x.samples.map (·.2))
  let ch := chargeAfter x chg
  let account := accountAfter x.account x.settings.cap (accountDelta (netCurrent iTotal x.settings.dynamo ch.1))
  let y :=
    { x with
      vs := vs
      chg := chg
      charging := ch.1
      chargeCount := ch.2
      iTotal := iTotal
      account := account
      la := laAfter x.settings account x.la
      samples := [] }
  let z := if x.hold then y else voltageLevel (voltageCounts y vs)
  { z with l := max z.la z.lv }

/-- An evaluation is due: the bank's averages are in and the interval holds ten supply samples (R127). -/
def State.evaluationDue (s : State) : Bool := s.bank.averagesReady && s.supply.samples.length == 10

/-- One evaluation, with CHARGE and SHED on a change, and L handed on as one cause (R127, R128, R135). -/
def State.evaluate (s : State) : State :=
  let y := s.supply.evaluated s.averageSum
  let s1 := { s with supply := y, bank := { s.bank with averagesReady := false } }
  let s2 := if y.charging = s.supply.charging then s1 else s1.raise .charge 0 (if y.charging then 1 else 0)
  if y.l = s.supply.l then s2 else (s2.raise .shed 0 y.l).settle

/-- The mark reaches the monitor: an evaluation of a full interval, or a shorter interval discarded (R127). Before the bank's
averages are in it waits; in SLEEP no evaluation is made (R131). -/
def State.supplyMark (s : State) : State :=
  if s.op.state = .sleep then s
  else if s.evaluationDue then s.evaluate
  else if s.bank.averagesReady then
    { s with bank := { s.bank with averagesReady := false }, supply := { s.supply with samples := [] } }
  else s

end Sys2Proof.Machine
end

