-- ==== Sys2Proof/Machine/OperatingState.lean ====
section
/-! DEFINITION. The operating-state controller and the input block (chapter 8): changes of state, wakes, SLEEP, debouncing,
limp lighting, and the courtesy lamp's door. -/

namespace Sys2Proof.Machine

/-! ### Changes of operating state (R146) -/

/-- The state changes, STATE is raised, and the fan and the gauges act on leaving DRIVE (R146, R102, R109). The caller settles
the cause. STATE stands before the TEST_END of a test that leaving DRIVE aborts (DESIGN CHOICE, log entry 37). -/
def State.enterState (s : State) (new : OpState) : State :=
  let s1 := { s with op := { s.op with state := new } }.raise .state 0 new.code
  if s.op.state = .drive ∧ new ≠ .drive then
    { s1 with fan := s1.fan.leaveDrive }.gaugesLeaveDrive
  else s1

/-- Sampling resumes after SLEEP: the bank and the monitor begin new intervals at the next mark, no window is open (R156,
R126). -/
def State.resumeSampling (s : State) : State :=
  { s with
    bank := { s.bank with intervalOpen := false, averagesReady := false }
    op := { s.op with window := none } }

/-- A wake: sleep_requested cleared, the silence timer at 0, WOKEN and then STATE raised (8.5, R154, R155, R157). -/
def State.wakeTo (s : State) (new : OpState) (cause : WakeCause) : State :=
  let s1 := if s.op.state = .sleep then s.resumeSampling else s
  let s2 := { s1 with op := { s1.op with sleepRequested := false, silenceTimer := 0 } }.raise .woken 0 cause.code
  s2.enterState new

/-- The state that a wake by a switch input leads to (R154): DRIVE by IGN alone. HAZ and DOOR give PARK also where IGN's level is
asserted already (DEDUCED, log entry 43: R154 gives PARK for them without exception, the opening of 8.5 gives DRIVE where IGN is
asserted). -/
def wakeStateOf : WakeInput → OpState
  | .ign => .drive
  | .haz => .park
  | .door => .park

/-- The cause that the WOKEN event of a wake by a switch input carries (R154, R155). -/
def wakeCauseOf : WakeInput → WakeCause
  | .ign => .ign
  | .haz => .haz
  | .door => .door

/-! ### The courtesy lamp (R62, R63) -/

/-- The INTERIOR channel list holds a LIGHT channel (R63). -/
def State.interiorLight (s : State) : Bool := (s.channelsOf .interior).any (fun ch => !isHeavy ch)

/-- The courtesy record of QUIET (R64). -/
def Courtesy.quiet (c : Courtesy) : Courtesy := { c with phase := .quiet, level := 0, timer := 0 }

/-- The dwell time ends: the fade begins, or is skipped where no LIGHT channel serves INTERIOR (R62, R63). -/
def Courtesy.dwellEnds (c : Courtesy) (light : Bool) : Courtesy :=
  if light then { c with phase := .fade, level := 100, timer := 100 } else c.quiet

/-- A step of the fade (R63). -/
def Courtesy.fadeStep (c : Courtesy) : Courtesy :=
  if c.level ≤ 5 then c.quiet else { c with level := c.level - 5, timer := 100 }

/-- The debounced DOOR level reaches the courtesy record; inactive in LIMP and while courtesy_enable is no (R62, R64). -/
def State.courtesyDoor (s : State) (asserted : Bool) : State :=
  let c := s.resolver.courtesy
  if s.op.state = .limp ∨ c.enable = false then s
  else if asserted then
    { s with resolver := { s.resolver with courtesy := { c with phase := .opened, level := 100, timer := 0 } } }
  else if c.phase = .opened then
    let d := { c with phase := .dwell, level := 100, timer := 1000 * c.holdS }
    { s with resolver := { s.resolver with courtesy := if c.holdS = 0 then d.dwellEnds s.interiorLight else d } }
  else s

/-! ### Limp lighting (R159) -/

/-- Limp lighting begins, and its latch is set (R159, R146). -/
def State.beginLimpLighting (s : State) : State :=
  { s with op := { s.op with limpLighting := true, limpLatch := true } }

/-- Limp lighting does not stand. -/
def State.endLimpLighting (s : State) : State := { s with op := { s.op with limpLighting := false } }

/-! ### Debounced levels (R144) -/

/-- The debounced IGN level reaches the operating-state controller (R147, R154, R159). -/
def State.ignLevel (s : State) (asserted : Bool) : State :=
  match s.op.state with
  | .limp =>
    if asserted then (if 2000 ≤ s.op.silenceCount then s.beginLimpLighting else s) else s.endLimpLighting
  | .drive => if asserted then s else s.enterState .park
  | .park => if asserted then s.enterState .drive else s
  | .watch => if asserted then s.wakeTo .drive .ign else s
  | .sleep => s

/-- In WATCH an assertion of HAZ or DOOR wakes the part (R154). -/
def State.watchWake (s : State) (asserted : Bool) (cause : WakeCause) : State :=
  if asserted && s.op.state == .watch then s.wakeTo .park cause else s

/-- A changed level is stored with its count at 0, and INPUT is raised (R144). -/
def State.storeLevel (s : State) (i : InputId) (asserted : Bool) : State :=
  (s.setInRec i { s.inRec i with level := asserted, count := 0 }).raise .input (inputNumber i) (if asserted then 1 else 0)

/-- A changed level reaches the blocks that read the input, each in its own record (R144, Table 8-1). The caller settles the
cause. -/
def State.handLevel (s : State) (i : InputId) (asserted : Bool) : State :=
  match i with
  | .ign => s.ignLevel asserted
  | .haz => { s with flash := { s.flash with hazIn := asserted } }.watchWake asserted .haz
  | .door => (s.courtesyDoor asserted).watchWake asserted .door
  | .brake | .sw0 | .sw1 => s

/-- No block of the part reads the input: SW0 and SW1, which the host reads (R144). -/
def hostOnly : InputId → Bool
  | .sw0 | .sw1 => true
  | _ => false

/-- A change of a debounced level: the level is stored, INPUT raised, and the level handed to its readers as one cause (R144,
Table 8-1). INPUT stands before the WOKEN and STATE of a wake in WATCH (DESIGN CHOICE, log entry 37). -/
def State.deliverLevel (s : State) (i : InputId) (asserted : Bool) : State :=
  let s1 := (s.storeLevel i asserted).handLevel i asserted
  if hostOnly i then s1 else s1.settle

/-- An input is sampled: SW0 and SW1 only while their sense pins are in SWITCH mode (R143). -/
def State.inputSampled (s : State) (i : InputId) : Bool :=
  match i with
  | .sw0 => s.senseModeOf 0 == .switch
  | .sw1 => s.senseModeOf 1 == .switch
  | _ => true

/-- An input's pin level is taken as asserted by its polarity (R143). -/
def State.assertedAt (s : State) (i : InputId) (high : Bool) : Bool :=
  match (s.inRec i).polarity with
  | .activeHigh => high
  | .activeLow => !high
  | .default => if defaultActiveHigh i s.inputs.earthPositive then high else !high

/-- One sample of one input outside SLEEP (R144). -/
def State.sampleInput (pins : PinLevels) (s : State) (i : InputId) : State :=
  if s.inputSampled i then
    let r := s.inRec i
    let a := s.assertedAt i (pins.get i)
    if a = r.level then s.setInRec i { r with count := 0 }
    else if 3 ≤ r.count then s.deliverLevel i a
    else s.setInRec i { r with count := r.count + 1 }
  else s

/-! ### The confirmation window (R155) -/

/-- A window opens from the levels and counts the input block kept. -/
def State.openWindow (s : State) : Window :=
  let r := s.inputs.recs
  { levels :=
      { ign := r.ign.level, brake := r.brake.level, haz := r.haz.level, door := r.door.level, sw0 := r.sw0.level,
        sw1 := r.sw1.level }
    counts :=
      { ign := r.ign.count, brake := r.brake.count, haz := r.haz.count, door := r.door.count, sw0 := r.sw0.count,
        sw1 := r.sw1.count }
    ignRun := 0
    hazRun := 0
    doorRun := 0
    held := [] }

/-- One sample of one input within the window: debounced as R144 gives, a change of level held back (R155). -/
def State.windowInput (s : State) (pins : PinLevels) (w : Window) (i : InputId) : Window :=
  if s.inputSampled i then
    let a := s.assertedAt i (pins.get i)
    if a = w.levels.get i then { w with counts := w.counts.put i 0 }
    else if 3 ≤ w.counts.get i then
      { w with levels := w.levels.put i a, counts := w.counts.put i 0, held := w.held ++ [(i, a)] }
    else { w with counts := w.counts.put i (w.counts.get i + 1) }
  else w

/-- The run of consecutive asserted samples (R155). -/
def runAfter (run : Nat) (asserted : Bool) : Nat := if asserted then run + 1 else 0

/-- The window after a sample of every input (R155). -/
def State.windowSample (s : State) (pins : PinLevels) (w : Window) : Window :=
  let v := allInputs.foldl (fun w i => s.windowInput pins w i) w
  { v with
    ignRun := runAfter w.ignRun (s.assertedAt .ign pins.ign)
    hazRun := runAfter w.hazRun (s.assertedAt .haz pins.haz)
    doorRun := runAfter w.doorRun (s.assertedAt .door pins.door) }

/-- An input has given four consecutive asserted samples within the window (R155). -/
def Window.confirms (w : Window) : WakeInput → Bool
  | .ign => 4 ≤ w.ignRun
  | .haz => 4 ≤ w.hazRun
  | .door => 4 ≤ w.doorRun

/-- The inputs that confirm the wake together. -/
def Window.candidates (w : Window) : List WakeInput := [.ign, .haz, .door].filter w.confirms

/-- The counts of the window become the inputs' counts as it closes. -/
def State.takeWindowCounts (s : State) (w : Window) : State :=
  allInputs.foldl (fun s i => s.setInRec i { s.inRec i with count := w.counts.get i }) s

/-- The held changes of level are handed to their readers with their events, oldest first (R155). -/
def State.deliverHeld (s : State) (held : List (InputId × Bool)) : State :=
  held.foldl (fun s x => s.deliverLevel x.1 x.2) s

/-- A window that closes with the part awake hands on what it held (R155). The counts are those of the window. -/
def State.closeWindow (s : State) (w : Option Window) : State :=
  match w with
  | none => s
  | some w => (s.deliverHeld w.held).takeWindowCounts w

/-- A wake from SLEEP is confirmed by an input (R155): the wake first, then the held changes. -/
def State.confirmWake (s : State) (i : WakeInput) (w : Window) : State :=
  ((s.wakeTo (wakeStateOf i) (wakeCauseOf i)).settle).closeWindow (some w)

/-- Which input is taken as the cause of a wake: the only one that confirms, or a free choice between two or three (R155; safe, log
entry 3). -/
def chooseCause (k : Nat) (c : WakeInput) : List WakeInput → WakeInput
  | [] => c
  | d :: rest => ((c :: d :: rest)[Config.wakeTie k % (rest.length + 2)]?).getD c

/-- A sample of every switch input in SLEEP, within the window (R155). -/
def State.sampleInWindow (s : State) (pins : PinLevels) (w : Window) : State :=
  let v := s.windowSample pins w
  match v.candidates with
  | [] => { s with op := { s.op with window := some v } }
  | [c] => s.confirmWake c v
  | c :: d :: rest => { s with freeCount := s.freeCount + 1 }.confirmWake (chooseCause s.freeCount c (d :: rest)) v

/-- The input block samples every switch input (R143): in SLEEP only within a window. The inputs are taken in the order of their
numbers, so that of several that would wake WATCH on one sample IGN comes before HAZ and HAZ before DOOR (DESIGN CHOICE, log entry
36; a sender of commands gives any other order by INPUT_LEVEL_CHANGE). -/
def State.sampleInputs (s : State) (pins : PinLevels) : State :=
  if s.op.state = .sleep then
    match s.op.window with
    | some w => s.sampleInWindow pins w
    | none => s
  else allInputs.foldl (State.sampleInput pins) s

/-! ### SLEEP (R151, R152, R153) -/

/-- Nothing is on (R151). -/
def State.nothingOn (s : State) : Bool :=
  allLamps.all (fun ch => (s.lamp ch).state == .off && (s.lamp ch).demand == 0) && s.flash.phase == .idle &&
    s.resolver.courtesy.phase != .dwell && s.resolver.courtesy.phase != .fade

/-- The link is quiet (R169). -/
def Link.quiet (l : Link) : Bool :=
  l.inbound.isEmpty && l.assembler == .hunt && l.shifting.isNone && l.waiting.isNone

/-- In SLEEP every average is 0, and the interval under way is discarded (R4, R126). -/
def State.clearMeas (s : State) (ch : ChanId) : State :=
  s.setMeas ch { s.measOf ch with average := 0, slotSum := 0, slotLast := 0 }

/-- All 17 channels in ascending order. -/
def allChans : List ChanId := [0, 1, 2, 3, 4, 5, 6, 7, 8, 9, 10, 11, 12, 13, 14, 15, 16]

/-- Entry to SLEEP (R152): STATE, sampling stopped, the intervals under way discarded; every record is kept. -/
def State.goToSleep (s : State) : State :=
  let s1 := s.enterState .sleep
  let s2 := allGauges.foldl State.clearSamples (allChans.foldl State.clearMeas s1)
  { s2 with
    bank := { s2.bank with intervalOpen := false, averagesReady := false }
    supply := { s2.supply with samples := [] }
    op := { s2.op with window := none } }

/-- A lamp channel is handed a nonzero demand. -/
def State.demandRises (s : State) : Bool := allLamps.any (fun ch => (s.wantOf ch).1 != 0)

/-- The return from SLEEP to WATCH: STATE is raised and sampling resumes (R153, R156). -/
def State.backToWatch (s : State) : State := (s.resumeSampling.enterState .watch).settle

/-- The return from SLEEP to WATCH, with what an open window held handed on after it (R153, R155). -/
def State.returnToWatch (s : State) : State := s.backToWatch.closeWindow s.op.window

/-- A change that may light a lamp reaches a part in SLEEP with no window open: where a lamp channel's demand becomes nonzero the
part returns to WATCH, otherwise it sleeps on (R153, R146). -/
def State.settleAsleep (s : State) : State := if s.resolveAll.demandRises then s.backToWatch else s.settle

/-- The assertion that entry to SLEEP came before: it is stored, raised and handed on in SLEEP, and no wake follows it (R154; log
entry 39, DEDUCED). -/
def State.deliverAsleep (s : State) (i : InputId) : State := ((s.storeLevel i true).handLevel i true).settleAsleep

end Sys2Proof.Machine
end

