-- ==== Sys2Proof/Machine/Operands.lean ====
section
/-! DEFINITION. The fields of a payload: how the fields of a request are read and the fields of a reply laid out (R181,
Table 11-2). -/

namespace Sys2Proof.Machine

/-! ### Reading a request's payload -/

/-- The one-byte field at a place of the payload. -/
def u8 (p : List Byte) (i : Nat) : Nat := (p.getD i 0).toNat

/-- The two-byte field at a place of the payload, most significant byte first (R181). -/
def u16 (p : List Byte) (i : Nat) : Nat := 256 * u8 p i + u8 p (i + 1)

/-- A yes/no byte: yes when it is nonzero (R181). -/
def yesAt (p : List Byte) (i : Nat) : Bool := u8 p i != 0

/-- A value clamped into a range. -/
def clamp (lo hi v : Nat) : Nat := max lo (min hi v)

/-- The pairs of function code and value from a place of the payload on (Table 11-3). -/
def pairsOf : List Byte → List (Nat × Nat)
  | a :: b :: rest => (a.toNat, b.toNat) :: pairsOf rest
  | _ => []

/-- The points of a curve: ohms and position, two bytes each (R182). -/
def pointsOf : List Byte → List Point
  | a :: b :: c :: d :: rest =>
    { ohms := 256 * a.toNat + b.toNat, position := 256 * c.toNat + d.toNat } :: pointsOf rest
  | _ => []

/-- A lamp channel of a channel number, or none above 13. -/
def lampOfNat (n : Nat) : Option LampId := if h : n < 14 then some ⟨n, h⟩ else none

/-- A gauge of a gauge number, or none above 1. -/
def gaugeOfNat (n : Nat) : Option GaugeId := if h : n < 2 then some ⟨n, h⟩ else none

/-- A side of TURN (R85). -/
def hostSideOf : Nat → Option Sides
  | 0 => some .none
  | 1 => some .left
  | 2 => some .right
  | _ => none

/-- A fault_action of GAUGECFG (R122). -/
def faultActionOf : Nat → Option FaultAction
  | 0 => some .zero
  | 1 => some .keep
  | _ => none

/-- A polarity of INPUTCFG (R145). -/
def polarityOf : Nat → Option Polarity
  | 0 => some .default
  | 1 => some .activeHigh
  | 2 => some .activeLow
  | _ => none

/-- A sense-pin mode of INPUTCFG (R145). -/
def senseModeOfCode : Nat → Option SenseMode
  | 0 => some .sender
  | 1 => some .switch
  | _ => none

/-- A system voltage of SUPPLYCFG (R140). -/
def systemOf : Nat → Option SystemVoltage
  | 6 => some .v6
  | 12 => some .v12
  | _ => none

/-- The value a lamp function stores for a value given: above 100 as 100, and a non-dimmable function stores 100 for anything
but 0 (R43, R44, R58). -/
def lampValue (f : Fn) (v : Nat) : Nat :=
  if f.dimmable then min 100 v else if v = 0 then 0 else 100

/-- The base demand a function stores for a value given: FAN takes a step up to 4 (R44). -/
def storedDemand (f : Fn) (v : Nat) : Nat := if f = .fan then min 4 v else lampValue f v

/-! ### Laying out a reply's data -/

/-- A one-byte field; a value above 255 is sent as 255 (R181). -/
def b1 (v : Nat) : List Byte := [BitVec.ofNat 8 (min 255 v)]

/-- A two-byte field, most significant byte first; a value above 65,535 is sent as 65,535 (R181). -/
def b2 (v : Nat) : List Byte :=
  [BitVec.ofNat 8 (min 65535 v / 256), BitVec.ofNat 8 (min 65535 v)]

/-- A four-byte field, most significant byte first, saturating (R181). -/
def b4 (v : Nat) : List Byte :=
  let w := min 4294967295 v
  [BitVec.ofNat 8 (w / 16777216), BitVec.ofNat 8 (w / 65536), BitVec.ofNat 8 (w / 256), BitVec.ofNat 8 w]

/-- An absent resistance is 0xFFFF (R181). -/
def resistanceField (r : Option Nat) : List Byte := b2 (r.getD 65535)

/-- An absent channel is 0xFF (R181). -/
def channelField (c : Option LampId) : List Byte := b1 ((c.map (·.val)).getD 255)

/-- A function code; NONE is 0xFF (Table 11-2). -/
def fnField (f : Option Fn) : List Byte := b1 ((f.map (·.code.val)).getD 255)

/-- A point of a curve: ohms, then position (R182). -/
def pointField (p : Point) : List Byte := b2 p.ohms ++ b2 p.position

/-- The channel places of FNREAD: the list in ascending order with 0xFF in each unused place (Table 11-4). -/
def channelPlaces (cs : List Nat) : List Byte := ((cs ++ List.replicate 14 255).take 14).flatMap b1

end Sys2Proof.Machine
end

