-- ==== Sys2Proof/Machine/Flags.lean ====
section
/-! DEFINITION. Flag bytes and result codes: how yes/no fields are packed into bits and which code a taken request answers. -/

namespace Sys2Proof.Machine

/-- yes is sent as 1 and no as 0 (R181). -/
def yesNo (b : Bool) : Nat := if b then 1 else 0

/-- A flag byte: the flags from bit 0 upward (R181). -/
def flagBits : List Bool → Nat
  | [] => 0
  | b :: rest => yesNo b + 2 * flagBits rest

/-- OK, or CLAMPED where a stored value differs from the value given (Table 9-2). -/
def clampedCode (clamped : Bool) : ResultCode := if clamped then .clamped else .ok

/-- The code of a request that sets demands: HELD before CLAMPED before OK (R46). -/
def demandCode (held clamped : Bool) : ResultCode := if held then .held else clampedCode clamped

/-- The flags of byte 2 of a STATUS reply (Table 11-5). -/
def State.statusFlags (s : State) : Nat :=
  flagBits [s.op.configured, s.op.sleepRequested, s.supply.hold, s.supply.charging, s.op.limpLatch,
    s.op.linkSilentLatch, s.report.overflow]

/-- The seen flags of byte 4 of a STATUS reply (Table 11-5, R165). -/
def Link.seenFlags (l : Link) : Nat := flagBits [l.overrun, l.lineError, l.formatError, l.checkError]

/-- The flash report of R87 (Table 11-4). -/
def Flash.report (f : Flash) : List Byte :=
  b1 f.phase.code ++ b1 f.active.code ++ b1 f.hostSide.code ++ b1 (flagBits [f.hostHazard, f.hazIn, f.fast]) ++ b1 f.rate

/-- The debounced levels of the six inputs, bit i for input i (Table 11-4). -/
def State.levelBits (s : State) : Nat := flagBits (allInputs.map s.level)

end Sys2Proof.Machine
end

