-- ==== Sys2Proof/Machine/LinkBlock.lean ====
section
/-! DEFINITION. The link and report block (chapter 9): frame assembly, the inbound queue, taking a request, the reply
transmitter. -/

namespace Sys2Proof.Machine

/-! ### Replies (R167, R168) -/

/-- A reply enters the shifting stage where that is empty, the waiting stage otherwise (R168). -/
def Link.send (l : Link) (f : Frame) : Link :=
  match l.shifting with
  | none => { l with shifting := some f }
  | some _ => { l with waiting := some f }

/-- The last byte of the reply in the shifting stage has gone out (R168). -/
def Link.sent (l : Link) : Link := { l with shifting := l.waiting, waiting := none }

/-- What the owner of a request answers: the state it leaves, the result code and the reply's data (R166). -/
structure Answer where
  state : State
  code : ResultCode
  data : List Byte

/-- A refusal: no state is changed and the code stands alone (R166, R167). -/
def refuse (s : State) (c : ResultCode) : Answer := { state := s, code := c, data := [] }

/-- The reply of an answer (R167): the request's kind plus 0x80, the code, the data. -/
def Answer.frame (a : Answer) (kind : Byte) : Frame := { kind := kind + 0x80, payload := a.code.code :: a.data }

/-! ### Taking a request (R166) -/

/-- Frames may be taken: the waiting stage is empty, no RESTART stands taken, the part is not in SLEEP (R166, R150). -/
def State.mayTake (s : State) : Bool := s.link.waiting.isNone && !s.link.restartTaken && s.op.state != .sleep

/-- The head of the inbound queue leaves it (R164). -/
def State.popInbound (s : State) (rest : List Frame) : State := { s with link := { s.link with inbound := rest } }

/-- The answer to a request of a kind: refused BAD_LENGTH, or as its owner gives (R166). -/
def answerOf (k : ReqKind) (owner : List Byte → State → Answer) (p : List Byte) (s : State) : Answer :=
  if k.lengthOk p.length then owner p s else refuse s .badLength

/-- A request of a kind is taken from the head of the inbound queue and answered with one reply (R166, R167, R168). Where the
head is another kind, or none stands there, or no frame may be taken, nothing happens. -/
def State.request (k : ReqKind) (owner : List Byte → State → Answer) (s : State) : State :=
  match s.link.inbound with
  | [] => s
  | f :: rest =>
    if s.mayTake ∧ f.kind = k.code then
      let a := answerOf k owner f.payload (s.popInbound rest)
      { a.state with link := a.state.link.send (a.frame f.kind) }
    else s

/-- The kind byte of a BAD_KIND reply: the received kind plus 0x80, or 0xFF where that does not fit a byte (R167). -/
def badKindReply (kind : Byte) : Frame :=
  { kind := if 128 ≤ kind.toNat then 0xFF else kind + 0x80, payload := [ResultCode.badKind.code, kind] }

/-- A frame of an unknown kind is taken and refused BAD_KIND (R166 step 1). -/
def State.takeUnknown (s : State) : State :=
  match s.link.inbound with
  | [] => s
  | f :: rest =>
    if s.mayTake ∧ ReqKind.ofCode f.kind = none then
      { s with link := { s.link with inbound := rest }.send (badKindReply f.kind) }
    else s

/-- A configuration request acts only in LIMP and is refused LOCKED elsewhere (Table 9-3). -/
def inLimp (owner : List Byte → State → Answer) (p : List Byte) (s : State) : Answer :=
  if s.op.state = .limp then owner p s else refuse s .locked

/-- An operational request is refused NOT_READY in LIMP (Table 9-3). -/
def notInLimp (owner : List Byte → State → Answer) (p : List Byte) (s : State) : Answer :=
  if s.op.state = .limp then refuse s .notReady else owner p s

/-! ### A valid frame (R164) -/

/-- The operating-state controller hears a valid frame: the silence timer and the silence count restart, the link-silent
condition is cleared, limp lighting ends (R157, R159). -/
def State.frameHeard (s : State) : State :=
  let s1 := { s with op := { s.op with silenceTimer := 0, linkSilent := false, silenceCount := 0, limpLighting := false } }
  if s.op.limpLighting then s1.settle else s1

/-- A seen flag after a frame is lost by the cause that sets it: set, but for a frame lost while a RESTART stands taken (R165,
R150). -/
def Link.flagAfter (l : Link) (flag : Bool) : Bool := flag || !l.restartTaken

/-- The frame is offered to the inbound queue: an overrun loses it, without the flag while a RESTART stands taken (R164,
R171). -/
def Link.offer (l : Link) (f : Frame) : Link :=
  if l.inbound.length < 4 then { l with inbound := l.inbound ++ [f] }
  else { l with overrun := l.flagAfter l.overrun }

/-- The assembler completes a valid frame (R164). -/
def State.validFrame (s : State) (f : Frame) : State :=
  { s.frameHeard with link := s.frameHeard.link.offer f }

/-! ### The frame assembler (R162, R163)

After RESTART is taken no frame that is lost sets a seen flag (R150, R165): a byte in error within a frame under assembly leaves
line_error as it is, and a wrong length, a wrong check byte and an overrun leave their flags. A byte in error that arrives in HUNT is
part of no frame under assembly: it sets line_error always (R161, R163). That the frame lost is the one under assembly, so that a
damaged start mark is such a byte in HUNT, is the model's reading (DEDUCED, log entry 38). -/

/-- The assembler moves. -/
def State.setAssembler (s : State) (a : Assembler) : State := { s with link := { s.link with assembler := a } }

/-- A parity or framing error: line_error is set, and any frame under assembly is discarded, without the flag while a RESTART stands
taken; in HUNT no frame is lost and the flag is set always (R161, R163, R165). -/
def State.lineErrored (s : State) : State :=
  { s with link :=
    { s.link with
      assembler := .hunt
      lineError := if s.link.assembler = .hunt then true else s.link.flagAfter s.link.lineError } }

/-- A length byte above 24: format_error (R163). -/
def State.formatErrored (s : State) : State :=
  { s with link := { s.link with assembler := .hunt, formatError := s.link.flagAfter s.link.formatError } }

/-- A check byte that does not give a sum of 0: check_error (R163). -/
def State.checkErrored (s : State) : State :=
  { s with link := { s.link with assembler := .hunt, checkError := s.link.flagAfter s.link.checkError } }

/-- The 8-bit sum that the check byte must bring to 0 (R162). -/
def frameSum (len : Nat) (kind : Byte) (held : List Byte) (check : Byte) : Byte :=
  byteSum (BitVec.ofNat 8 len :: kind :: (held ++ [check]))

/-- A byte without error advances the assembler (R162). -/
def State.assemble (s : State) (b : Byte) : State :=
  match s.link.assembler with
  | .hunt => if b = startMark then s.setAssembler .length else s
  | .length => if b.toNat ≤ 24 then s.setAssembler (.kind b.toNat) else s.formatErrored
  | .kind len => s.setAssembler (if len = 0 then .check 0 b [] else .payload len b [])
  | .payload len kind held =>
    if len ≤ held.length + 1 then s.setAssembler (.check len kind (held ++ [b]))
    else s.setAssembler (.payload len kind (held ++ [b]))
  | .check len kind held =>
    if frameSum len kind held b = 0 then (s.setAssembler .hunt).validFrame { kind := kind, payload := held }
    else s.checkErrored

/-- A byte is received on RX (R161): not in SLEEP, nor within the 4 ms after a waking edge (R169). After a wake by anything but RX, and
on the return to WATCH, the receiver receives at once (DEDUCED, log entry 44: R156 and R169 give the 4 ms from an RX edge
alone). -/
def State.receive (s : State) (b : Byte) (parity stop : Bool) : State :=
  if s.op.state = .sleep ∨ s.link.receiverPaused then s
  else if parity = parityBit b ∧ stop then s.assemble b
  else s.lineErrored

end Sys2Proof.Machine
end

