-- ==== Sys2Proof/Machine/BankEvents.lean ====
section
/-! DEFINITION. The events of the channel bank (chapter 1): samples, averages, trips, timers, decisions of lamp_out and fed. -/

namespace Sys2Proof.Machine

/-! ### CURRENT_SAMPLE (R3) -/

/-- What a sampling moment takes on a channel, as its output stands: a current sample at a duty in per mille, a read-back of its
line, or nothing (R3, R19, R90, R116). -/
inductive Taken where
  | current (duty : Nat)
  | line
  | nothing
  deriving DecidableEq, Repr

/-- What is taken on a channel: a current where its output conducts, a read-back in OFF, TRIPPED and LOCKED_OUT, nothing in QUEUED
(R3). -/
def State.takenOn (s : State) (ch : ChanId) : Taken :=
  if h : ch.val < 14 then
    if (s.lamp ⟨ch.val, h⟩).state.conducts then .current (10 * s.appliedDuty ⟨ch.val, h⟩)
    else if s.readBackTaken ⟨ch.val, h⟩ then .line
    else .nothing
  else if ch.val = 14 then (if s.fan.driven then .current s.fan.applied else .nothing)
  else
    let g : GaugeId := if ch.val = 15 then 0 else 1
    if s.gaugeSampled g then .current (s.gauge g).d else .nothing

/-- A reading is stored where it is a current sample (R4). -/
def State.storeTaken (s : State) (ch : ChanId) (taken : Taken) (reading : Nat) : State :=
  match taken with
  | .current duty => s.storeSample ch reading duty
  | _ => s

/-- A current sample reaches the rules of its channel: the trip and lamp-out rules, the stall rules, the short rule (R3). -/
def State.sampleActs (s : State) (ch : ChanId) (milliamps : Nat) : State :=
  if h : ch.val < 14 then s.lampActs ⟨ch.val, h⟩ milliamps
  else if ch.val = 14 then s.fanActs milliamps
  else s.gaugeActs (if ch.val = 15 then 0 else 1) milliamps

/-- A reading reaches the rules of its channel. -/
def State.readingActs (s : State) (ch : ChanId) (taken : Taken) (reading : Nat) : State :=
  match taken with
  | .current _ => s.sampleActs ch reading
  | .line => if h : ch.val < 14 then s.readBack ⟨ch.val, h⟩ reading else s
  | .nothing => s

/-- The readings that fall due on the sampling schedule (R3); in SLEEP none is taken. What each channel takes goes by the outputs as
they stand at the moment, and all samples are stored. Then each reading reaches its channel's rules as a cause of its own, the
channels in ascending order: what a trip releases and what its spare joins is settled, with their grant passes, before the next
channel's reading (R31, R32; the order of the channels is DESIGN CHOICE, log entry 28). -/
def State.currentSample (s : State) (readings : Vector (Option Nat) 17) : State :=
  if s.op.state = .sleep then s
  else
    let due := allChans.filterMap (fun ch => readings[ch].map (fun v => (ch, v)))
    let stored := due.foldl (fun t x => t.storeTaken x.1 (s.takenOn x.1) x.2) s
    due.foldl (fun t x => (t.readingActs x.1 (s.takenOn x.1) x.2).settle) stored

/-- CURRENT_SAMPLE (R3). -/
def execCurrentSample (readings : Vector (Option Nat) 17) (s : State) : Host.Outcome State Fault Refusal :=
  s.live (fun s => s.currentSample readings)

/-! ### CHANNEL_AVERAGE (R4) -/

/-- The average of a closing interval: of ten slots, or the one slot of WATCH (R4). -/
def Meas.close (m : Meas) (watch : Bool) : Meas :=
  { m with average := if watch then m.slotLast else m.slotSum / 10, slotSum := 0, slotLast := 0 }

/-- A 100-ms mark of the bank: the averages of the interval it closes are formed and handed over; the first mark after a wake
only begins an interval (R4, R126, R156). -/
def State.averageMark (s : State) : State :=
  if s.op.state = .sleep then s
  else if s.bank.intervalOpen then
    { s with
      bank :=
        { s.bank with meas := s.bank.meas.map (fun m => m.close (s.op.state == .watch)), averagesReady := true } }
  else { s with bank := { s.bank with intervalOpen := true } }

/-- CHANNEL_AVERAGE (R4). -/
def execChannelAverage (s : State) : Host.Outcome State Fault Refusal := s.live State.averageMark

/-! ### TRIP (R12) -/

/-- TRIP (R11, R12): the deciding sample trips the channel. -/
def execTrip (ch : LampId) (milliamps : Nat) (s : State) : Host.Outcome State Fault Refusal :=
  s.live (fun s => if tripsOn ch (s.lamp ch) milliamps then (s.lampSample ch milliamps).settle else s)

/-! ### Timers (R10, R13, R14) -/

/-- The inrush window ends in ON; both counts restart (R10). -/
def LampRec.inrushEnds (c : LampRec) : LampRec :=
  { c with state := .on, granted := false, inrushTimer := 0, overCount := 0, lampRun := { verdict := false, count := 0 } }

/-- INRUSH_END (R10): a grant held is given back and the arbiter makes a pass. -/
def execInrushEnd (ch : LampId) (s : State) : Host.Outcome State Fault Refusal :=
  s.live (fun s =>
    if (s.lamp ch).state = .inrush then (s.setLamp ch (s.lamp ch).inrushEnds).arbitrate else s)

/-- The retry delay ends: the channel acts on its demand (R13). -/
def LampRec.retryEnds (c : LampRec) (hold signalling : Bool) : LampRec :=
  if c.demand = 0 then { c with state := .off, retryTimer := 0, offReason := c.demandReason }
  else { c with state := .off, retryTimer := 0 }.turnOn hold signalling

/-- RETRY_EXPIRY (R13). -/
def execRetryExpiry (ch : LampId) (s : State) : Host.Outcome State Fault Refusal :=
  s.live (fun s =>
    if (s.lamp ch).state = .tripped then
      (s.setLamp ch ((s.lamp ch).retryEnds s.supply.hold (s.signalling ch))).arbitrate
    else s)

/-- TRIP_FORGIVENESS (R14): on_time_since_trip reaches 10,000 ms and retries_used returns to 0. -/
def execTripForgiveness (ch : LampId) (s : State) : Host.Outcome State Fault Refusal :=
  s.live (fun s =>
    if (s.lamp ch).state.conducts then s.setLamp ch { s.lamp ch with retriesUsed := 0, onTime := 10000 } else s)

/-! ### Decisions (R17, R19) -/

/-- A sample is the third agreeing one that changes the lamp_out flag of a steady ON channel (R17). -/
def State.lampOutDecides (s : State) (ch : LampId) (milliamps : Nat) : Bool :=
  let c := s.lamp ch
  let r := c.lampRun.after (milliamps < lampOutThreshold c.cfg)
  c.state == .on && !s.flashDriven ch && r.count == 3 && r.verdict != c.lampOut

/-- LAMP_OUT_DECISION (R17): the deciding sample is taken. -/
def execLampOutDecision (ch : LampId) (milliamps : Nat) (s : State) : Host.Outcome State Fault Refusal :=
  s.live (fun s => if s.lampOutDecides ch milliamps then (s.lampSample ch milliamps).settle else s)

/-- A read-back is the third agreeing one that changes the fed flag (R19). -/
def State.fedDecides (s : State) (ch : LampId) (millivolts : Nat) : Bool :=
  let c := s.lamp ch
  let r := c.fedRun.after (s.lineFed millivolts)
  s.readBackTaken ch && r.count == 3 && r.verdict != c.fed

/-- FED_DECISION (R19): the deciding read-back is taken. -/
def execFedDecision (ch : LampId) (millivolts : Nat) (s : State) : Host.Outcome State Fault Refusal :=
  s.live (fun s => if s.fedDecides ch millivolts then s.readBack ch millivolts else s)

end Sys2Proof.Machine
end

