-- ==== Sys2Proof/Machine/EngineEvents.lean ====
section
/-! DEFINITION. The events of the flash engine and of the fan controller (chapters 4 and 5). -/

namespace Sys2Proof.Machine

/-! ### The flash engine -/

/-- An ON phase ends: the lamp_out flags are decided, and an OFF phase of the same length begins (R75, R18). The channels are decided,
and their events raised, in ascending channel order (DESIGN CHOICE, log entry 41: R18, R75 and R173 give no order of the events of
several channels decided at one end). -/
def State.endOnPhase (s : State) : State :=
  let s1 := allLamps.foldl State.decidePhase s
  { s1 with flash := { s1.flash with phase := .off, timer := some s1.flash.half } }.settle

/-- ON_PHASE_END (R75). -/
def execOnPhaseEnd (s : State) : Host.Outcome State Fault Refusal :=
  s.live (fun s => if s.flash.phase = .on then s.endOnPhase else s)

/-- The engine falls idle (R76). -/
def Flash.idle (f : Flash) : Flash := { f with phase := .idle, active := .none, fast := false, timer := none }

/-- An OFF phase ends: the wanted set is read; a new ON phase begins or the engine falls idle (R76). -/
def State.endOffPhase (s : State) : State :=
  (if s.wanted = .none then s.setFlash s.flash.idle else s.onStart s.wanted).settle

/-- OFF_PHASE_END (R76). -/
def execOffPhaseEnd (s : State) : Host.Outcome State Fault Refusal :=
  s.live (fun s => if s.flash.phase = .off then s.endOffPhase else s)

/-! ### The fan controller -/

/-- The kick ends: the grant is released and the ramp starts at full duty (R93, R94). -/
def Fan.kickEnds (f : Fan) : Fan := { f with granted := false, kickTimer := none, stallTimer := 0 }.enterRamping 1000

/-- KICK_END (R93). -/
def execKickEnd (s : State) : Host.Outcome State Fault Refusal :=
  s.live (fun s => if s.fan.state = .kick then { s with fan := s.fan.kickEnds }.arbitrate else s)

/-- RAMP_TIMER_EXPIRY (R94). -/
def execRampTimerExpiry (s : State) : Host.Outcome State Fault Refusal :=
  s.live (fun s => if s.fan.state = .ramping then { s with fan := s.fan.rampExpiry } else s)

/-- STALL_FOUND (R97, R98): the deciding sample is taken, and a grant held in KICK goes back to the arbiter. -/
def execStallFound (milliamps : Nat) (s : State) : Host.Outcome State Fault Refusal :=
  s.live (fun s => if s.fan.stalls milliamps then (s.fanSample milliamps).arbitrate else s)

/-- The wait ends: the fan acts on its resolved step (R99). -/
def Fan.waitEnds (f : Fan) (hold : Bool) : Fan :=
  if f.step ≠ 0 ∧ hold = false then f.startWaiting else f.stop

/-- STALL_WAIT_END (R99). -/
def execStallWaitEnd (s : State) : Host.Outcome State Fault Refusal :=
  s.live (fun s =>
    if s.fan.state = .stallWait then { s with fan := s.fan.waitEnds s.supply.hold }.arbitrate else s)

/-- FAN_FORGIVENESS (R96): running_time reaches 30,000 ms and retries_used returns to 0. -/
def execFanForgiveness (s : State) : Host.Outcome State Fault Refusal :=
  s.live (fun s =>
    if s.fan.state = .running then { s with fan := { s.fan with retriesUsed := 0, runningTime := 30000 } } else s)

end Sys2Proof.Machine
end

