-- ==== Sys2Proof/Machine/GaugeEvents.lean ====
section
/-! DEFINITION. The events of the gauge unit (chapter 6). -/

namespace Sys2Proof.Machine

/-- A sense pin is sampled for its gauge: in SENDER mode, while SREF is driven (R107). -/
def State.senseSample (s : State) (g : GaugeId) (code : Nat) : State :=
  if s.senseModeOf g = .sender ∧ s.op.state ≠ .sleep then
    s.setGauge g { s.gauge g with samples := (code :: (s.gauge g).samples).take 10 }
  else s

/-- SENSE_SAMPLE (R107). -/
def execSenseSample (g : GaugeId) (code : Nat) (s : State) : Host.Outcome State Fault Refusal :=
  s.live (fun s => s.senseSample g code)

/-- GAUGE_UPDATE (R110): the 100-ms mark of the gauge unit. -/
def execGaugeUpdate (s : State) : Host.Outcome State Fault Refusal := s.live State.gaugeMark

/-- The update at the next mark changes the sender status of a gauge (R111). -/
def State.senderChanges (s : State) (g : GaugeId) : Bool :=
  let x := s.gauge g
  (x.state == .run || x.state == .test) && x.fullInterval && x.senseUpdate.sender != x.sender

/-- SENDER_STATUS_CHANGE (R111): the mark whose update changes the sender status. -/
def execSenderStatusChange (g : GaugeId) (s : State) : Host.Outcome State Fault Refusal :=
  s.live (fun s => if s.senderChanges g then s.gaugeMark else s)

/-- A sample is the second consecutive one above 1,000 mA (R116). -/
def State.shortFound (s : State) (g : GaugeId) (milliamps : Nat) : Bool :=
  s.gaugeSampled g && 1000 < milliamps && (s.gauge g).shortCount != 0

/-- GAUGE_OUTPUT_SHORT (R116): the deciding sample is taken. -/
def execGaugeOutputShort (g : GaugeId) (milliamps : Nat) (s : State) : Host.Outcome State Fault Refusal :=
  s.live (fun s => if s.shortFound g milliamps then s.gaugeSample g milliamps else s)

/-- TEST_COMPLETE (R120): the mark at which the test step reaches 60. -/
def execTestComplete (s : State) : Host.Outcome State Fault Refusal :=
  s.live (fun s => if s.testRunning ∧ s.gauges.testStep = 59 then s.gaugeMark else s)

end Sys2Proof.Machine
end

