-- ==== Sys2Proof/Machine/InputEvents.lean ====
section
/-! DEFINITION. The events of the input block and of SLEEP (sections 8.1, 8.4 and 8.5). -/

namespace Sys2Proof.Machine

/-- INPUT_SAMPLE (R143): every switch input is sampled. -/
def execInputSample (pins : PinLevels) (s : State) : Host.Outcome State Fault Refusal :=
  s.live (fun s => s.sampleInputs pins)

/-- The next disagreeing sample of an input is the fourth (R144). -/
def State.levelDue (s : State) (i : InputId) : Bool :=
  s.op.state != .sleep && s.inputSampled i && 3 ≤ (s.inRec i).count

/-- The inputs whose assertion wakes the part (R154). -/
def wakes : InputId → Bool
  | .ign | .haz | .door => true
  | _ => false

/-- An assertion that would have woken WATCH meets the entry to SLEEP, and the entry was taken first (R154): the fourth sample is due
in SLEEP, outside any window (log entry 39). -/
def State.sleptFirst (s : State) (i : InputId) : Bool :=
  s.op.state == .sleep && s.op.window.isNone && wakes i && !s.level i && 3 ≤ (s.inRec i).count

/-- INPUT_LEVEL_CHANGE (R144): a fourth disagreeing sample changes the debounced level. -/
def execInputLevelChange (i : InputId) (s : State) : Host.Outcome State Fault Refusal :=
  s.live (fun s =>
    if s.levelDue i then s.deliverLevel i (!s.level i) else if s.sleptFirst i then s.deliverAsleep i else s)

/-- The part may enter SLEEP: WATCH, nothing on, the link quiet (R151). -/
def State.maySleep (s : State) : Bool := s.op.state == .watch && s.nothingOn && s.link.quiet

/-- ENTER_SLEEP (R151, R152). -/
def execEnterSleep (s : State) : Host.Outcome State Fault Refusal :=
  s.live (fun s => if s.maySleep then s.goToSleep else s)

/-- SLEEP_EDGE (R155): an edge toward the asserted level opens a confirmation window; within an open window it opens none. -/
def execSleepEdge (_i : WakeInput) (s : State) : Host.Outcome State Fault Refusal :=
  s.live (fun s =>
    if s.op.state = .sleep ∧ s.op.window = none then { s with op := { s.op with window := some s.openWindow } } else s)

/-- The last sample of a confirming input within a window: the wake, by the input named (R155). -/
def State.confirmBy (s : State) (i : WakeInput) (pins : PinLevels) (w : Window) : State :=
  if (s.windowSample pins w).confirms i then s.confirmWake i (s.windowSample pins w) else s

/-- WAKE_CONFIRMED (R155): the fourth consecutive asserted sample of an input within the window. -/
def execWakeConfirmed (i : WakeInput) (pins : PinLevels) (s : State) : Host.Outcome State Fault Refusal :=
  s.live (fun s =>
    if s.op.state = .sleep then
      match s.op.window with
      | some w => s.confirmBy i pins w
      | none => s
    else s)

/-- WINDOW_TIMEOUT (R155): the window ends unconfirmed and what it held is discarded. -/
def execWindowTimeout (s : State) : Host.Outcome State Fault Refusal :=
  s.live (fun s => if s.op.state = .sleep then { s with op := { s.op with window := none } } else s)

end Sys2Proof.Machine
end

