-- ==== Sys2Proof/Machine/LinkEvents.lean ====
section
/-! DEFINITION. The events of the body link: a frame of unknown kind, bytes received, gaps, replies sent, the wake by RX, the
restart of the receiver, link silence (chapter 9, sections 8.5 and 8.6). -/

namespace Sys2Proof.Machine

/-- UNKNOWN_KIND (R166, R167): a frame of no known kind is taken and refused BAD_KIND. -/
def execUnknownKind (s : State) : Host.Outcome State Fault Refusal := s.live State.takeUnknown

/-- RX_BYTE (R162): a byte received on RX. -/
def execRxByte (data : Byte) (parity stop : Bool) (s : State) : Host.Outcome State Fault Refusal :=
  s.live (fun s => s.receive data parity stop)

/-- GAP_TIMEOUT (R163): 5 ms without a byte discard the frame under assembly; a gap in HUNT is not measured. -/
def execGapTimeout (s : State) : Host.Outcome State Fault Refusal := s.live (fun s => s.setAssembler .hunt)

/-- REPLY_SENT (R168): the last byte of the reply in the shifting stage has left. -/
def execReplySent (s : State) : Host.Outcome State Fault Refusal := s.live (fun s => { s with link := s.link.sent })

/-- RX falls in SLEEP (R156): the wake by RX to PARK, the receiver paused, an open window's held changes handed on (R155). Where IGN's
kept level is asserted already and no change of it is held, the part stays in PARK (DEDUCED, log entry 43: R156 says PARK without
exception, the opening of 8.5 says DRIVE where IGN is asserted). -/
def State.rxWakes (s : State) : State :=
  let w := s.op.window
  let s1 := (({ s with link := { s.link with receiverPaused := true } }.wakeTo .park .rx).settle)
  s1.closeWindow w

/-- RX_WAKE (R156). -/
def execRxWake (s : State) : Host.Outcome State Fault Refusal :=
  s.live (fun s => if s.op.state = .sleep then s.rxWakes else s)

/-- RECEIVER_RESTART (R169): 4 ms after the waking edge the receiver starts again in HUNT. -/
def execReceiverRestart (s : State) : Host.Outcome State Fault Refusal :=
  s.live (fun s =>
    if s.link.receiverPaused then { s with link := { s.link with receiverPaused := false, assembler := .hunt } } else s)

/-- The silence timer has reached the link timeout (R157): the state is DRIVE or PARK, the condition is clear, the timeout, in
units of 100 ms, is not off. -/
def State.maySilence (s : State) : Bool :=
  (s.op.state == .drive || s.op.state == .park) && !s.op.linkSilent && s.op.linkTimeout != 0 &&
    100 * s.op.linkTimeout ≤ s.op.silenceTimer

/-- The link-silent condition is raised, and the host side request is cancelled (R157, R89). -/
def State.goSilent (s : State) : State :=
  let s1 := { s with op := { s.op with linkSilent := true, linkSilentLatch := true } }
  { s1 with flash := { s1.flash with hostSide := .none } }.raise .linkSilent 0 s.op.linkTimeout

/-- LINK_TIMEOUT (R157): the silence timer reaches the link timeout. -/
def execLinkTimeout (s : State) : Host.Outcome State Fault Refusal :=
  s.live (fun s => if s.maySilence then s.goSilent else s)

end Sys2Proof.Machine
end

