-- ==== Sys2Proof/Machine/ReqControl.lean ====
section
/-! DEFINITION. The requests that the operating-state controller owns outside configuration: START, STOP, SLEEP, WAKE,
RESTART (sections 8.3 to 8.5). -/

namespace Sys2Proof.Machine

/-! ### START (R148) -/

/-- In the configured map a function is served by a channel (R148 check 1). -/
def State.configuredFor (s : State) (f : Fn) : Bool := allLamps.any (fun ch => (s.lamp ch).cfg.fn == some f)

/-- A channel is the primary of a non-empty entry. -/
def State.isPrimary (s : State) (ch : LampId) : Bool := allSubs.any (fun e => (s.subEntry e).pair.any (fun p => p.1 == ch))

/-- A channel is the spare of a non-empty entry. -/
def State.isSpare (s : State) (ch : LampId) : Bool := allSubs.any (fun e => (s.subEntry e).pair.any (fun p => p.2 == ch))

/-- A spare can carry a primary: a HEAVY primary needs a HEAVY spare (R22). -/
def canCarry (primary spare : LampId) : Bool := !isHeavy primary || isHeavy spare

/-- A pair of the substitution table is valid as START checks it (R148 check 2). -/
def State.pairValid (s : State) (p : LampId × LampId) : Bool :=
  (s.lamp p.2).cfg.fn.isNone && canCarry p.1 p.2 && !s.isSpare p.1 && !s.isPrimary p.2

/-- Ohms strictly ascend (R113, R123). -/
def ohmsAscend : List Point → Bool
  | a :: b :: rest => a.ohms < b.ohms && ohmsAscend (b :: rest)
  | _ => true

/-- An enabled gauge has its pin in SENDER mode and a curve of 2 to 8 ascending points (R148 check 4). -/
def State.gaugeReady (s : State) (g : GaugeId) : Bool :=
  let c := (s.gauge g).cfg
  !c.enabled ||
    (s.senseModeOf g == .sender && 2 ≤ c.curve.length && c.curve.length ≤ 8 && ohmsAscend c.curve)

/-- The number of the first check of START that fails (R148). -/
def State.startCheck (s : State) : Option Nat :=
  let st := s.supply.settings
  let fs := s.fan.settings
  if !(s.configuredFor .brake && s.configuredFor .indL && s.configuredFor .indR) then some 1
  else if !(allSubs.all (fun e => (s.subEntry e).pair.all s.pairValid)) then some 2
  else if !(st.t1 < st.t2 && st.t2 < st.t3) then some 3
  else if !(allGauges.all s.gaugeReady) then some 4
  else if !(fs.duty1 < fs.duty2 && fs.duty2 < fs.duty3 && fs.duty3 < fs.duty4) then some 5
  else none

/-- The courtesy decision of START (R64). -/
def State.courtesyAtStart (s : State) : Courtesy :=
  let c := s.resolver.courtesy
  if c.enable && s.level .door then { c with phase := .opened, level := 100, timer := 0 } else c

/-- The state that START leads to (R148). -/
def State.startState (s : State) : OpState := if s.level .ign then .drive else .park

/-- What START sets before the new map is in force (R148). -/
def State.startFields (s : State) : State :=
  { s with
    op := { s.op with configured := true, limpLighting := false, silenceTimer := 0 }
    resolver := { s.resolver with courtesy := s.courtesyAtStart }
    gauges := { s.gauges with gauges := s.gauges.gauges.map (fun g => { g with pendingCurve := none }) } }

/-- START passes its checks: the configured map comes into force, the substitution entries are examined, every function is
resolved and every channel handed its value as one cause (R148, R66, R23, R38). -/
def State.startPart (s : State) : State :=
  let s1 := (s.startFields.enterState s.startState).mapChanged s.serving
  ((allLamps.foldl State.markEntered s1).examine (fun _ => true)).settle

/-- START (R148): outside LIMP answered OK without effect. -/
def startOwner (_p : List Byte) (s : State) : Answer :=
  if s.op.state ≠ .limp then { state := s, code := .ok, data := b1 s.op.state.code }
  else
    match s.startCheck with
    | some n => { state := s, code := .badValue, data := b1 n }
    | none => { state := s.startPart, code := .ok, data := b1 s.startState.code }

/-- START (R148). -/
def execStart (s : State) : Host.Outcome State Fault Refusal := s.live (State.request .start startOwner)

/-! ### STOP (R149) -/

/-- What STOP clears in the records of the part, each lamp lockout apart (R149). -/
def State.stopFields (s : State) : State :=
  { s with
    resolver :=
      { fns := s.resolver.fns.map (fun r => { r with base := 0 })
        scenes := []
        courtesy := s.resolver.courtesy.quiet }
    flash := { s.flash with hostSide := .none, hostHazard := false }
    fan := s.fan.clearLockout
    gauges := { s.gauges with gauges := s.gauges.gauges.map Gauge.clearFault }
    op :=
      { s.op with configured := false, sleepRequested := false, linkSilent := false, silenceCount := 0 } }

/-- STOP returns the part to LIMP as one cause (R149). lamp_out is kept but on a released spare and on a channel whose serving function
STOP changes, where it is cleared without an event (DEDUCED, log entry 46: R28 has STOP keep lamp_out and does not except those
channels, R21 clears it there and names STOP and the release). -/
def State.stopPart (s : State) : State :=
  let s1 := (s.releaseWhere (fun _ => true)).clearAllLamps.stopFields.enterState .limp
  (s1.mapChanged s.serving).settle

/-- STOP taken in LIMP: lamp lockouts are lifted and the silence count restarts, so that limp lighting does not stand (R149,
R159). -/
def State.stopInLimp (s : State) : State :=
  { s.clearAllLamps with op := { s.op with silenceCount := 0, limpLighting := false } }.settle

/-- STOP (R149): refused IGN_ON in DRIVE. -/
def stopOwner (_p : List Byte) (s : State) : Answer :=
  match s.op.state with
  | .drive => refuse s .ignOn
  | .limp => { state := s.stopInLimp, code := .ok, data := [] }
  | .park | .watch | .sleep => { state := s.stopPart, code := .ok, data := [] }

/-- STOP (R149). -/
def execStop (s : State) : Host.Outcome State Fault Refusal := s.live (State.request .stop stopOwner)

/-! ### SLEEP (R151) -/

/-- The SLEEP request is taken in PARK (R151). -/
def State.requestSleep (s : State) : State :=
  ({ s with op := { s.op with sleepRequested := true } }.enterState .watch).settle

/-- SLEEP (R151): NOT_READY in LIMP, IGN_ON in DRIVE, no change in WATCH. -/
def sleepOwner (_p : List Byte) (s : State) : Answer :=
  match s.op.state with
  | .limp => refuse s .notReady
  | .drive => refuse s .ignOn
  | .park => { state := s.requestSleep, code := .ok, data := [] }
  | .watch | .sleep => { state := s, code := .ok, data := [] }

/-- SLEEP (R151). -/
def execSleep (s : State) : Host.Outcome State Fault Refusal := s.live (State.request .sleep sleepOwner)

/-! ### WAKE (R154) -/

/-- WAKE (R154): NOT_READY in LIMP, a wake in WATCH, no change in DRIVE and PARK. -/
def wakeOwner (_p : List Byte) (s : State) : Answer :=
  match s.op.state with
  | .limp => refuse s .notReady
  | .watch => { state := (s.wakeTo .park .request).settle, code := .ok, data := [] }
  | .drive | .park | .sleep => { state := s, code := .ok, data := [] }

/-- WAKE (R154). -/
def execWake (s : State) : Host.Outcome State Fault Refusal := s.live (State.request .wake wakeOwner)

/-! ### RESTART (R150) -/

/-- RESTART: answered OK, and no further frame is taken (R150). -/
def restartOwner (_p : List Byte) (s : State) : Answer :=
  { state := { s with link := { s.link with restartTaken := true } }, code := .ok, data := [] }

/-- RESTART (R150). -/
def execRestart (s : State) : Host.Outcome State Fault Refusal := s.live (State.request .restart restartOwner)

end Sys2Proof.Machine
end

