-- ==== Sys2Proof/Machine/ReqRead.lean ====
section
/-! DEFINITION. The read requests: CHREAD, FNREAD, SCENEREAD, SUPPLYREAD, FANREAD, GAUGEREAD. They change no record. -/

namespace Sys2Proof.Machine

/-- A read is answered OK with its data. -/
def readAnswer (s : State) (data : List Byte) : Answer := { state := s, code := .ok, data := data }

/-! ### CHREAD (R26, Table 11-6) -/

/-- The data of CHREAD for a lamp channel (Table 11-6). -/
def State.lampData (s : State) (ch : LampId) : List Byte :=
  let c := s.lamp ch
  let m := s.measOf (lampChan ch)
  b1 ch.val ++ fnField c.cfg.fn ++ b1 (flagBits [c.cfg.stopTurn, c.lampOut, c.fed]) ++ b2 c.cfg.nominal ++
    b1 c.cfg.lampOutPct ++ b2 c.cfg.tripPct ++ b2 c.cfg.inrushMs ++ b1 c.cfg.retryLimit ++ fnField (s.serving ch) ++
    b1 c.state.code ++ b1 c.demand ++ b2 (s.appliedDuty ch) ++ b1 c.offReason.code ++ b2 m.last ++ b2 m.average ++
    b1 c.retriesUsed ++ channelField c.substituteFor

/-- The data of CHREAD for channels 14 to 16: the fields that R26 does not name read 0, substitute_for 0xFF (Table 11-6). -/
def plainChannelData (ch state duty last average retries : Nat) : List Byte :=
  b1 ch ++ List.replicate 11 0 ++ b1 state ++ b1 0 ++ b2 duty ++ b1 0 ++ b2 last ++ b2 average ++ b1 retries ++ b1 255

/-- The data of CHREAD for a channel number 0 to 16 (R26). -/
def State.channelData (s : State) (n : Nat) : List Byte :=
  if h : n < 14 then s.lampData ⟨n, h⟩
  else if n = 14 then
    plainChannelData 14 s.fan.state.code s.fan.applied (s.measOf 14).last (s.measOf 14).average s.fan.retriesUsed
  else if n = 15 then
    plainChannelData 15 (s.gauge 0).state.code (s.gauge 0).d (s.measOf 15).last (s.measOf 15).average 0
  else plainChannelData 16 (s.gauge 1).state.code (s.gauge 1).d (s.measOf 16).last (s.measOf 16).average 0

/-- CHREAD (R26). -/
def chreadOwner (p : List Byte) (s : State) : Answer :=
  if 16 < u8 p 0 then refuse s .badValue else readAnswer s (s.channelData (u8 p 0))

/-- CHREAD (R26). -/
def execChread (s : State) : Host.Outcome State Fault Refusal := s.live (State.request .chread chreadOwner)

/-! ### FNREAD (R47) -/

/-- The resolved value as FNREAD shows it: for the flash engine's functions the value driven at the moment (R47, R87). TELLTALE
shows 100 in an ON phase also where no channel serves it, as in LIMP (DEDUCED, log entry 34). -/
def State.shownValue (s : State) (f : Fn) : Nat :=
  match f with
  | .telltale => if s.flash.phase = .on then 100 else 0
  | .indL | .indR => if s.flash.phase = .on ∧ sideActive s.flash.active f then 100 else 0
  | f => (s.fnRec f).resolved

/-- The resolved reason as FNREAD shows it: for the flash engine's functions NONE, or HOLD while HOLD stands (R47). -/
def State.shownReason (s : State) (f : Fn) : Reason :=
  if f.flashDrivenFn then (if s.supply.hold then .hold else .none) else (s.fnRec f).reason

/-- The channel numbers of a function's list; that of FAN is channel 14 (R41). -/
def State.listOf (s : State) (f : Fn) : List Nat := if f = .fan then [14] else (s.channelsOf f).map (·.val)

/-- The three courtesy fields, 0 for functions other than INTERIOR (Table 11-4). -/
def State.courtesyData (s : State) (f : Fn) : List Byte :=
  let c := s.resolver.courtesy
  if f = .interior then b1 c.holdS ++ b1 c.phase.code ++ b1 c.level else [0, 0, 0]

/-- The data of FNREAD (Table 11-4). -/
def State.fnData (s : State) (f : Fn) : List Byte :=
  let r := s.fnRec f
  b1 r.cls ++ b1 (flagBits [r.ignitionFed, f == .interior && s.resolver.courtesy.enable]) ++ b1 r.base ++
    b1 (s.shownValue f) ++ b1 (s.shownReason f).code ++ b1 (s.listOf f).length ++ channelPlaces (s.listOf f) ++
    s.courtesyData f

/-- FNREAD (R47). -/
def fnreadOwner (p : List Byte) (s : State) : Answer :=
  match Fn.ofCode (u8 p 0) with
  | none => refuse s .badValue
  | some f => readAnswer s (s.fnData f)

/-- FNREAD (R47). -/
def execFnread (s : State) : Host.Outcome State Fault Refusal := s.live (State.request .fnread fnreadOwner)

/-! ### SCENEREAD (R61) -/

/-- The lifetime remaining in units of 100 ms, rounded up; absent is 0 (R59, R181). -/
def lifeUnits (life : Option Nat) : Nat := ((life.getD 0) + 99) / 100

/-- A scene as SCENEREAD carries it (Table 11-4). -/
def sceneData (sc : Scene) : List Byte :=
  sc.id :: (b1 (lifeUnits sc.life) ++ sc.entries.flatMap (fun e => b1 e.1.code.val ++ b1 e.2))

/-- SCENEREAD (R61). -/
def scenereadOwner (p : List Byte) (s : State) : Answer :=
  readAnswer s (b1 s.resolver.scenes.length ++ ((s.resolver.scenes[u8 p 0]?).map sceneData).getD [])

/-- SCENEREAD (R61). -/
def execSceneread (s : State) : Host.Outcome State Fault Refusal := s.live (State.request .sceneread scenereadOwner)

/-! ### SUPPLYREAD (R141) -/

/-- The STATE view (Table 11-8). -/
def Supply.stateData (x : Supply) : List Byte :=
  b2 x.vs ++ b2 x.chg ++ b1 (flagBits [x.charging, x.hold]) ++ b4 x.iTotal ++ b4 x.account ++ b1 x.la ++ b1 x.lv ++
    b1 x.l ++ b2 x.latest

/-- T1 in the upper 12 bits and T2 in the lower 12 of three bytes (Table 11-8). -/
def packedThresholds (t1 t2 : Nat) : List Byte :=
  let w := 4096 * min 4095 t1 + min 4095 t2
  b1 (w / 65536) ++ b1 (w / 256 % 256) ++ b1 (w % 256)

/-- The SETTINGS view (Table 11-8). -/
def SupplySettings.data (x : SupplySettings) : List Byte :=
  b1 x.system.code ++ b2 x.dynamo ++ packedThresholds x.t1 x.t2 ++ b2 x.t3 ++ b1 x.h ++ b2 x.vlow1 ++ b2 x.vlow2 ++
    b2 x.vover ++ b2 x.vrelease ++ b2 x.chargeThreshold ++ b4 x.cap

/-- SUPPLYREAD (R141). -/
def supplyreadOwner (p : List Byte) (s : State) : Answer :=
  match u8 p 0 with
  | 0 => readAnswer s s.supply.stateData
  | 1 => readAnswer s s.supply.settings.data
  | _ => refuse s .badValue

/-- SUPPLYREAD (R141). -/
def execSupplyread (s : State) : Host.Outcome State Fault Refusal := s.live (State.request .supplyread supplyreadOwner)

/-! ### FANREAD (R105) -/

/-- The STATE view; the wait timer is 0 outside STALL_WAIT (R105, Table 11-8). -/
def State.fanData (s : State) : List Byte :=
  let f := s.fan
  b1 f.state.code ++ b1 f.step ++ b2 f.target ++ b2 f.applied ++ b2 f.stallTimer ++ b2 (f.waitTimer.getD 0) ++
    b2 f.runningTime ++ b1 f.retriesUsed ++ b1 (yesNo f.granted) ++ b2 (s.measOf 14).last ++ b2 (s.measOf 14).average

/-- The settings in the layout of FANCFG (Tables 11-3 and 11-8). -/
def FanSettings.data (x : FanSettings) : List Byte :=
  b2 x.duty1 ++ b2 x.duty2 ++ b2 x.duty3 ++ b2 x.duty4 ++ b2 x.kickTime ++ b2 x.slew ++ b2 x.stallCurrent ++
    b2 x.stallTime ++ b1 x.retryLimit

/-- FANREAD (R105). -/
def fanreadOwner (p : List Byte) (s : State) : Answer :=
  match u8 p 0 with
  | 0 => readAnswer s s.fanData
  | 1 => readAnswer s s.fan.settings.data
  | _ => refuse s .badValue

/-- FANREAD (R105). -/
def execFanread (s : State) : Host.Outcome State Fault Refusal := s.live (State.request .fanread fanreadOwner)

/-! ### GAUGEREAD (R124) -/

/-- The RUNTIME view (Table 11-7). -/
def Gauge.runtimeData (x : Gauge) (testStep : Nat) : List Byte :=
  b1 x.state.code ++ b2 x.code ++ resistanceField x.resistance ++ resistanceField x.lastGood ++ b2 x.target ++ b2 x.f ++
    b2 x.p ++ b2 x.d ++ b1 x.sender.code ++ b1 x.limit.code ++ b1 testStep

/-- The fields of GAUGECFG in its layout, the gauge number apart (Table 11-3). -/
def GaugeCfg.data (c : GaugeCfg) : List Byte :=
  b1 (yesNo c.enabled) ++ b2 c.rp ++ b2 c.k ++ b2 c.dfs ++ b2 c.vref ++ b1 c.faultAction.code

/-- The count of the curve in force and some of its points (Table 11-7). -/
def curveData (curve part : List Point) : List Byte := b1 curve.length ++ part.flatMap pointField

/-- A view of GAUGEREAD (R124). -/
def State.gaugeData (s : State) (g : GaugeId) : Nat → Option (List Byte)
  | 0 => some ((s.gauge g).runtimeData s.gauges.testStep)
  | 1 => some ((s.gauge g).cfg.data ++ b1 (s.senseModeOf g).code)
  | 2 => some (curveData (s.gauge g).cfg.curve ((s.gauge g).cfg.curve.take 4))
  | 3 => some (curveData (s.gauge g).cfg.curve ((s.gauge g).cfg.curve.drop 4))
  | _ => none

/-- GAUGEREAD (R124). -/
def gaugereadOwner (p : List Byte) (s : State) : Answer :=
  match gaugeOfNat (u8 p 0) with
  | none => refuse s .badValue
  | some g =>
    match s.gaugeData g (u8 p 1) with
    | none => refuse s .badValue
    | some data => readAnswer s data

/-- GAUGEREAD (R124). -/
def execGaugeread (s : State) : Host.Outcome State Fault Refusal := s.live (State.request .gaugeread gaugereadOwner)

end Sys2Proof.Machine
end

