-- ==== Sys2Proof/Machine/ReqConfig.lean ====
section
/-! DEFINITION. The configuration requests, codes 0x40 to 0x49: each acts only in LIMP and is refused LOCKED elsewhere, a
numeric field outside its range is stored clamped and echoed (section 9.7). -/

namespace Sys2Proof.Machine

/-! ### CHCFG (R25) -/

/-- The structural faults of a CHCFG on a channel (R25). -/
def chcfgBad (ch : LampId) (fcode : Nat) (stopTurn : Bool) : Bool :=
  (14 < fcode && fcode != 255) || ((fcode == 1 || fcode == 2) && !isHeavy ch) || (stopTurn && fcode != 6 && fcode != 7)

/-- The configuration that a CHCFG payload stores on a channel (R25, Table 1-2). -/
def chcfgOf (ch : LampId) (p : List Byte) : LampCfg where
  fn := Fn.ofCode (u8 p 1)
  stopTurn := yesAt p 2
  nominal := clamp (nominalRange ch).1 (nominalRange ch).2 (u16 p 3)
  lampOutPct := clamp 20 80 (u8 p 5)
  tripPct := clamp 120 300 (u16 p 6)
  inrushMs := clamp 20 500 (u16 p 8)
  retryLimit := clamp 0 7 (u8 p 10)

/-- A numeric field of a CHCFG was clamped (R25). -/
def chcfgClamped (c : LampCfg) (p : List Byte) : Bool :=
  c.nominal != u16 p 3 || c.lampOutPct != u8 p 5 || c.tripPct != u16 p 6 || c.inrushMs != u16 p 8 ||
    c.retryLimit != u8 p 10

/-- The stored fields in the layout of CHCFG (Table 11-4). -/
def LampCfg.data (c : LampCfg) : List Byte :=
  fnField c.fn ++ b1 (yesNo c.stopTurn) ++ b2 c.nominal ++ b1 c.lampOutPct ++ b2 c.tripPct ++ b2 c.inrushMs ++
    b1 c.retryLimit

/-- CHCFG in LIMP (R25). -/
def chcfgOwner (p : List Byte) (s : State) : Answer :=
  match lampOfNat (u8 p 0) with
  | none => refuse s .badValue
  | some ch =>
    if chcfgBad ch (u8 p 1) (yesAt p 2) then refuse s .badValue
    else
      let c := chcfgOf ch p
      { state := s.setLamp ch { s.lamp ch with cfg := c }
        code := clampedCode (chcfgClamped c p)
        data := b1 ch.val ++ c.data }

/-- CHCFG (R25). -/
def execChcfg (s : State) : Host.Outcome State Fault Refusal := s.live (State.request .chcfg (inLimp chcfgOwner))

/-! ### SUBCFG (R22) -/

/-- The primary is already the primary of another entry (R22). -/
def State.primaryElsewhere (s : State) (e : Fin 3) (p : LampId) : Bool :=
  allSubs.any (fun x => x != e && (s.subEntry x).pair.any (fun y => y.1 == p))

/-- A pair may be written into an entry (R22). -/
def State.pairWritable (s : State) (e : Fin 3) (p q : LampId) : Bool :=
  p != q && (s.lamp q).cfg.fn.isNone && canCarry p q && !s.primaryElsewhere e p && !s.isPrimary q && !s.isSpare p

/-- An entry of the substitution table is written, engaged no (R22). -/
def State.writeSub (s : State) (e : Fin 3) (pair : Option (LampId × LampId)) : State :=
  s.setSub e { pair := pair, engaged := false }

/-- SUBCFG in LIMP (R22). An empty entry is echoed with 0xFF in both places (R181). -/
def subcfgOwner (p : List Byte) (s : State) : Answer :=
  if h : u8 p 0 < 3 then
    if u8 p 1 = 255 then
      { state := s.writeSub ⟨u8 p 0, h⟩ none, code := .ok, data := b1 (u8 p 0) ++ b1 255 ++ b1 255 }
    else
      match lampOfNat (u8 p 1), lampOfNat (u8 p 2) with
      | some a, some b =>
        if s.pairWritable ⟨u8 p 0, h⟩ a b then
          { state := s.writeSub ⟨u8 p 0, h⟩ (some (a, b)), code := .ok, data := b1 (u8 p 0) ++ b1 a.val ++ b1 b.val }
        else refuse s .badValue
      | _, _ => refuse s .badValue
  else refuse s .badValue

/-- SUBCFG (R22). -/
def execSubcfg (s : State) : Host.Outcome State Fault Refusal := s.live (State.request .subcfg (inLimp subcfgOwner))

/-! ### FNCFG (R42) -/

/-- The function record that FNCFG stores; FAN keeps ignition_fed yes (R42). -/
def fncfgRec (r : FnRec) (f : Fn) (p : List Byte) : FnRec :=
  { r with cls := min 3 (u8 p 1), ignitionFed := if f = .fan then r.ignitionFed else yesAt p 2 }

/-- The courtesy fields that FNCFG stores, for INTERIOR only (R42). -/
def fncfgCourtesy (c : Courtesy) (f : Fn) (p : List Byte) : Courtesy :=
  if f = .interior then { c with enable := yesAt p 3, holdS := min 60 (u8 p 4) } else c

/-- A field as stored differs from the value the request gave (R42): a yes/no byte is given as yes when nonzero, and a
function other than INTERIOR keeps no and 0. -/
def fncfgDiffers (r : FnRec) (c : Courtesy) (f : Fn) (p : List Byte) : Bool :=
  r.cls != u8 p 1 || r.ignitionFed != yesAt p 2 || (f == .interior && c.enable) != yesAt p 3 ||
    (if f = .interior then c.holdS else 0) != u8 p 4

/-- FNCFG in LIMP (R42). -/
def fncfgOwner (p : List Byte) (s : State) : Answer :=
  match Fn.ofCode (u8 p 0) with
  | none => refuse s .badValue
  | some f =>
    if !f.configurable then refuse s .isProtected
    else
      let r := fncfgRec (s.fnRec f) f p
      let c := fncfgCourtesy s.resolver.courtesy f p
      let s1 := s.setFn f r
      { state := { s1 with resolver := { s1.resolver with courtesy := c } }
        code := clampedCode (fncfgDiffers r c f p)
        data := b1 f.code.val ++ b1 r.cls ++ b1 (yesNo r.ignitionFed) ++ b1 (yesNo (f == .interior && c.enable)) ++
          b1 (if f = .interior then c.holdS else 0) }

/-- FNCFG (R42). -/
def execFncfg (s : State) : Host.Outcome State Fault Refusal := s.live (State.request .fncfg (inLimp fncfgOwner))

/-! ### FLASHCFG (R70) -/

/-- FLASHCFG in LIMP: the rate is stored and takes effect at the next ON start (R70). -/
def flashcfgOwner (p : List Byte) (s : State) : Answer :=
  let r := clamp 60 120 (u8 p 0)
  { state := { s with flash := { s.flash with rate := r } }
    code := clampedCode (r != u8 p 0)
    data := b1 r ++ b2 (halfNormal r) ++ b2 (halfFast r) }

/-- FLASHCFG (R70). -/
def execFlashcfg (s : State) : Host.Outcome State Fault Refusal := s.live (State.request .flashcfg (inLimp flashcfgOwner))

/-! ### FANCFG (R104) -/

/-- The settings as a FANCFG payload gives them (Table 11-3). -/
def fanSettingsGiven (p : List Byte) : FanSettings where
  duty1 := u16 p 0
  duty2 := u16 p 2
  duty3 := u16 p 4
  duty4 := u16 p 6
  kickTime := u16 p 8
  slew := u16 p 10
  stallCurrent := u16 p 12
  stallTime := u16 p 14
  retryLimit := u8 p 16

/-- The settings clamped into the ranges of Table 5-2. -/
def FanSettings.clamped (x : FanSettings) : FanSettings where
  duty1 := clamp 100 1000 x.duty1
  duty2 := clamp 100 1000 x.duty2
  duty3 := clamp 100 1000 x.duty3
  duty4 := clamp 100 1000 x.duty4
  kickTime := clamp 0 1000 x.kickTime
  slew := clamp 10 1000 x.slew
  stallCurrent := clamp 1000 20000 x.stallCurrent
  stallTime := clamp 100 2000 x.stallTime
  retryLimit := clamp 0 7 x.retryLimit

/-- FANCFG in LIMP (R104). -/
def fancfgOwner (p : List Byte) (s : State) : Answer :=
  let given := fanSettingsGiven p
  { state := { s with fan := { s.fan with settings := given.clamped } }
    code := clampedCode (given.clamped != given)
    data := given.clamped.data }

/-- FANCFG (R104). -/
def execFancfg (s : State) : Host.Outcome State Fault Refusal := s.live (State.request .fancfg (inLimp fancfgOwner))

/-! ### GAUGECFG (R122) -/

/-- The configuration that a GAUGECFG payload stores; the curve is kept (R122, Table 6-1). -/
def gaugecfgOf (old : GaugeCfg) (p : List Byte) (act : FaultAction) : GaugeCfg :=
  { old with
    enabled := yesAt p 1
    rp := clamp 100 2000 (u16 p 2)
    k := clamp 1 256 (u16 p 4)
    dfs := clamp 1 1000 (u16 p 6)
    vref := clamp 3000 16000 (u16 p 8)
    faultAction := act }

/-- A field of a GAUGECFG was clamped (R122). -/
def gaugecfgClamped (c : GaugeCfg) (p : List Byte) : Bool :=
  c.rp != u16 p 2 || c.k != u16 p 4 || c.dfs != u16 p 6 || c.vref != u16 p 8

/-- GAUGECFG in LIMP (R122). -/
def gaugecfgOwner (p : List Byte) (s : State) : Answer :=
  match gaugeOfNat (u8 p 0), faultActionOf (u8 p 10) with
  | some g, some act =>
    let c := gaugecfgOf (s.gauge g).cfg p act
    { state := s.setGauge g { s.gauge g with cfg := c }
      code := clampedCode (gaugecfgClamped c p)
      data := b1 g.val ++ c.data }
  | _, _ => refuse s .badValue

/-- GAUGECFG (R122). -/
def execGaugecfg (s : State) : Host.Outcome State Fault Refusal := s.live (State.request .gaugecfg (inLimp gaugecfgOwner))

/-! ### CURVECFG (R123) -/

/-- A point clamped as it is stored (R123). -/
def Point.clamped (x : Point) : Point := { ohms := min 9999 x.ohms, position := min 1000 x.position }

/-- The points a part must carry (R123). -/
def partLength (n first : Nat) : Nat := if first = 1 then (if n ≤ 4 then n else 4) else n - 4

/-- The form of a part is refused: its count, its first index, or the number of points carried (R123). -/
def partMalformed (n first carried : Nat) : Bool :=
  n < 2 || 8 < n || (first != 1 && first != 5) || carried != partLength n first

/-- The ohms of a second part begin above point 4 of the pending curve (R123). -/
def continuesAbove (held part : List Point) : Bool :=
  match held.getLast?, part.head? with
  | some a, some b => a.ohms < b.ohms
  | _, _ => false

/-- A whole curve replaces the curve in force, and no curve is pending (R123). -/
def Gauge.takeCurve (x : Gauge) (curve : List Point) : Gauge :=
  { x with cfg := { x.cfg with curve := curve }, pendingCurve := none }

/-- A part that has passed its checks is taken: the gauge after it and the points still awaited, or none where a second part
does not lie above the first (R123). -/
def Gauge.takePart (x : Gauge) (n first : Nat) (part : List Point) : Option (Gauge × Nat) :=
  if first = 1 then
    if n ≤ 4 then some (x.takeCurve part, 0)
    else some ({ x with pendingCurve := some (n, part) }, n - 4)
  else
    match x.pendingCurve with
    | some (m, held) => if m = n ∧ continuesAbove held part then some (x.takeCurve (held ++ part), 0) else none
    | none => none

/-- CURVECFG in LIMP (R123). A point count outside 2 to 8 is refused as R123 says, although R181 has a numeric field that is wider than
its range clamped and never refused for its size (DEDUCED, log entry 45: the owner's rule is followed). -/
def curvecfgOwner (p : List Byte) (s : State) : Answer :=
  match gaugeOfNat (u8 p 0) with
  | none => refuse s .badValue
  | some g =>
    let given := pointsOf (p.drop 3)
    let part := given.map Point.clamped
    if partMalformed (u8 p 1) (u8 p 2) given.length || !ohmsAscend part then refuse s .badValue
    else
      match (s.gauge g).takePart (u8 p 1) (u8 p 2) part with
      | none => refuse s .badValue
      | some (x, awaited) =>
        { state := s.setGauge g x
          code := clampedCode (part != given)
          data := b1 g.val ++ b1 (u8 p 1) ++ b1 awaited ++ part.flatMap pointField }

/-- CURVECFG (R123). -/
def execCurvecfg (s : State) : Host.Outcome State Fault Refusal := s.live (State.request .curvecfg (inLimp curvecfgOwner))

/-! ### SUPPLYCFG (R140) -/

/-- A voltage threshold: 0 keeps the default, another value is clamped into its range (R140 stage 2). -/
def thresholdOf (lo hi dflt given : Nat) : Nat := if given = 0 then dflt else clamp lo hi given

/-- The settings that a SUPPLYCFG payload gives for a system voltage, after both stages (R140, Table 7-2). -/
def supplySettingsOf (v : SystemVoltage) (p : List Byte) : SupplySettings where
  system := v
  dynamo := clamp 0 40000 (u16 p 1)
  t1 := clamp 1 2550 (u16 p 3)
  t2 := clamp 1 2550 (u16 p 5)
  t3 := clamp 1 2550 (u16 p 7)
  h := clamp 1 255 (u8 p 9)
  vlow1 := thresholdOf 4000 16000 v.vlow1 (u16 p 10)
  vlow2 := thresholdOf 4000 16000 v.vlow2 (u16 p 12)
  vover := thresholdOf 5000 20000 v.vover (u16 p 14)
  vrelease := thresholdOf 4500 19500 v.vrelease (u16 p 16)
  chargeThreshold := thresholdOf 3000 16000 v.chargeThreshold (u16 p 18)

/-- A nonzero value is stored differently from the value given (R140). -/
def changedNonzero (given stored : Nat) : Bool := given != 0 && stored != given

/-- A nonzero value of a SUPPLYCFG was clamped (R140). -/
def supplycfgClamped (x : SupplySettings) (p : List Byte) : Bool :=
  changedNonzero (u16 p 1) x.dynamo || changedNonzero (u16 p 3) x.t1 || changedNonzero (u16 p 5) x.t2 ||
    changedNonzero (u16 p 7) x.t3 || changedNonzero (u8 p 9) x.h || changedNonzero (u16 p 10) x.vlow1 ||
    changedNonzero (u16 p 12) x.vlow2 || changedNonzero (u16 p 14) x.vover || changedNonzero (u16 p 16) x.vrelease ||
    changedNonzero (u16 p 18) x.chargeThreshold

/-- The settings in the layout of SUPPLYCFG (Table 11-3). -/
def SupplySettings.stored (x : SupplySettings) : List Byte :=
  b1 x.system.code ++ b2 x.dynamo ++ b2 x.t1 ++ b2 x.t2 ++ b2 x.t3 ++ b1 x.h ++ b2 x.vlow1 ++ b2 x.vlow2 ++
    b2 x.vover ++ b2 x.vrelease ++ b2 x.chargeThreshold

/-- The supply record under new settings: the counts at 0, the account lowered to the new cap (R140). -/
def Supply.reconfigured (x : Supply) (st : SupplySettings) : Supply :=
  { x with
    settings := st
    chargeCount := 0
    below1 := 0
    below2 := 0
    recovery := 0
    releaseCount := 0
    account := min x.account st.cap }

/-- A gauge takes the Vref of a system voltage (R122, R140). -/
def Gauge.reloadVref (v : SystemVoltage) (x : Gauge) : Gauge := { x with cfg := { x.cfg with vref := v.vref } }

/-- SUPPLYCFG in LIMP (R140). -/
def supplycfgOwner (p : List Byte) (s : State) : Answer :=
  match systemOf (u8 p 0) with
  | none => refuse s .badValue
  | some v =>
    let st := supplySettingsOf v p
    if st.vlow1 ≤ st.vlow2 ∨ st.vover ≤ st.vrelease then refuse s .badValue
    else
      { state :=
          { s with
            supply := s.supply.reconfigured st
            gauges := { s.gauges with gauges := s.gauges.gauges.map (Gauge.reloadVref v) } }
        code := clampedCode (supplycfgClamped st p)
        data := st.stored }

/-- SUPPLYCFG (R140). -/
def execSupplycfg (s : State) : Host.Outcome State Fault Refusal := s.live (State.request .supplycfg (inLimp supplycfgOwner))

/-! ### INPUTCFG (R145) -/

/-- The polarities of a payload in input order, or none where a code is unknown (R145). -/
def polaritiesOf (p : List Byte) : Option (PerInput Polarity) := do
  let ign ← polarityOf (u8 p 0)
  let brake ← polarityOf (u8 p 1)
  let haz ← polarityOf (u8 p 2)
  let door ← polarityOf (u8 p 3)
  let sw0 ← polarityOf (u8 p 4)
  let sw1 ← polarityOf (u8 p 5)
  some { ign := ign, brake := brake, haz := haz, door := door, sw0 := sw0, sw1 := sw1 }

/-- A polarity is stored; a change of it sets the count to 0 and leaves the level (R145). -/
def InRec.setPolarity (r : InRec) (p : Polarity) : InRec :=
  if p = r.polarity then r else { r with polarity := p, count := 0 }

/-- The switch input of a sense pin after a change of its mode (R145). -/
def InRec.changeMode (r : InRec) (old new : SenseMode) : InRec :=
  match old, new with
  | .sender, .switch => { r with level := false, count := 0 }
  | .switch, .sender => { r with level := false }
  | _, _ => r

/-- The input block after an INPUTCFG (R145). -/
def Inputs.configured (x : Inputs) (ps : PerInput Polarity) (m0 m1 : SenseMode) : Inputs where
  recs :=
    { ign := x.recs.ign.setPolarity ps.ign
      brake := x.recs.brake.setPolarity ps.brake
      haz := x.recs.haz.setPolarity ps.haz
      door := x.recs.door.setPolarity ps.door
      sw0 := (x.recs.sw0.setPolarity ps.sw0).changeMode x.senseMode[0] m0
      sw1 := (x.recs.sw1.setPolarity ps.sw1).changeMode x.senseMode[1] m1 }
  senseMode := #v[m0, m1]
  earthPositive := x.earthPositive

/-- The stored fields in the layout of INPUTCFG (Table 11-3). -/
def State.inputData (s : State) : List Byte :=
  allInputs.flatMap (fun i => b1 (s.inRec i).polarity.code) ++ b1 (s.senseModeOf 0).code ++ b1 (s.senseModeOf 1).code

/-- INPUTCFG in LIMP (R145); the reply adds the earth polarity and the debounced levels. -/
def inputcfgOwner (p : List Byte) (s : State) : Answer :=
  match polaritiesOf p, senseModeOfCode (u8 p 6), senseModeOfCode (u8 p 7) with
  | some ps, some m0, some m1 =>
    let s1 := { s with inputs := s.inputs.configured ps m0 m1 }
    { state := s1, code := .ok, data := s1.inputData ++ b1 (yesNo s.inputs.earthPositive) ++ b1 s1.levelBits }
  | _, _, _ => refuse s .badValue

/-- INPUTCFG (R145). -/
def execInputcfg (s : State) : Host.Outcome State Fault Refusal := s.live (State.request .inputcfg (inLimp inputcfgOwner))

/-! ### LINKCFG (R158) -/

/-- The link timeout that a value given stores (R158). -/
def linkTimeoutOf (given : Nat) : Nat := if given = 0 then 0 else clamp 5 100 given

/-- LINKCFG in LIMP (R158). -/
def linkcfgOwner (p : List Byte) (s : State) : Answer :=
  let t := linkTimeoutOf (u8 p 0)
  { state := { s with op := { s.op with linkTimeout := t } }, code := clampedCode (t != u8 p 0), data := b1 t }

/-- LINKCFG (R158). -/
def execLinkcfg (s : State) : Host.Outcome State Fault Refusal := s.live (State.request .linkcfg (inLimp linkcfgOwner))

end Sys2Proof.Machine
end

