-- ==== Sys2Proof/Machine/ReqDemand.lean ====
section
/-! DEFINITION. The operational requests: FNSET, FNMULTI, TURN, HAZ, SCENEADD, SCENEDROP, FAULTCLR, GAUGETEST. Each is refused
NOT_READY in LIMP (Table 9-3). -/

namespace Sys2Proof.Machine

/-! ### FNSET (R44) and FNMULTI (R45) -/

/-- A base demand is stored (R43). -/
def State.setBase (s : State) (f : Fn) (v : Nat) : State := s.setFn f { s.fnRec f with base := v }

/-- FNSET stores one base demand, resolves and hands the results on (R44). -/
def fnsetOwner (p : List Byte) (s : State) : Answer :=
  match Fn.ofCode (u8 p 0) with
  | none => refuse s .badValue
  | some f =>
    if f.hostProtected then refuse s .isProtected
    else
      let v := storedDemand f (u8 p 1)
      let s1 := (s.setBase f v).settle
      { state := s1, code := demandCode (s1.withheld f) (v != u8 p 1), data := b1 v ++ b1 (s1.fnRec f).resolved }

/-- FNSET (R44). -/
def execFnset (s : State) : Host.Outcome State Fault Refusal := s.live (State.request .fnset (notInLimp fnsetOwner))

/-- The first failing check over the pairs of an FNMULTI, given the functions already named (R45). -/
def fnmultiCheck : List Fn → List (Nat × Nat) → Option ResultCode
  | _, [] => none
  | seen, (c, _) :: rest =>
    match Fn.ofCode c with
    | none => some .badValue
    | some f =>
      if f.hostProtected then some .isProtected
      else if seen.contains f then some .badValue
      else fnmultiCheck (f :: seen) rest

/-- The pairs of function and value given, those of unknown codes apart. -/
def namedPairs (ps : List (Nat × Nat)) : List (Fn × Nat) := ps.filterMap (fun x => (Fn.ofCode x.1).map (fun f => (f, x.2)))

/-- Every base demand of an FNMULTI is stored (R45). -/
def State.storeAll (s : State) (ps : List (Fn × Nat)) : State :=
  ps.foldl (fun s x => s.setBase x.1 (storedDemand x.1 x.2)) s

/-- FNMULTI stores its base demands together and hands the results on as one cause (R45, R46). -/
def fnmultiOwner (p : List Byte) (s : State) : Answer :=
  match fnmultiCheck [] (pairsOf p) with
  | some c => refuse s c
  | none =>
    let ps := namedPairs (pairsOf p)
    let s1 := (s.storeAll ps).settle
    { state := s1
      code := demandCode (ps.any (fun x => s1.withheld x.1)) (ps.any (fun x => storedDemand x.1 x.2 != x.2))
      data := ps.flatMap (fun x => b1 (storedDemand x.1 x.2)) }

/-- FNMULTI (R45). -/
def execFnmulti (s : State) : Host.Outcome State Fault Refusal := s.live (State.request .fnmulti (notInLimp fnmultiOwner))

/-! ### TURN (R85) and HAZ (R86) -/

/-- The host side request is stored (R85). -/
def State.setHostSide (s : State) (side : Sides) : State := { s with flash := { s.flash with hostSide := side } }

/-- TURN stores the host side request; in IDLE it may begin an ON phase (R85, R73). A side stored in PARK, in WATCH or while HOLD
stands is answered HELD also where hazard is asserted (DEDUCED, log entry 32: R85's list gives HELD, its sentence on hazard OK). -/
def turnOwner (p : List Byte) (s : State) : Answer :=
  match hostSideOf (u8 p 0) with
  | none => refuse s .badValue
  | some side =>
    let s1 := (s.setHostSide side).settle
    let held := side != .none && (s.op.state == .park || s.op.state == .watch || s.supply.hold)
    { state := s1, code := if held then .held else .ok, data := s1.flash.report }

/-- TURN (R85). -/
def execTurn (s : State) : Host.Outcome State Fault Refusal := s.live (State.request .turn (notInLimp turnOwner))

/-- HAZ sets or clears the host hazard flag (R86). -/
def hazOwner (p : List Byte) (s : State) : Answer :=
  if 1 < u8 p 0 then refuse s .badValue
  else
    let on := u8 p 0 == 1
    let s1 := { s with flash := { s.flash with hostHazard := on } }.settle
    { state := s1, code := if s.supply.hold && on then .held else .ok, data := s1.flash.report }

/-- HAZ (R86). -/
def execHaz (s : State) : Host.Outcome State Fault Refusal := s.live (State.request .haz (notInLimp hazOwner))

/-! ### SCENEADD (R58) and SCENEDROP (R60) -/

/-- A scene with an id is in the list. -/
def hasScene (scenes : List Scene) (id : Byte) : Bool := scenes.any (fun sc => sc.id == id)

/-- An entry names a function protected against scenes (R58 check 4). -/
def anySceneProtected (ps : List (Nat × Nat)) : Bool := ps.any (fun x => (Fn.ofCode x.1).any Fn.sceneProtected)

/-- Two entries name the same function (R58 check 5). -/
def repeatsCode : List (Nat × Nat) → Bool
  | [] => false
  | x :: rest => rest.any (fun y => y.1 == x.1) || repeatsCode rest

/-- The checks of SCENEADD after NOT_READY, in their order (R58). A value above 100 is refused as R58 says, although R181 has a numeric
field that is wider than its range clamped and never refused for its size (DEDUCED, log entry 45: the owner's rule is
followed). -/
def sceneaddCheck (scenes : List Scene) (id : Byte) (ps : List (Nat × Nat)) : Option ResultCode :=
  if 4 ≤ scenes.length then some .full
  else if hasScene scenes id then some .duplicate
  else if anySceneProtected ps then some .isProtected
  else if id = 0 ∨ ps.isEmpty ∨ ps.any (fun x => 15 < x.1) ∨ repeatsCode ps ∨ ps.any (fun x => 100 < x.2) then
    some .badValue
  else none

/-- The scene a SCENEADD describes (R58, Table 3-5). -/
def sceneOf (id lifetime : Byte) (ps : List (Fn × Nat)) : Scene where
  id := id
  entries := ps.map (fun x => (x.1, lampValue x.1 x.2))
  life := if lifetime = 0 then none else some (100 * lifetime.toNat)

/-- The scene list is replaced. -/
def State.setScenes (s : State) (scenes : List Scene) : State := { s with resolver := { s.resolver with scenes := scenes } }

/-- SCENEADD appends a scene at the newest end and hands the changes on as one cause (R58). -/
def sceneaddOwner (p : List Byte) (s : State) : Answer :=
  match sceneaddCheck s.resolver.scenes (p.getD 0 0) (pairsOf (p.drop 2)) with
  | some c => refuse s c
  | none =>
    let ps := namedPairs (pairsOf (p.drop 2))
    let s1 := (s.setScenes (s.resolver.scenes ++ [sceneOf (p.getD 0 0) (p.getD 1 0) ps])).settle
    { state := s1
      code := demandCode (ps.any (fun x => s1.withheld x.1)) (ps.any (fun x => lampValue x.1 x.2 != x.2))
      data := b1 (s.resolver.scenes.length + 1) }

/-- SCENEADD (R58). -/
def execSceneadd (s : State) : Host.Outcome State Fault Refusal := s.live (State.request .sceneadd (notInLimp sceneaddOwner))

/-- The scene list without the scene of an id. -/
def withoutScene (scenes : List Scene) (id : Byte) : List Scene := scenes.filter (fun sc => sc.id != id)

/-- SCENEDROP removes a scene without an event, or answers UNKNOWN (R60). -/
def scenedropOwner (p : List Byte) (s : State) : Answer :=
  if hasScene s.resolver.scenes (p.getD 0 0) then
    { state := (s.setScenes (withoutScene s.resolver.scenes (p.getD 0 0))).settle, code := .ok, data := [] }
  else refuse s .unknown

/-- SCENEDROP (R60). -/
def execScenedrop (s : State) : Host.Outcome State Fault Refusal :=
  s.live (State.request .scenedrop (notInLimp scenedropOwner))

/-! ### FAULTCLR (R27) -/

/-- A spare that the clearing of a channel frees: the channel itself, or the spare engaged for it (R23, R24). -/
def State.freedBy (s : State) (ch q : LampId) : Bool :=
  q == ch || allSubs.any (fun e => (s.subEntry e).engaged && (s.subEntry e).pair == some (ch, q))

/-- A named lamp channel in LOCKED_OUT leaves it (R27, R15): its engaged entry is released first (R24), the channel acts on its demand
and joins the start queue alone (R32), and then the entries naming a freed spare are examined (R23), so that a spare engaged again
joins alone, behind the channel cleared (DEDUCED, log entry 40: R24 has the release before the primary acts and the examination
"once the spare is free", and does not rank the two). -/
def State.clearNamedLamp (s : State) (ch : LampId) : State :=
  if (s.lamp ch).state = .lockedOut then
    (((s.releaseWhere (fun p => p.1 == ch)).clearLamp ch).settle).examine (fun p => s.freedBy ch p.2)
  else s

/-- ALL: engaged entries whose primaries are cleared are released first, then every lockout and output fault is lifted (R27). -/
def State.clearEverything (s : State) : State :=
  let s1 := (s.releaseWhere (fun p => (s.lamp p.1).state == .lockedOut)).clearAllLamps
  { s1 with
    fan := s1.fan.clearLockout
    gauges := { s1.gauges with gauges := s1.gauges.gauges.map Gauge.clearFault } }

/-- What FAULTCLR lifts on a channel number 0 to 16, or on ALL (R27). -/
def State.clearTarget (s : State) (n : Nat) : State :=
  if n = 255 then s.clearEverything
  else if h : n < 14 then s.clearNamedLamp ⟨n, h⟩
  else if n = 14 then { s with fan := s.fan.clearLockout }
  else if n = 15 then s.setGauge 0 (s.gauge 0).clearFault
  else s.setGauge 1 (s.gauge 1).clearFault

/-- FAULTCLR (R27). -/
def faultclrOwner (p : List Byte) (s : State) : Answer :=
  if 16 < u8 p 0 ∧ u8 p 0 ≠ 255 then refuse s .badValue
  else { state := (s.clearTarget (u8 p 0)).settle, code := .ok, data := [] }

/-- FAULTCLR (R27). -/
def execFaultclr (s : State) : Host.Outcome State Fault Refusal := s.live (State.request .faultclr (notInLimp faultclrOwner))

/-! ### GAUGETEST (R119) -/

/-- A gauge in RUN leaves it for TEST (R119, Table 6-3), and its short count returns to 0 (R116). -/
def Gauge.enterTest (x : Gauge) : Gauge := if x.state = .run then { x with state := .test, shortCount := 0 } else x

/-- A gauge is in RUN. -/
def State.gaugeRuns (s : State) (g : GaugeId) : Bool := (s.gauge g).state == .run

/-- Every gauge in RUN goes to TEST and the test step is 0 (R119). -/
def State.beginTest (s : State) : State :=
  { s with gauges := { gauges := s.gauges.gauges.map Gauge.enterTest, testStep := 0 } }

/-- GAUGETEST, its checks in their order (R119). -/
def gaugetestOwner (_p : List Byte) (s : State) : Answer :=
  if s.op.state ≠ .drive ∨ s.supply.hold then refuse s .notReady
  else if s.testRunning then refuse s .busy
  else if !s.gaugeRuns 0 && !s.gaugeRuns 1 then refuse s .badValue
  else { state := s.beginTest, code := .ok, data := b1 (flagBits [s.gaugeRuns 0, s.gaugeRuns 1]) }

/-- GAUGETEST (R119). -/
def execGaugetest (s : State) : Host.Outcome State Fault Refusal := s.live (State.request .gaugetest gaugetestOwner)

end Sys2Proof.Machine
end

