-- ==== Sys2Proof/Machine/ReqReport.lean ====
section
/-! DEFINITION. The requests that the link and report block owns: IDENT, STATUS, CAUSE, EVFETCH, EVMASK (chapters 9 and 10). -/

namespace Sys2Proof.Machine

/-! ### IDENT (R170) -/

/-- Vendor code, part code, silicon revision, limp-map version (R170). -/
def identOwner (_p : List Byte) (s : State) : Answer :=
  { state := s, code := .ok, data := b1 0x48 ++ b2 0x2640 ++ b1 3 ++ b1 1 }

/-- IDENT (R170). -/
def execIdent (s : State) : Host.Outcome State Fault Refusal := s.live (State.request .ident identOwner)

/-! ### STATUS (R179) -/

/-- The data of a STATUS reply (Table 11-5). -/
def State.statusData (s : State) : List Byte :=
  b1 s.op.state.code ++ b1 s.statusFlags ++ b1 s.supply.l ++ b1 s.link.seenFlags ++ b1 s.report.events.length ++
    b2 s.report.timeCount.toNat

/-- The four seen flags and the two latches are clear (R179). -/
def State.clearSeen (s : State) : State :=
  { s with
    link := { s.link with overrun := false, lineError := false, formatError := false, checkError := false }
    op := { s.op with limpLatch := false, linkSilentLatch := false } }

/-- STATUS reports, then clears the seen flags and the latches it carried (R179). -/
def statusOwner (_p : List Byte) (s : State) : Answer := { state := s.clearSeen, code := .ok, data := s.statusData }

/-- STATUS (R179). -/
def execStatus (s : State) : Host.Outcome State Fault Refusal := s.live (State.request .status statusOwner)

/-! ### CAUSE (R180) -/

/-- The cause of highest priority, removed from the set, or none where the set is empty (R180). -/
def CauseSet.take (c : CauseSet) : Option StartCause × CauseSet :=
  if c.powerOn then (some .powerOn, { c with powerOn := false })
  else if c.brownout then (some .brownout, { c with brownout := false })
  else if c.resetLine then (some .resetLine, { c with resetLine := false })
  else if c.restart then (some .restart, { c with restart := false })
  else (none, c)

/-- CAUSE removes the cause of highest priority and answers with it, or with NONE (R180). -/
def causeOwner (_p : List Byte) (s : State) : Answer :=
  { state := { s with report := { s.report with causes := s.report.causes.take.2 } }
    code := .ok
    data := b1 ((s.report.causes.take.1.map StartCause.code).getD 0) }

/-- CAUSE (R180). -/
def execCause (s : State) : Host.Outcome State Fault Refusal := s.live (State.request .cause causeOwner)

/-! ### EVFETCH (R176, R184) -/

/-- The records an EVFETCH returns (R176). -/
def Report.fetched (r : Report) : List EventRec := r.events.take 4

/-- The report block after an EVFETCH: the records gone, the overflow flag cleared where the queue is empty (R176). -/
def Report.afterFetch (r : Report) : Report :=
  { r with events := r.events.drop 4, overflow := r.overflow && !(r.events.drop 4).isEmpty }

/-- The tag of a slot, 0 in an empty one (R184). -/
def slotTag : Option EventRec → Nat
  | some r => r.kind.tag r.subject
  | none => 0

/-- The count of a slot, saturated at 15 (R184). -/
def slotCount : Option EventRec → Nat
  | some r => min 15 r.count
  | none => 0

/-- The detail of a slot; SCENE_END carries the scene id there (R184). -/
def slotDetail : Option EventRec → Nat
  | some r => if r.kind = .sceneEnd then r.subject else r.detail
  | none => 0

/-- The time of a slot (R184). -/
def slotTime : Option EventRec → Nat
  | some r => r.time.toNat
  | none => 0

/-- The data of an EVFETCH reply (Table 11-9). -/
def Report.fetchData (r : Report) : List Byte :=
  let got := r.fetched
  b1 ((r.events.drop 4).length + 32 * got.length) ++
    b1 (slotTag got[0]? + 128 * yesNo r.overflow) ++ b1 (slotTag got[1]?) ++ b1 (slotTag got[2]?) ++
    b1 (slotTag got[3]?) ++
    b1 (16 * slotCount got[0]? + slotCount got[1]?) ++ b1 (16 * slotCount got[2]? + slotCount got[3]?) ++
    b2 (slotDetail got[0]?) ++ b2 (slotDetail got[1]?) ++ b2 (slotDetail got[2]?) ++ b2 (slotDetail got[3]?) ++
    b2 (slotTime got[0]?) ++ b2 (slotTime got[1]?) ++ b2 (slotTime got[2]?) ++ b2 (slotTime got[3]?)

/-- EVFETCH removes up to four records from the head of the queue and returns them (R176). -/
def evfetchOwner (_p : List Byte) (s : State) : Answer :=
  { state := { s with report := s.report.afterFetch }, code := .ok, data := s.report.fetchData }

/-- EVFETCH (R176). -/
def execEvfetch (s : State) : Host.Outcome State Fault Refusal := s.live (State.request .evfetch evfetchOwner)

/-! ### EVMASK (R175) -/

/-- The 24 bits of a mask payload, most significant byte first (Table 11-3). -/
def maskOf (p : List Byte) : Nat := 65536 * u8 p 0 + 256 * u8 p 1 + u8 p 2

/-- A mask in the request's layout (Table 11-4). -/
def maskField (m : BitVec 24) : List Byte :=
  b1 (m.toNat / 65536) ++ b1 (m.toNat / 256 % 256) ++ b1 (m.toNat % 256)

/-- EVMASK stores the mask; a set bit beyond kind 20 is refused (R175). -/
def evmaskOwner (p : List Byte) (s : State) : Answer :=
  if 1048576 ≤ maskOf p then refuse s .badValue
  else
    let m := BitVec.ofNat 24 (maskOf p)
    { state := { s with report := { s.report with mask := m } }, code := .ok, data := maskField m }

/-- EVMASK (R175). -/
def execEvmask (s : State) : Host.Outcome State Fault Refusal := s.live (State.request .evmask evmaskOwner)

end Sys2Proof.Machine
end

