-- ==== Sys2Proof/Machine/ResetEvents.lean ====
section
/-! DEFINITION. The resets (section 8.7, R160, R180): each condition records its cause as it begins to hold the part; the
release of the last one gives every block its reset values. -/

namespace Sys2Proof.Machine

/-- A reset condition holds the part, with a start-cause set (R160). -/
def State.holdReset (s : State) (causes : CauseSet) : State :=
  { s with op := { s.op with resetHeld := true }, report := { s.report with causes := causes } }

/-- POWER_ON (R180): the set is emptied and POWER_ON recorded. -/
def execPowerOn (s : State) : Host.Outcome State Fault Refusal :=
  .next (s.holdReset { powerOn := true, brownout := false, resetLine := false, restart := false })

/-- BROWNOUT (R139, R180): the supply falls below 3,500 mV and the cause is added. -/
def execBrownout (s : State) : Host.Outcome State Fault Refusal :=
  .next (s.holdReset { s.report.causes with brownout := true })

/-- RESET_LINE (R160, R180): RESET is held low for 10 µs or longer and the cause is added. -/
def execResetLine (s : State) : Host.Outcome State Fault Refusal :=
  .next (s.holdReset { s.report.causes with resetLine := true })

/-- The RESTART reply has left: a RESTART stands taken and both stages of the transmitter are empty (R150, R171). -/
def State.restartDue (s : State) : Bool := s.link.restartTaken && s.link.shifting.isNone && s.link.waiting.isNone

/-- RESTART_RESET (R150): the part resets with kind RESTART. -/
def execRestartReset (s : State) : Host.Outcome State Fault Refusal :=
  s.live (fun s => if s.restartDue then s.holdReset { s.report.causes with restart := true } else s)

/-- RESET_RELEASE (R160): the last condition releases, POL is sampled, every block takes its reset values. -/
def execResetRelease (polOpen : Bool) (s : State) : Host.Outcome State Fault Refusal :=
  .next (if s.op.resetHeld then s.afterReset polOpen else s)

end Sys2Proof.Machine
end

