-- ==== Sys2Proof/Machine/SupplyEvents.lean ====
section
/-! DEFINITION. The events of the supply monitor (chapter 7). -/

namespace Sys2Proof.Machine

/-- SUPPLY_SAMPLE (R126): BAT and CHG are sampled, and the supply sample is checked for HOLD. -/
def execSupplySample (bat chg : Nat) (s : State) : Host.Outcome State Fault Refusal :=
  s.live (fun s => s.supplySampled bat chg)

/-- A sample is the 50th consecutive one below Vrelease (R137). -/
def State.holdEnds (s : State) (bat : Nat) : Bool :=
  s.op.state != .sleep && s.supply.hold && bat < s.supply.settings.vrelease && 49 ≤ s.supply.releaseCount

/-- HOLD_END (R137): the deciding sample is taken. -/
def execHoldEnd (bat chg : Nat) (s : State) : Host.Outcome State Fault Refusal :=
  s.live (fun s => if s.holdEnds bat then s.supplySampled bat chg else s)

/-- SUPPLY_EVALUATION (R127): the 100-ms mark reaches the monitor. -/
def execSupplyEvaluation (s : State) : Host.Outcome State Fault Refusal := s.live State.supplyMark

/-- The evaluation due changes the charging state (R128). -/
def State.chargeChanges (s : State) : Bool :=
  s.op.state != .sleep && s.evaluationDue && (s.supply.evaluated s.averageSum).charging != s.supply.charging

/-- CHARGE_CHANGE (R128): the evaluation that changes the charging state. -/
def execChargeChange (s : State) : Host.Outcome State Fault Refusal :=
  s.live (fun s => if s.chargeChanges then s.supplyMark else s)

/-- The evaluation due changes Lv (R133). -/
def State.voltageChanges (s : State) : Bool :=
  s.op.state != .sleep && s.evaluationDue && (s.supply.evaluated s.averageSum).lv != s.supply.lv

/-- VOLTAGE_LEVEL_CHANGE (R133): the evaluation that changes Lv. -/
def execVoltageLevelChange (s : State) : Host.Outcome State Fault Refusal :=
  s.live (fun s => if s.voltageChanges then s.supplyMark else s)

end Sys2Proof.Machine
end

