-- ==== Sys2Proof/Machine/TimerEvents.lean ====
section
/-! DEFINITION. The timers of the scenes, the courtesy lamp and limp lighting, and the passage of 10 ms. -/

namespace Sys2Proof.Machine

/-! ### SCENE_EXPIRY (R59, R153) -/

/-- A scene with a lifetime and an id is in the list. -/
def expiringScene (scenes : List Scene) (id : Byte) : Bool := scenes.any (fun sc => sc.id == id && sc.life.isSome)

/-- A scene's lifetime ends: it is removed with SCENE_END, and in SLEEP a demand that rises returns the part to WATCH (R59,
R153). SCENE_END stands before the STATE of that return (DESIGN CHOICE, log entry 37). -/
def State.expireScene (s : State) (id : Byte) : State :=
  let s1 := (s.setScenes (withoutScene s.resolver.scenes id)).raise .sceneEnd id.toNat 0
  if s.op.state = .sleep ∧ s1.resolveAll.demandRises then s1.returnToWatch else s1.settle

/-- SCENE_EXPIRY (R59). -/
def execSceneExpiry (id : Byte) (s : State) : Host.Outcome State Fault Refusal :=
  s.live (fun s => if expiringScene s.resolver.scenes id then s.expireScene id else s)

/-! ### The courtesy lamp (R62, R63) -/

/-- The courtesy record is replaced. -/
def State.setCourtesy (s : State) (c : Courtesy) : State := { s with resolver := { s.resolver with courtesy := c } }

/-- DWELL_END (R62, R63): the dwell time ends and the fade begins, or is skipped. -/
def execDwellEnd (s : State) : Host.Outcome State Fault Refusal :=
  s.live (fun s =>
    if s.resolver.courtesy.phase = .dwell then
      (s.setCourtesy (s.resolver.courtesy.dwellEnds s.interiorLight)).settle
    else s)

/-- FADE_STEP (R63): the level falls by 5 and reaches QUIET at 0. -/
def execFadeStep (s : State) : Host.Outcome State Fault Refusal :=
  s.live (fun s =>
    if s.resolver.courtesy.phase = .fade then (s.setCourtesy s.resolver.courtesy.fadeStep).settle else s)

/-! ### LIMP_LIGHTING_BEGIN (R159) -/

/-- LIMP_LIGHTING_BEGIN (R159): the silence count reaches 2,000 ms in LIMP with IGN asserted. -/
def execLimpLightingBegin (s : State) : Host.Outcome State Fault Refusal :=
  s.live (fun s =>
    if s.op.state = .limp ∧ s.level .ign ∧ s.op.limpLighting = false ∧ 2000 ≤ s.op.silenceCount then
      s.beginLimpLighting.settle
    else s)

/-! ### TIME_COUNT_TICK (R178): 10 ms pass (log entry 4) -/

/-- 10 ms off a timer that runs or is stopped. -/
def tickTimer (t : Option Nat) : Option Nat := t.map (· - 10)

/-- 10 ms pass for a lamp channel: the inrush and retry timers run down, on_time_since_trip rises to 10,000 in INRUSH and ON
(R9, R12, R14). -/
def LampRec.tick (c : LampRec) : LampRec :=
  { c with
    inrushTimer := if c.state = .inrush then c.inrushTimer - 10 else c.inrushTimer
    retryTimer := if c.state = .tripped then c.retryTimer - 10 else c.retryTimer
    onTime := if c.state.conducts then min 10000 (c.onTime + 10) else c.onTime }

/-- 10 ms pass for the fan: its timers run down, running_time rises to 30,000 in RUNNING (R93, R94, R98, R96). -/
def Fan.tick (f : Fan) : Fan :=
  { f with
    kickTimer := tickTimer f.kickTimer
    rampTimer := tickTimer f.rampTimer
    waitTimer := tickTimer f.waitTimer
    runningTime := if f.state = .running then min 30000 (f.runningTime + 10) else f.runningTime }

/-- 10 ms pass for the scenes and the courtesy lamp (R59, R62, R63). -/
def Resolver.tick (r : Resolver) : Resolver :=
  { r with
    scenes := r.scenes.map (fun sc => { sc with life := tickTimer sc.life })
    courtesy :=
      { r.courtesy with
        timer :=
          if r.courtesy.phase = .dwell ∨ r.courtesy.phase = .fade then r.courtesy.timer - 10 else r.courtesy.timer } }

/-- 10 ms pass for a silent host: the silence timer runs in DRIVE and PARK, the silence count in LIMP (R157, R159). -/
def OpCtl.tick (o : OpCtl) : OpCtl :=
  { o with
    silenceTimer := if o.state = .drive ∨ o.state = .park then min 10000 (o.silenceTimer + 10) else o.silenceTimer
    silenceCount := if o.state = .limp then min 2000 (o.silenceCount + 10) else o.silenceCount }

/-- 10 ms pass: the time count rises by 1 and wraps (R178), and every timer that runs moves by 10 ms (DESIGN CHOICE, unsafe;
log entry 4). -/
def State.tick (s : State) : State :=
  { s with
    bank := { s.bank with lamps := s.bank.lamps.map LampRec.tick }
    resolver := s.resolver.tick
    flash := { s.flash with timer := tickTimer s.flash.timer }
    fan := s.fan.tick
    op := s.op.tick
    report := { s.report with timeCount := s.report.timeCount + 1 } }

/-- TIME_COUNT_TICK (R178). -/
def execTimeCountTick (s : State) : Host.Outcome State Fault Refusal := s.live State.tick

end Sys2Proof.Machine
end

