-- ==== Sys2Proof/Machine/Dispatch.lean ====
section
/-! DEFINITION. The dispatch of the commands: one arm for each row of spec/opcode_table.json. -/

namespace Sys2Proof.Machine

/-- The effect of a command on everything but the queue of commands. -/
def exec (i : Instr) (s : State) : Host.Outcome State Fault Refusal :=
  match i with
  | .ident => Sys2Proof.Machine.execIdent s
  | .status => Sys2Proof.Machine.execStatus s
  | .cause => Sys2Proof.Machine.execCause s
  | .evfetch => Sys2Proof.Machine.execEvfetch s
  | .evmask => Sys2Proof.Machine.execEvmask s
  | .start => Sys2Proof.Machine.execStart s
  | .stop => Sys2Proof.Machine.execStop s
  | .sleep => Sys2Proof.Machine.execSleep s
  | .wake => Sys2Proof.Machine.execWake s
  | .restart => Sys2Proof.Machine.execRestart s
  | .fnset => Sys2Proof.Machine.execFnset s
  | .fnmulti => Sys2Proof.Machine.execFnmulti s
  | .turn => Sys2Proof.Machine.execTurn s
  | .haz => Sys2Proof.Machine.execHaz s
  | .sceneadd => Sys2Proof.Machine.execSceneadd s
  | .scenedrop => Sys2Proof.Machine.execScenedrop s
  | .faultclr => Sys2Proof.Machine.execFaultclr s
  | .gaugetest => Sys2Proof.Machine.execGaugetest s
  | .chread => Sys2Proof.Machine.execChread s
  | .fnread => Sys2Proof.Machine.execFnread s
  | .sceneread => Sys2Proof.Machine.execSceneread s
  | .supplyread => Sys2Proof.Machine.execSupplyread s
  | .fanread => Sys2Proof.Machine.execFanread s
  | .gaugeread => Sys2Proof.Machine.execGaugeread s
  | .chcfg => Sys2Proof.Machine.execChcfg s
  | .subcfg => Sys2Proof.Machine.execSubcfg s
  | .fncfg => Sys2Proof.Machine.execFncfg s
  | .flashcfg => Sys2Proof.Machine.execFlashcfg s
  | .fancfg => Sys2Proof.Machine.execFancfg s
  | .gaugecfg => Sys2Proof.Machine.execGaugecfg s
  | .curvecfg => Sys2Proof.Machine.execCurvecfg s
  | .supplycfg => Sys2Proof.Machine.execSupplycfg s
  | .inputcfg => Sys2Proof.Machine.execInputcfg s
  | .linkcfg => Sys2Proof.Machine.execLinkcfg s
  | .unknownKind => Sys2Proof.Machine.execUnknownKind s
  | .rxByte data parity stop => Sys2Proof.Machine.execRxByte data parity stop s
  | .gapTimeout => Sys2Proof.Machine.execGapTimeout s
  | .replySent => Sys2Proof.Machine.execReplySent s
  | .restartReset => Sys2Proof.Machine.execRestartReset s
  | .powerOn => Sys2Proof.Machine.execPowerOn s
  | .brownout => Sys2Proof.Machine.execBrownout s
  | .resetLine => Sys2Proof.Machine.execResetLine s
  | .resetRelease polOpen => Sys2Proof.Machine.execResetRelease polOpen s
  | .currentSample readings => Sys2Proof.Machine.execCurrentSample readings s
  | .channelAverage => Sys2Proof.Machine.execChannelAverage s
  | .trip ch milliamps => Sys2Proof.Machine.execTrip ch milliamps s
  | .inrushEnd ch => Sys2Proof.Machine.execInrushEnd ch s
  | .retryExpiry ch => Sys2Proof.Machine.execRetryExpiry ch s
  | .tripForgiveness ch => Sys2Proof.Machine.execTripForgiveness ch s
  | .lampOutDecision ch milliamps => Sys2Proof.Machine.execLampOutDecision ch milliamps s
  | .fedDecision ch millivolts => Sys2Proof.Machine.execFedDecision ch millivolts s
  | .onPhaseEnd => Sys2Proof.Machine.execOnPhaseEnd s
  | .offPhaseEnd => Sys2Proof.Machine.execOffPhaseEnd s
  | .kickEnd => Sys2Proof.Machine.execKickEnd s
  | .rampTimerExpiry => Sys2Proof.Machine.execRampTimerExpiry s
  | .stallFound milliamps => Sys2Proof.Machine.execStallFound milliamps s
  | .stallWaitEnd => Sys2Proof.Machine.execStallWaitEnd s
  | .fanForgiveness => Sys2Proof.Machine.execFanForgiveness s
  | .senseSample g code => Sys2Proof.Machine.execSenseSample g code s
  | .gaugeUpdate => Sys2Proof.Machine.execGaugeUpdate s
  | .senderStatusChange g => Sys2Proof.Machine.execSenderStatusChange g s
  | .gaugeOutputShort g milliamps => Sys2Proof.Machine.execGaugeOutputShort g milliamps s
  | .testComplete => Sys2Proof.Machine.execTestComplete s
  | .supplySample bat chg => Sys2Proof.Machine.execSupplySample bat chg s
  | .holdEnd bat chg => Sys2Proof.Machine.execHoldEnd bat chg s
  | .supplyEvaluation => Sys2Proof.Machine.execSupplyEvaluation s
  | .chargeChange => Sys2Proof.Machine.execChargeChange s
  | .voltageLevelChange => Sys2Proof.Machine.execVoltageLevelChange s
  | .inputSample pins => Sys2Proof.Machine.execInputSample pins s
  | .inputLevelChange input => Sys2Proof.Machine.execInputLevelChange input s
  | .enterSleep => Sys2Proof.Machine.execEnterSleep s
  | .sleepEdge input => Sys2Proof.Machine.execSleepEdge input s
  | .wakeConfirmed input pins => Sys2Proof.Machine.execWakeConfirmed input pins s
  | .windowTimeout => Sys2Proof.Machine.execWindowTimeout s
  | .rxWake => Sys2Proof.Machine.execRxWake s
  | .receiverRestart => Sys2Proof.Machine.execReceiverRestart s
  | .sceneExpiry id => Sys2Proof.Machine.execSceneExpiry id s
  | .dwellEnd => Sys2Proof.Machine.execDwellEnd s
  | .fadeStep => Sys2Proof.Machine.execFadeStep s
  | .linkTimeout => Sys2Proof.Machine.execLinkTimeout s
  | .limpLightingBegin => Sys2Proof.Machine.execLimpLightingBegin s
  | .timeCountTick => Sys2Proof.Machine.execTimeCountTick s

end Sys2Proof.Machine
end

