-- ==== Sys2Proof/Safety.lean ====
section
/-! DEFINITION. The terms in which claims are stated: when a request is about to be taken, what settling a cause leaves alone,
the invariants that every step keeps, and the checks of START. -/

namespace Sys2Proof.Machine

/-! ### A request about to be taken (R166) -/

/-- A frame of a kind with a payload stands at the head of the inbound queue and is taken next: no reset holds the part, the
waiting stage is empty, no RESTART stands taken, the part is not in SLEEP (R166, R150). -/
abbrev Takes (s : State) (kind : Byte) (payload : List Byte) (rest : List Frame) : Prop :=
  s.op.resetHeld = false ∧ s.link.waiting = none ∧ s.link.restartTaken = false ∧ s.op.state ≠ .sleep ∧
    s.link.inbound = { kind := kind, payload := payload } :: rest

/-- The command that takes a request of a kind. -/
def requestOf : ReqKind → Instr
  | .ident => .ident
  | .status => .status
  | .cause => .cause
  | .evfetch => .evfetch
  | .evmask => .evmask
  | .start => .start
  | .stop => .stop
  | .sleep => .sleep
  | .wake => .wake
  | .restart => .restart
  | .fnset => .fnset
  | .fnmulti => .fnmulti
  | .turn => .turn
  | .haz => .haz
  | .sceneadd => .sceneadd
  | .scenedrop => .scenedrop
  | .faultclr => .faultclr
  | .gaugetest => .gaugetest
  | .chread => .chread
  | .fnread => .fnread
  | .sceneread => .sceneread
  | .supplyread => .supplyread
  | .fanread => .fanread
  | .gaugeread => .gaugeread
  | .chcfg => .chcfg
  | .subcfg => .subcfg
  | .fncfg => .fncfg
  | .flashcfg => .flashcfg
  | .fancfg => .fancfg
  | .gaugecfg => .gaugecfg
  | .curvecfg => .curvecfg
  | .supplycfg => .supplycfg
  | .inputcfg => .inputcfg
  | .linkcfg => .linkcfg

/-- The configuration requests, codes 0x40 to 0x49 (Table 9-3). -/
def configKinds : List ReqKind :=
  [.chcfg, .subcfg, .fncfg, .flashcfg, .fancfg, .gaugecfg, .curvecfg, .supplycfg, .inputcfg, .linkcfg]

/-- The requests that are refused NOT_READY in LIMP (Table 9-3). -/
def notReadyKinds : List ReqKind :=
  [.sleep, .wake, .fnset, .fnmulti, .turn, .haz, .sceneadd, .scenedrop, .faultclr, .gaugetest]

/-- Bytes arrive one after another on RX with correct parity and stop bits (R161). -/
def receiveBytes : List Byte → State → Host.Outcome State Fault Refusal
  | [], s => .next s
  | b :: rest, s =>
    match exec (.rxByte b (parityBit b) true) s with
    | .next t => receiveBytes rest t
    | other => other

/-- The receiver listens: no reset holds the part, it is not in SLEEP, and it is not in the 4 ms after a waking edge (R161,
R169). -/
abbrev Listens (s : State) : Prop := s.op.resetHeld = false ∧ s.op.state ≠ .sleep ∧ s.link.receiverPaused = false

/-- The readings of a sampling moment at which one falls due on one channel alone (R3). -/
def only (ch : ChanId) (v : Nat) : Vector (Option Nat) 17 := (Vector.replicate 17 none).set ch (some v)

/-- What storing one sample leaves of the measurements (R3, R4): the channel's last sample is the sample taken and, where an interval is
under way, the slot value joins it; every other channel's measurement is kept. -/
def MeasStored (s t : State) (ch : ChanId) (sample slot : Nat) : Prop :=
  ∀ c, t.measOf c =
    if c = ch then
      (if s.bank.intervalOpen then
        { s.measOf c with last := sample, slotSum := (s.measOf c).slotSum + slot, slotLast := slot }
      else { s.measOf c with last := sample })
    else s.measOf c

/-- The percentage of a slot in which a conducting lamp channel is on (R4, R16): a LIGHT channel of a dimmable function dims with its
demand, and HOLD or a demand of 0 leaves nothing. -/
def slotPercent (s : State) (ch : LampId) : Nat :=
  if s.supply.hold = true ∨ (s.lamp ch).demand = 0 then 0
  else if 4 ≤ ch.val ∧ s.serving ch ∈ [some .panel, some .interior, some .aux1, some .aux2, some .aux3] then (s.lamp ch).demand
  else 100

/-- The changes of level of several inputs, one INPUT_LEVEL_CHANGE after another. -/
def levelChanges : List InputId → State → Host.Outcome State Fault Refusal
  | [], s => .next s
  | i :: rest, s =>
    match exec (.inputLevelChange i) s with
    | .next t => levelChanges rest t
    | other => other

/-- The operating state to which changes of input levels lead from one, taken in their order (R147, R154). -/
def stateAfter (o : OpState) (changes : List (InputId × Bool)) : OpState :=
  changes.foldl (fun o x =>
    match x.1, x.2, o with
    | .ign, true, .park | .ign, true, .watch => .drive
    | .ign, false, .drive => .park
    | .haz, true, .watch | .door, true, .watch => .park
    | _, _, o => o) o

/-- The level of an input after changes of input levels, taken in their order. -/
def levelAfter (l : Bool) (i : InputId) (changes : List (InputId × Bool)) : Bool :=
  changes.foldl (fun l x => if x.1 = i then x.2 else l) l

/-- The events that changes of input levels raise, taken in their order from an operating state other than LIMP and SLEEP while no
gauge is in TEST, each with its subject and detail: INPUT for every change, and WOKEN and STATE as it moves the part on (R144, R146,
R154). -/
def changeEvents (o : OpState) : List (InputId × Bool) → List (EventKind × Nat × Nat)
  | [] => []
  | x :: rest =>
    let moves : List (EventKind × Nat × Nat) :=
      match x.1, x.2, o with
      | .ign, true, .park => [(.state, 0, 1)]
      | .ign, true, .watch => [(.woken, 0, 0), (.state, 0, 1)]
      | .ign, false, .drive => [(.state, 0, 2)]
      | .haz, true, .watch => [(.woken, 0, 1), (.state, 0, 2)]
      | .door, true, .watch => [(.woken, 0, 2), (.state, 0, 2)]
      | _, _, _ => []
    (.input, inputNumber x.1, if x.2 then 1 else 0) :: (moves ++ changeEvents (stateAfter o [x]) rest)

/-- Events are raised one after another, each with its subject and detail. -/
def State.raiseEach (s : State) (events : List (EventKind × Nat × Nat)) : State :=
  events.foldl (fun s x => s.raise x.1 x.2.1 x.2.2) s

/-- A command brings at most one cause, so that what it turns on joins the start queue as one join. The others hand on several
changes of input levels, the readings of several channels, or the channel FAULTCLR clears and the spare it frees, one after
another. -/
def oneCause : Instr → Bool
  | .inputSample _ | .wakeConfirmed _ _ | .rxWake | .sceneExpiry _ | .faultclr => false
  | .currentSample readings => readings.toList.countP Option.isSome ≤ 1
  | _ => true

/-- The body link once the head has been taken and a reply placed in the transmitter (R164, R168). -/
def linkAfter (s : State) (rest : List Frame) (kind : Byte) (code : ResultCode) (data : List Byte) : Link :=
  { s.link with inbound := rest }.send { kind := kind + 0x80, payload := code.code :: data }

/-! ### What settling a cause leaves alone -/

/-- What the settling of a cause keeps in the record of a lamp channel. A faulted channel stays as it is, and no channel
becomes faulted. -/
structure LampKept (c d : LampRec) : Prop where
  cfg : d.cfg = c.cfg
  setAside : d.setAside = c.setAside
  substituteFor : d.substituteFor = c.substituteFor
  lampOut : d.lampOut = c.lampOut
  fed : d.fed = c.fed
  fedRun : d.fedRun = c.fedRun
  retriesUsed : d.retriesUsed = c.retriesUsed
  onTime : d.onTime = c.onTime
  retryTimer : d.retryTimer = c.retryTimer
  tripped : d.state = .tripped ↔ c.state = .tripped
  lockedOut : d.state = .lockedOut ↔ c.state = .lockedOut
  faultReason : c.state = .tripped ∨ c.state = .lockedOut → d.offReason = c.offReason

/-- What the settling of a cause keeps in the record of a gauge: a gauge may go from OFF to RUN and nothing else. -/
structure GaugeKept (x y : Gauge) : Prop where
  cfg : y.cfg = x.cfg
  pendingCurve : y.pendingCurve = x.pendingCurve
  code : y.code = x.code
  resistance : y.resistance = x.resistance
  lastGood : y.lastGood = x.lastGood
  sender : y.sender = x.sender
  target : y.target = x.target
  f : y.f = x.f
  p : y.p = x.p
  limit : y.limit = x.limit
  samples : y.samples = x.samples
  state : y = x ∨ (x.state = .off ∧ y.state = .run ∧ y.d = 0)

/-- What the settling of a cause keeps in the whole part: everything but the lamp channels' demands and what follows from
them, the start queue, the resolved values, the flash phase, the fan's progress, and a gauge's start. -/
structure SettleKeeps (s t : State) : Prop where
  op : t.op = s.op
  inputs : t.inputs = s.inputs
  supply : t.supply = s.supply
  link : t.link = s.link
  report : t.report = s.report
  freeCount : t.freeCount = s.freeCount
  pending : t.pending = s.pending
  meas : t.bank.meas = s.bank.meas
  subs : t.bank.subs = s.bank.subs
  intervalOpen : t.bank.intervalOpen = s.bank.intervalOpen
  averagesReady : t.bank.averagesReady = s.bank.averagesReady
  scenes : t.resolver.scenes = s.resolver.scenes
  courtesy : t.resolver.courtesy = s.resolver.courtesy
  fns : ∀ f, (t.fnRec f).cls = (s.fnRec f).cls ∧ (t.fnRec f).ignitionFed = (s.fnRec f).ignitionFed ∧
    (t.fnRec f).base = (s.fnRec f).base
  lamps : ∀ ch, LampKept (s.lamp ch) (t.lamp ch)
  hostSide : t.flash.hostSide = s.flash.hostSide
  hostHazard : t.flash.hostHazard = s.flash.hostHazard
  hazIn : t.flash.hazIn = s.flash.hazIn
  rate : t.flash.rate = s.flash.rate
  fanSettings : t.fan.settings = s.fan.settings
  fanRetries : t.fan.retriesUsed = s.fan.retriesUsed
  testStep : t.gauges.testStep = s.gauges.testStep
  gauges : ∀ g, GaugeKept (s.gauge g) (t.gauge g)

/-- One grant pass over a queue (R31): its first `n` entries are granted, in their order, the rest stays in the queue, nothing else
changes, what was granted fits, and the new head does not. -/
structure PassGrants (n : Nat) (q : List QEntry) (s t : State) : Prop where
  rest : t = { s with bank := { s.bank with lamps := t.bank.lamps }, queue := t.queue, fan := t.fan }
  queue : t.queue = q.drop n
  lamps : ∀ ch, t.lamp ch =
    if (q.take n).any (fun e => e.ch.val == ch.val) then (s.lamp ch).enterInrush true else s.lamp ch
  fan : t.fan = if (q.take n).any (fun e => e.ch.val == 14) then s.fan.takeGrant else s.fan
  fits : n ≠ 0 → t.allowanceInUse ≤ 4
  ended : ∀ e rest, t.queue = e :: rest → 4 < t.allowanceInUse + startWeight e.ch

/-- One grant pass, of whatever length the allowance gives it (R31). -/
def OnePass (q : List QEntry) (s t : State) : Prop := ∃ n ≤ q.length, PassGrants n q s t

/-- The entries of one join: every channel that waits and has no entry, in ascending channel order, each with the class of its
serving function or of FAN (R29, R32, R33). -/
structure JoinOf (s : State) (new : List QEntry) : Prop where
  ascending : new.Pairwise (fun a b => a.ch.val < b.ch.val)
  waiting : ∀ ch, (∃ e ∈ new, e.ch = ch) ↔ (s.waits ch = true ∧ ∀ e ∈ s.queue, e.ch ≠ ch)
  classes : ∀ e ∈ new, (e.ch.val = 14 → e.cls = (s.fnRec .fan).cls) ∧
    ∀ ch : LampId, e.ch.val = ch.val → ∀ f, s.serving ch = some f → e.cls = (s.fnRec f).cls

/-- The queue after a join: each group keeps its order, and the new entries of its classes follow it (R29, R32, R33). -/
def joinOrder (old new : List QEntry) : List QEntry :=
  old.filter (fun e => e.cls == 0) ++ new.filter (fun e => e.cls == 0) ++
    (old.filter (fun e => e.cls != 0) ++ new.filter (fun e => e.cls != 0))

/-- What the arbiter does to a part: the entries that no longer wait leave and a pass follows, then the channels that wait without
an entry join and a pass follows (R31 to R35; the order of the two is the model's, log entry 5). Waiting channels turn on with a
grant, the fan may be granted, nothing else changes, and it ends with an empty queue or a head that does not fit. -/
structure GrantPass (s t : State) : Prop where
  rest : t = { s with bank := { s.bank with lamps := t.bank.lamps }, queue := t.queue, fan := t.fan }
  lamps : ∀ ch, t.lamp ch = s.lamp ch ∨ ((s.lamp ch).state = .queued ∧ t.lamp ch = (s.lamp ch).enterInrush true)
  fan : t.fan = s.fan ∨ (s.fan.state = .waiting ∧ t.fan = s.fan.takeGrant)
  ended : ∀ e q, t.queue = e :: q → 4 < t.allowanceInUse + startWeight e.ch
  passes : (s.queue.map (·.ch)).Nodup → ∃ u new, OnePass (s.queue.filter (fun e => s.waits e.ch)) s u ∧ JoinOf u new ∧
    OnePass (joinOrder u.queue new) u t

/-- Every block agrees with what it reads: each function's record holds what it resolves to (R48), each lamp channel's demand
is the value of its serving function (R7, R78), the fan holds the resolved step (R91). -/
structure Consistent (s : State) : Prop where
  resolved : ∀ f, (s.fnRec f).resolved = (s.resolve f).1 ∧ (s.fnRec f).reason = s.resolvedReason (s.resolve f)
  demands : ∀ ch, (s.lamp ch).demand = (s.wantOf ch).1 ∧ (s.lamp ch).demandReason = (s.wantOf ch).2
  fanStep : s.fan.step = (s.fnRec .fan).resolved

/-! ### Engagements of the substitution table (R23) -/

/-- An entry of the substitution table engages between two states, with its pair. -/
def Engages (s t : State) (e : Fin 3) (p q : LampId) : Prop :=
  (t.subEntry e).pair = some (p, q) ∧ (t.subEntry e).engaged = true ∧ (s.subEntry e).engaged = false

/-- A spare stands in for a primary through an entry that has engaged (R23): it is not locked out, serves no other entry, and has its
own settings set aside and the primary's, but for its function and its retry limit. -/
structure SpareTakes (s t : State) (e : Fin 3) (p q : LampId) : Prop where
  available : (t.lamp q).state ≠ .lockedOut
  standsIn : (t.lamp q).substituteFor = some p
  alone : ∀ e' p', e' ≠ e → (t.subEntry e').engaged = true → (t.subEntry e').pair ≠ some (p', q)
  setAside : (t.lamp q).setAside = some ((s.lamp q).setAside.getD (s.lamp q).cfg)
  settings : (t.lamp q).cfg =
    { (s.lamp q).setAside.getD (s.lamp q).cfg with
      stopTurn := (s.lamp p).cfg.stopTurn, nominal := (s.lamp p).cfg.nominal,
      lampOutPct := (s.lamp p).cfg.lampOutPct, tripPct := (s.lamp p).cfg.tripPct, inrushMs := (s.lamp p).cfg.inrushMs }

/-- What holds of every entry that engages between two states (R23): its primary is locked out, no lower entry was due the same
spare, and the spare takes the primary's settings. -/
structure Engagements (s t : State) : Prop where
  primary : ∀ e p q, Engages s t e p q → (s.lamp p).state = .lockedOut ∧ (t.lamp p).state = .lockedOut
  spare : ∀ e p q, Engages s t e p q → SpareTakes s t e p q
  lowest : ∀ e p q, Engages s t e p q → ∀ e' p', e' < e → (t.subEntry e').pair = some (p', q) →
    (t.lamp p').state ≠ .lockedOut

/-- An entry fits when its primary locks out (R23): outside LIMP its spare is engaged for no entry and is not locked out, and no lower
entry of the primary names that spare. -/
structure EntryFits (s : State) (e : Fin 3) (p q : LampId) : Prop where
  pair : (s.subEntry e).pair = some (p, q)
  other : q ≠ p
  configured : s.op.state ≠ .limp
  free : ∀ e' p', (s.subEntry e').engaged = true → (s.subEntry e').pair ≠ some (p', q)
  available : (s.lamp q).state ≠ .lockedOut
  lowest : ∀ e', e' < e → (s.subEntry e').pair ≠ some (p, q)

/-- What a trip of a channel does to the substitution table (R12, R23): where it locks the channel out, each entry of that channel that
fits engages and no other entry does; every pair and every standing engagement is kept. -/
structure TripEngages (s t : State) (ch : LampId) : Prop where
  engages : ∀ e p q, Engages s t e p q ↔ p = ch ∧ (t.lamp ch).state = .lockedOut ∧ EntryFits s e ch q
  pairs : ∀ e, (t.subEntry e).pair = (s.subEntry e).pair
  stands : ∀ e, (s.subEntry e).engaged = true → (t.subEntry e).engaged = true

/-- A state after SUBST has been raised for every entry that engages between two others, in ascending order, with the primary as
subject and the spare as detail (R23). -/
def substRaised (s t r : State) : State :=
  ([0, 1, 2] : List (Fin 3)).foldl (fun r e =>
    match (t.subEntry e).pair with
    | some (p, q) => if (t.subEntry e).engaged && !(s.subEntry e).engaged then r.raise .subst p.val q.val else r
    | none => r) r

/-! ### The checks of START (R148) -/

/-- Check `n` of START passes (R148). -/
def StartCheck (s : State) : Nat → Prop
  | 1 => ∀ f ∈ [Fn.brake, Fn.indL, Fn.indR], ∃ ch, (s.lamp ch).cfg.fn = some f
  | 2 => ∀ e p q, (s.subEntry e).pair = some (p, q) →
      (s.lamp q).cfg.fn = none ∧ (isHeavy p = true → isHeavy q = true) ∧
        ∀ e' p' q', (s.subEntry e').pair = some (p', q') → p' ≠ q ∧ q' ≠ p
  | 3 => s.supply.settings.t1 < s.supply.settings.t2 ∧ s.supply.settings.t2 < s.supply.settings.t3
  | 4 => ∀ g, (s.gauge g).cfg.enabled = true →
      s.senseModeOf g = .sender ∧ 2 ≤ (s.gauge g).cfg.curve.length ∧ (s.gauge g).cfg.curve.length ≤ 8 ∧
        (s.gauge g).cfg.curve.Pairwise (fun a b => a.ohms < b.ohms)
  | 5 => s.fan.settings.duty1 < s.fan.settings.duty2 ∧ s.fan.settings.duty2 < s.fan.settings.duty3 ∧
      s.fan.settings.duty3 < s.fan.settings.duty4
  | _ => True

/-- Every check of START passes (R148). -/
def StartReady (s : State) : Prop := ∀ n ∈ [1, 2, 3, 4, 5], StartCheck s n

/-! ### Invariants -/

/-- In LIMP no demand, scene or courtesy light stands (R65, R57, R64). -/
def LimpQuiet (s : State) : Prop :=
  s.op.state = .limp →
    (∀ f, (s.fnRec f).base = 0) ∧ s.resolver.scenes = [] ∧ s.resolver.courtesy.phase = .quiet ∧
      s.resolver.courtesy.level = 0

/-- The event queue as R172 describes it: at most 16 records, every urgent record before every ordinary one, no two of one
kind and subject, every count from 1 to 255. -/
def EventsOk (s : State) : Prop :=
  s.report.events.length ≤ 16 ∧
    s.report.events.Pairwise (fun a b => (b.kind.urgent = true → a.kind.urgent = true) ∧ a.same b = false) ∧
    ∀ r ∈ s.report.events, 1 ≤ r.count ∧ r.count ≤ 255 ∧ r.detail ≤ 65535

/-- The flags of the operating-state controller go with the state (R146, R159, R155). -/
structure FlagsOk (s : State) : Prop where
  configured : s.op.configured = true ↔ s.op.state ≠ .limp
  sleepRequested : s.op.sleepRequested = true ↔ s.op.state = .watch ∨ s.op.state = .sleep
  limpLighting : s.op.limpLighting = true → s.op.state = .limp ∧ s.level .ign = true
  window : s.op.window ≠ none → s.op.state = .sleep

/-- While HOLD stands no output is driven and no load waits (R20, R37, R101, R118). -/
def HoldOk (s : State) : Prop :=
  s.supply.hold = true →
    (∀ ch, (s.lamp ch).state = .off ∨ (s.lamp ch).state = .tripped ∨ (s.lamp ch).state = .lockedOut) ∧
      (s.fan.state = .stopped ∨ s.fan.state = .stallWait ∨ s.fan.state = .lockedOut) ∧
      (∀ g, (s.gauge g).d = 0) ∧ s.queue = []

/-- The start queue as R29 and R6 describe it: no channel twice, an entry for a channel exactly while it waits (a lamp channel in
QUEUED, the fan in WAITING), no entry of class 1 to 3 before one of class 0, and a head that does not fit (R31). -/
structure QueueOk (s : State) : Prop where
  distinct : (s.queue.map (·.ch)).Nodup
  lampWaits : ∀ ch : LampId, (∃ e ∈ s.queue, e.ch.val = ch.val) ↔ (s.lamp ch).state = .queued
  fanWaits : (∃ e ∈ s.queue, e.ch.val = 14) ↔ s.fan.state = .waiting
  groups : s.queue.Pairwise (fun a b => b.cls = 0 → a.cls = 0)
  head : ∀ e rest, s.queue = e :: rest → 4 < s.allowanceInUse + startWeight e.ch

/-- The fan's record goes with its state (R90), and outside DRIVE the fan is stopped or locked out at step 0 (R90, R102); FAN is an
ignition-fed function always (R42). -/
structure FanOk (s : State) : Prop where
  granted : s.fan.granted = true ↔ s.fan.state = .kick
  kick : s.fan.state = .kick → s.fan.applied = 1000
  off : s.fan.state.conducts = false → s.fan.applied = 0
  outsideDrive : s.op.state ≠ .drive → (s.fan.state = .stopped ∨ s.fan.state = .lockedOut) ∧ s.fan.step = 0
  ignitionFed : (s.fnRec .fan).ignitionFed = true

/-- A gauge is in RUN or TEST only in DRIVE, and its duty is 0 outside RUN and TEST (R108, R109, R116). -/
def GaugesOk (s : State) : Prop :=
  ∀ g, ((s.gauge g).state = .run ∨ (s.gauge g).state = .test → s.op.state = .drive) ∧
    ((s.gauge g).state = .off ∨ (s.gauge g).state = .outputFault → (s.gauge g).d = 0)

/-- The drain account stays within its cap, T3 and 1,800,000 mA·s (R130); La is at most 3, Lv at most 2, and L is the higher of the
two (R132 to R134). -/
structure SupplyOk (s : State) : Prop where
  account : s.supply.account ≤ 36000 * s.supply.settings.t3 + 1800000
  levels : s.supply.la ≤ 3 ∧ s.supply.lv ≤ 2
  highest : s.supply.l = max s.supply.la s.supply.lv

/-- The fan, the gauges and the supply record go with the operating state and with their ranges. -/
structure UnitsOk (s : State) : Prop where
  fan : FanOk s
  gauges : GaugesOk s
  supply : SupplyOk s

/-- The allowance in use never exceeds 4 units (R30). -/
def AllowanceOk (s : State) : Prop := s.allowanceInUse ≤ 4

/-- A signalling channel is never in QUEUED (R36). -/
def SignallingOk (s : State) : Prop := ∀ ch, s.signalling ch = true → (s.lamp ch).state ≠ .queued

/-- The queues of the link and the scene list keep their bounds (R164, R168, R57). -/
def BoundsOk (s : State) : Prop :=
  s.link.inbound.length ≤ 4 ∧ (s.link.shifting = none → s.link.waiting = none) ∧ s.resolver.scenes.length ≤ 4 ∧
    (s.resolver.scenes.map (·.id)).Nodup ∧ ∀ sc ∈ s.resolver.scenes, sc.id ≠ 0 ∧ 1 ≤ sc.entries.length ∧ sc.entries.length ≤ 6

/-- A lamp channel's state goes with its demand (R7, R8, R6, R20): with demand 0 it is off or faulted; it stays in OFF with a nonzero
demand only while HOLD stands, with that reason; off_reason says why the output is off; a grant is held only in INRUSH; and every value
due has been handed. -/
structure LampsOk (s : State) : Prop where
  dark : ∀ ch, (s.lamp ch).demand = 0 →
    (s.lamp ch).state = .off ∨ (s.lamp ch).state = .tripped ∨ (s.lamp ch).state = .lockedOut
  heldOff : ∀ ch, (s.lamp ch).state = .off → (s.lamp ch).demand ≠ 0 → s.supply.hold = true ∧ (s.lamp ch).offReason = .hold
  off : ∀ ch, (s.lamp ch).state = .off → (s.lamp ch).demand = 0 →
    (s.lamp ch).offReason = (s.lamp ch).demandReason ∨ (s.lamp ch).offReason = .none
  lit : ∀ ch, (s.lamp ch).state = .queued ∨ (s.lamp ch).state = .inrush ∨ (s.lamp ch).state = .on →
    (s.lamp ch).offReason = .none
  tripped : ∀ ch, (s.lamp ch).state = .tripped → (s.lamp ch).offReason = .fault
  lockedOut : ∀ ch, (s.lamp ch).state = .lockedOut → (s.lamp ch).offReason = .lockout
  granted : ∀ ch, (s.lamp ch).granted = true → (s.lamp ch).state = .inrush
  handed : ∀ ch, (s.lamp ch).entered = false

/-- The fan and the gauges follow what drives them: the fan's target is the duty of its step (R91, Table 5-2), it is in STOPPED with a
nonzero step only while HOLD stands (R92, R101), it waits or turns only for a nonzero step (Table 5-3), in RUNNING it is at its
target (R94, R95); an enabled gauge is not in OFF in DRIVE (R109). -/
structure FollowsOk (s : State) : Prop where
  target : s.fan.target =
    if s.fan.step = 0 then 0
    else if s.fan.step = 1 then s.fan.settings.duty1
    else if s.fan.step = 2 then s.fan.settings.duty2
    else if s.fan.step = 3 then s.fan.settings.duty3
    else s.fan.settings.duty4
  stopped : s.fan.state = .stopped → s.fan.step ≠ 0 → s.supply.hold = true
  turning : s.fan.state = .waiting ∨ s.fan.state = .kick ∨ s.fan.state = .ramping ∨ s.fan.state = .running → s.fan.step ≠ 0
  running : s.fan.state = .running → s.fan.applied = s.fan.target
  enabled : ∀ g, s.op.state = .drive → (s.gauge g).cfg.enabled = true → (s.gauge g).state ≠ .off

/-- The flash record goes with its phase, and outside SLEEP the engine is idle only where it wants nothing: no hazard, and in DRIVE no
host side request (R68, R72, R73, R76). -/
structure FlashOk (s : State) : Prop where
  idle : s.flash.phase = .idle → s.flash.active = .none ∧ s.flash.fast = false ∧ s.flash.timer = none
  flashing : s.flash.phase ≠ .idle → s.flash.active ≠ .none ∧ s.flash.timer ≠ none
  wants : s.op.state ≠ .sleep → s.flash.phase = .idle →
    s.flash.hazIn = false ∧ s.flash.hostHazard = false ∧ (s.op.state = .drive → s.flash.hostSide = .none)

/-- The substitution table and the records of the spares agree (R23, R24): a channel stands in for the primary of the one
engaged entry whose spare it is, has its own configuration set aside exactly then, and keeps its own function; in LIMP no
entry is engaged (R65). -/
structure SubstitutionOk (s : State) : Prop where
  engaged : ∀ q p, (s.lamp q).substituteFor = some p ↔
    ∃ e, (s.subEntry e).engaged = true ∧ (s.subEntry e).pair = some (p, q)
  paired : ∀ e, (s.subEntry e).engaged = true → (s.subEntry e).pair ≠ none
  single : ∀ e e' p p' q, (s.subEntry e).engaged = true → (s.subEntry e').engaged = true →
    (s.subEntry e).pair = some (p, q) → (s.subEntry e').pair = some (p', q) → e = e'
  setAside : ∀ q, (s.lamp q).setAside = none ↔ (s.lamp q).substituteFor = none
  function : ∀ q c, (s.lamp q).setAside = some c → c.fn = (s.lamp q).cfg.fn
  limp : s.op.state = .limp → ∀ e, (s.subEntry e).engaged = false

/-! ### Resets -/

/-- A command that begins or ends a reset (R160). -/
def isReset : Instr → Bool
  | .powerOn | .brownout | .resetLine | .resetRelease _ => true
  | _ => false

end Sys2Proof.Machine
end

