-- ==== Sys2Proof/Certificates/Slice0/Obligations.lean ====
section
/-! DEFINITION. The statements for the provers. -/

open Sys2Proof Sys2Proof.Machine

/-! ### The machine as a whole -/

/-- One step takes the command that has waited longest and runs it with the rest of the queue; with none waiting the block
idles (the model's choice, log entry 2). -/
def Obligations.StepRunsFrontCommand : Prop :=
  ∀ (c : Instr) (q : List Instr) (s : State),
    step { s with pending := c :: q } = exec c { s with pending := q } ∧
      step { s with pending := [] } = .next { s with pending := [] }

/-- Every command answers a next state, whatever the state, and leaves the queue of commands as it was. That nothing stops, and
that a command which cannot happen in a state leaves it unchanged, is the model's choice (DESIGN CHOICE, log entry 8); so is the
queue of commands (DESIGN CHOICE, log entry 2). -/
def Obligations.CommandsCompleteAndKeepTheQueue : Prop :=
  ∀ (c : Instr) (s : State), ∃ t, exec c s = .next t ∧ t.pending = s.pending

/-- State.reset meets every invariant of this file (its earth polarity and start cause are the model's choice, log entry 1). -/
def Obligations.ResetMeetsTheInvariants : Prop :=
  AllowanceOk State.reset ∧ EventsOk State.reset ∧ FlagsOk State.reset ∧ HoldOk State.reset ∧ SignallingOk State.reset ∧
    BoundsOk State.reset ∧ SubstitutionOk State.reset ∧ Consistent State.reset ∧ LimpQuiet State.reset ∧
    QueueOk State.reset ∧ UnitsOk State.reset ∧ LampsOk State.reset ∧ FollowsOk State.reset ∧ FlashOk State.reset

/-- R30: the allowance in use is the sum of the weights of the grant holders, 2 units for a HEAVY channel and for the fan, 1 for a
LIGHT channel; a channel in INRUSH without a grant adds nothing. It never exceeds 4 after any step from a state in which it does
not, and after every reset it is 0 and the queue is empty. -/
def Obligations.AllowanceNeverExceeded : Prop :=
  (∀ s t : State, AllowanceOk s → step s = .next t → AllowanceOk t) ∧
  (∀ s : State, s.allowanceInUse =
    2 * ((allLamps.filter (fun ch => ch.val < 4 ∧ (s.lamp ch).state = .inrush ∧ (s.lamp ch).granted = true)).length) +
      (allLamps.filter (fun ch => 4 ≤ ch.val ∧ (s.lamp ch).state = .inrush ∧ (s.lamp ch).granted = true)).length +
      (if s.fan.granted then 2 else 0)) ∧
  (∀ (s : State) (polOpen : Bool), (s.afterReset polOpen).allowanceInUse = 0 ∧ (s.afterReset polOpen).queue = [])

/-- R172, R164, R168, R57: the event queue, the inbound queue, the transmitter and the scene list keep their bounds and their form
through every step. R6, R29, R31: so does the start queue: no channel twice, an entry for a channel exactly while it waits, class 0
ahead of the others, a head that does not fit. R32 to R34: what any command does to it is to let entries leave and others join
behind the entries of their group, each with the class of its serving function or of FAN, in ascending channel order where the
command brings one cause; a channel that waits before and after it keeps its entry and its place, unless its function changes or it
engages or is released as a spare (that removals come first is the model's reading, DEDUCED, log entry 5). -/
def Obligations.QueuesKeepTheirForm : Prop :=
  (∀ s t : State, EventsOk s → BoundsOk s → step s = .next t → EventsOk t ∧ BoundsOk t) ∧
  (∀ s t : State, QueueOk s → step s = .next t → QueueOk t) ∧
  (∀ (c : Instr) (s t : State), QueueOk s → exec c s = .next t →
    ∃ kept new, kept.Sublist s.queue ∧ t.queue = joinOrder kept new ∧
      (∀ e ∈ new, (e.ch.val = 14 → e.cls = (t.fnRec .fan).cls) ∧
        ∀ ch : LampId, e.ch.val = ch.val → ∀ f, t.serving ch = some f → e.cls = (t.fnRec f).cls) ∧
      (oneCause c = true → new.Pairwise (fun a b => a.ch.val < b.ch.val)) ∧
      (oneCause c = true ∨ (Consistent s ∧ s.op.state ≠ .sleep) → ∀ e ∈ s.queue, (∃ x ∈ t.queue, x.ch = e.ch) →
        (∀ ch : LampId, e.ch.val = ch.val → t.serving ch = s.serving ch ∧
          ∀ i p, (s.subEntry i).pair = some (p, ch) → (t.subEntry i).engaged = (s.subEntry i).engaged) →
        e ∈ kept))

/-- R146, R155, R159: configured, sleep_requested, limp lighting and the confirmation window go with the operating state
through every step. R90, R102, R108, R109, R116, R130, R132 to R135: the fan's record goes with its state, and outside DRIVE the
fan is stopped or locked out at step 0; a gauge is in RUN or TEST only in DRIVE and has duty 0 outside them; the drain account
stays within its cap, and L is the higher of La and Lv. -/
def Obligations.FlagsGoWithTheState : Prop :=
  (∀ s t : State, FlagsOk s → step s = .next t → FlagsOk t) ∧
  (∀ s t : State, UnitsOk s → step s = .next t → UnitsOk t)

/-- R20, R37, R101, R118: while HOLD stands no load is driven and none waits, after any step from a state in which that is
so. -/
def Obligations.HoldKeepsEveryOutputOff : Prop :=
  ∀ s t : State, HoldOk s → step s = .next t → HoldOk t

/-- R36, R23, R24: a signalling channel never enters the start queue, and the substitution table and the records of the spares
agree, after any step from a state in which both hold. -/
def Obligations.SignallingChannelsNeverQueue : Prop :=
  ∀ s t : State, SubstitutionOk s → SignallingOk s → step s = .next t → SubstitutionOk t ∧ SignallingOk t

/-- R48, R7, R78, R91: after every step each function's record holds what it resolves to, each lamp channel's demand is the
value of its serving function, and the fan holds the resolved step. R6, R7, R8, R20: each lamp channel's state and off_reason go with its
demand, and a grant is held only in INRUSH. R91, R92, R94, R95, R109: the fan's target is the duty of its step, it stays stopped with a
nonzero step only while HOLD stands and runs only at its target, and an enabled gauge is not OFF in DRIVE. R73, R76: outside SLEEP the
flash engine is idle only where it wants nothing. -/
def Obligations.EveryStepLeavesThePartConsistent : Prop :=
  (∀ s t : State, Consistent s → LimpQuiet s → step s = .next t → Consistent t ∧ LimpQuiet t) ∧
  (∀ s t : State, LampsOk s → step s = .next t → LampsOk t) ∧
  (∀ s t : State, FollowsOk s → UnitsOk s → step s = .next t → FollowsOk t) ∧
  (∀ s t : State, FlashOk s → step s = .next t → FlashOk t)

/-- The bytes of any frame of at most 24 payload bytes, received without error by an assembler in HUNT, are assembled into that
frame, which joins the inbound queue at its tail where there is room (R161, R162, R164). -/
def Obligations.ReceivedBytesAssembleTheirFrame : Prop :=
  ∀ (f : Frame) (s : State), f.payload.length ≤ 24 → Listens s → s.link.assembler = .hunt → s.link.inbound.length < 4 →
    ∃ t, receiveBytes f.bytes s = .next t ∧ t.link = { s.link with inbound := s.link.inbound ++ [f] } ∧
      t.op = { s.op with silenceTimer := 0, linkSilent := false, silenceCount := 0, limpLighting := false } ∧
      SettleKeeps { s with op := t.op, link := t.link } t

/-- R173, R174: an event of a disabled kind changes nothing; a repeat coalesces into its record; a new record stands after the
last urgent one, or at the tail if it is ordinary; in a full queue an ordinary event is lost, an urgent one displaces the newest
ordinary record or is lost where all are urgent, and the overflow flag is set. -/
def Obligations.EventsEnterTheQueue : Prop :=
  ∀ (s : State) (k : EventKind) (subject detail : Nat), EventsOk s → detail ≤ 65535 →
    let t := s.raise k subject detail
    let q := s.report.events
    let r : EventRec := { kind := k, subject := subject, detail := detail, count := 1, time := s.report.timeCount }
    let known := ∃ x ∈ q, x.kind = k ∧ x.subject = subject
    let after (events : List EventRec) (overflow : Bool) : State :=
      { s with report := { s.report with events := events, overflow := overflow } }
    (s.eventEnabled k = false → t = s) ∧
    (s.eventEnabled k = true →
      (known → t = after
        (q.map (fun x => if x.kind = k ∧ x.subject = subject then
          { x with detail := detail, count := min 255 (x.count + 1), time := s.report.timeCount } else x)) s.report.overflow) ∧
      (¬ known → q.length < 16 → k.urgent = false → t = after (q ++ [r]) s.report.overflow) ∧
      (¬ known → q.length < 16 → k.urgent = true →
        ∃ us os, q = us ++ os ∧ (∀ x ∈ us, x.kind.urgent = true) ∧ (∀ x ∈ os, x.kind.urgent = false) ∧
          t = after (us ++ r :: os) s.report.overflow) ∧
      (¬ known → q.length = 16 → k.urgent = false ∨ (∀ x ∈ q, x.kind.urgent = true) → t = after q true) ∧
      (¬ known → q.length = 16 → k.urgent = true → (∃ x ∈ q, x.kind.urgent = false) →
        ∃ us os y, q = us ++ os ++ [y] ∧ (∀ x ∈ us, x.kind.urgent = true) ∧ (∀ x ∈ os, x.kind.urgent = false) ∧
          y.kind.urgent = false ∧ t = after (us ++ r :: os) true))

/-- R49 to R55, R48: in every consistent state a function's record holds the base demand or the newest scene's value, raised by the
courtesy lamp for INTERIOR and by the BRAKE input for BRAKE, put out by a closed ignition gate, and lowered by the shed gate: PANEL
halved, FAN by steps, any other put out. MAINTELL follows MAIN. The reason is the gate's where it lowers the value (DEDUCED, log entry
6). R78 to R80, Table 4-4: a channel of IND_L, IND_R or TELLTALE holds the flash engine's value, a stop/turn channel outside the active
set that of BRAKE; every other channel holds the value of its function, and one that serves none 0 (R7, R21, R48). -/
def Obligations.FunctionsResolveThroughTheGates : Prop :=
  (∀ s : State, Consistent s → FlashOk s → ∀ ch : LampId,
    let c := s.lamp ch
    let brake := if s.op.state ≠ .limp ∧ c.cfg.stopTurn = true then (s.fnRec .brake).resolved else 0
    let sideValue (side : Sides) : Nat :=
      match s.flash.phase with
      | .idle => brake
      | .on => if s.flash.active = side ∨ s.flash.active = .both then 100 else brake
      | .off => if s.flash.active = side ∨ s.flash.active = .both then 0 else brake
    (s.serving ch = some .indL → c.demand = sideValue .left ∧ c.demandReason = .demand) ∧
    (s.serving ch = some .indR → c.demand = sideValue .right ∧ c.demandReason = .demand) ∧
    (s.serving ch = some .telltale → c.demand = (if s.flash.phase = .on then 100 else 0) ∧ c.demandReason = .demand) ∧
    (s.serving ch = none → c.demand = 0 ∧ c.demandReason = .demand) ∧
    (∀ f, s.serving ch = some f → f ≠ .indL → f ≠ .indR → f ≠ .telltale →
      let r := s.fnRec f
      c.demand = r.resolved ∧
        c.demandReason = (if r.resolved = 0 ∧ (r.reason = .ignOff ∨ r.reason = .shed) then r.reason else .demand))) ∧
  (∀ s : State, Consistent s →
    (∀ f, f ≠ .indL → f ≠ .indR → f ≠ .telltale → f ≠ .maintell →
      let r := s.fnRec f
      let v := s.openValue f
      let shut := r.ignitionFed = true ∧ s.op.state ≠ .drive ∧
        (s.op.state = .limp → f = .fan ∨ s.level .ign = false)
      let affected := 1 ≤ r.cls ∧ 4 ≤ r.cls + s.supply.l
      (shut → r.resolved = 0) ∧
      (¬ shut → ¬ affected → r.resolved = v) ∧
      (¬ shut → affected → r.resolved =
        if f = .panel then (if v = 0 then 0 else min v (max 10 ((v + 1) / 2)))
        else if f = .fan then v - (s.supply.l - (4 - r.cls) + 1)
        else 0) ∧
      r.reason =
        (if s.supply.hold = true ∧ r.resolved ≠ 0 then .hold
         else if r.resolved < v then (if r.ignitionFed = true ∧ s.ignitionGateOpen f = false then .ignOff else .shed)
         else .none)) ∧
    (s.fnRec .maintell).resolved = (if (s.fnRec .main).resolved = 0 then 0 else 100) ∧
    (∀ f, f ≠ .interior → (f = .brake → s.level .brake = false) → s.openValue f = s.sceneValue f) ∧
    (s.level .brake = true → s.openValue .brake = 100) ∧
    s.openValue .interior = max (s.sceneValue .interior) s.resolver.courtesy.level ∧
    (∀ f, f.sceneProtected = true ∨ (∀ sc ∈ s.resolver.scenes, f ∉ sc.entries.map (·.1)) →
      s.sceneValue f =
        if s.op.state = .limp ∧ (f = .dip ∨ f = .side) then (if s.op.limpLighting then 100 else 0) else (s.fnRec f).base) ∧
    (∀ f v older sc newer, f.sceneProtected = false → s.resolver.scenes = older ++ sc :: newer →
      (∀ x ∈ newer, f ∉ x.entries.map (·.1)) → (f, v) ∈ sc.entries → (sc.entries.map (·.1)).Nodup → s.sceneValue f = v))

/-! ### Resets -/

/-- R160, R180, R150: a reset condition holds the part and adds its cause, POWER_ON emptying the set first, RESTART_RESET once
the RESTART reply has left. That nothing else changes, and that every other command leaves a held part unchanged, is the model's
choice (DESIGN CHOICE, log entries 23 and 8). While the part is held every output is off, ATTN is released and TX is at rest. -/
def Obligations.ResetsHoldThePart : Prop :=
  let held (s : State) (c : CauseSet) : State :=
    { s with op := { s.op with resetHeld := true }, report := { s.report with causes := c } }
  (∀ s, exec .powerOn s =
    .next (held s { powerOn := true, brownout := false, resetLine := false, restart := false })) ∧
  (∀ s, exec .brownout s = .next (held s { s.report.causes with brownout := true })) ∧
  (∀ s, exec .resetLine s = .next (held s { s.report.causes with resetLine := true })) ∧
  (∀ s : State, s.op.resetHeld = false → s.link.restartTaken = true → s.link.shifting = none → s.link.waiting = none →
    exec .restartReset s = .next (held s { s.report.causes with restart := true })) ∧
  (∀ (c : Instr) (s : State), s.op.resetHeld = true →
    (isReset c = false → exec c s = .next s) ∧ (∀ ch, s.outputDuty ch = 0) ∧ s.attn = false ∧ s.txBusy = false ∧ s.txLine = [])

/-- R160, R28, R67, R106, R125, R142, R144, R171, R172, R178: the release of the last reset condition gives every record its
reset values, spelled here; the start-cause set survives. R143: POL gives the earth polarity, every output switches its load to
the battery side opposite to the earthed one, and no other command changes that. The model's own: the class of a gauge's run, an
interval under way, and the inrush and courtesy timers at 0 (DESIGN CHOICE, log entry 30), no ignition feed of TELLTALE and MAINTELL
(log entry 7), the commands that wait (log entry 2); and that an ignition-fed function has the reason NONE, though its gate is closed
while IGN reads deasserted, is its reading of R65 and R67 (DEDUCED, log entry 6). -/
def Obligations.ReleaseGivesResetValues : Prop :=
  (∀ (s : State) (polOpen : Bool), s.op.resetHeld = true →
    ∃ t, exec (.resetRelease polOpen) s = .next t ∧
      t.op = { state := .limp, configured := false, sleepRequested := false, linkSilent := false, silenceTimer := 0,
               linkTimeout := 20, limpLighting := false, silenceCount := 0, linkSilentLatch := false, limpLatch := false,
               window := none, resetHeld := false } ∧
      t.inputs.earthPositive = polOpen ∧ t.outputSide = (if polOpen then .negative else .positive) ∧
      (∀ i, t.inRec i = { level := false, count := 0, polarity := .default }) ∧ (∀ g, t.senseModeOf g = .sender) ∧
      (∀ ch : LampId, t.lamp ch =
        { cfg :=
            { fn :=
                if ch.val ≤ 1 then some .dip
                else if ch.val = 4 ∨ ch.val = 5 then some .brake
                else if ch.val = 6 ∨ ch.val = 7 then some .indL
                else if ch.val = 8 ∨ ch.val = 9 then some .indR
                else if ch.val = 10 ∨ ch.val = 11 then some .side
                else none
              stopTurn := false, nominal := if ch.val < 4 then 4500 else 1800, lampOutPct := 50, tripPct := 160,
              inrushMs := 150, retryLimit := 3 }
          setAside := none, substituteFor := none, state := .off, demand := 0, demandReason := .demand, offReason := .none,
          lampOut := false, fed := false, retriesUsed := 0, onTime := 0, retryTimer := 0, inrushTimer := 0, granted := false,
          overCount := 0, lampRun := { verdict := false, count := 0 }, fedRun := { verdict := false, count := 0 },
          phaseSample := none, entered := false }) ∧
      (∀ ch, t.measOf ch = { last := 0, average := 0, slotSum := 0, slotLast := 0 }) ∧
      (∀ e, t.subEntry e = { pair := none, engaged := false }) ∧ t.bank.intervalOpen = true ∧
      t.bank.averagesReady = false ∧ t.queue = [] ∧
      (∀ f, t.fnRec f =
        { cls := if f ∈ [.fog, .interior, .aux1, .aux2, .aux3] then 3 else if f ∈ [.panel, .fan] then 2 else 0
          ignitionFed := decide (f ∈ [.fog, .reverse, .brake, .indL, .indR, .fan])
          base := 0, resolved := 0, reason := .none }) ∧
      t.resolver.scenes = [] ∧
      t.resolver.courtesy = { enable := true, holdS := 15, phase := .quiet, level := 0, timer := 0 } ∧
      t.flash = { phase := .idle, active := .none, hostSide := .none, hostHazard := false, hazIn := false, timer := none,
                  half := 0, fast := false, rate := 90 } ∧
      t.fan = { state := .stopped, step := 0, target := 0, applied := 0, kickTimer := none, rampTimer := none,
                stallTimer := 0, waitTimer := none, retriesUsed := 0, runningTime := 0, granted := false,
                settings := { duty1 := 350, duty2 := 550, duty3 := 750, duty4 := 1000, kickTime := 300, slew := 50,
                              stallCurrent := 9000, stallTime := 500, retryLimit := 3 } } ∧
      t.gauges.testStep = 0 ∧
      (∀ g, t.gauge g =
        { cfg := { enabled := false, rp := 220, curve := [{ ohms := 30, position := 1000 }, { ohms := 240, position := 0 }],
                   k := 32, dfs := 600, vref := 10000, faultAction := .zero }
          pendingCurve := none, state := .off, code := 0, resistance := none, lastGood := none, sender := .ok,
          runClass := .ok, runCount := 0, target := 0, f := 0, p := 0, d := 0, limit := .none, shortCount := 0,
          fresh := false, samples := [] }) ∧
      t.supply =
        { latest := 0, vs := 0, chg := 0, charging := false, chargeCount := 0, iTotal := 0, account := 0, la := 0,
          below1 := 0, below2 := 0, recovery := 0, lv := 0, l := 0, hold := false, releaseCount := 0, samples := [],
          settings := { system := .v12, dynamo := 19000, t1 := 50, t2 := 100, t3 := 200, h := 5, vlow1 := 11600,
                        vlow2 := 11000, vover := 16000, vrelease := 15000, chargeThreshold := 12800 } } ∧
      t.link = { assembler := .hunt, inbound := [], shifting := none, waiting := none, overrun := false,
                 lineError := false, formatError := false, checkError := false, receiverPaused := false,
                 restartTaken := false } ∧
      t.report = { events := [], mask := 0x0FFFFF, overflow := false, causes := s.report.causes, timeCount := 0 } ∧
      t.freeCount = s.freeCount ∧ t.pending = s.pending) ∧
  (∀ (c : Instr) (s t : State), (∀ polOpen, c ≠ .resetRelease polOpen) → exec c s = .next t →
    t.inputs.earthPositive = s.inputs.earthPositive ∧ t.outputSide = s.outputSide) ∧
  (∀ (s : State) (ch : ChanId) (side : BatterySide) (duty : Nat), s.output ch = some (side, duty) →
    side = s.outputSide ∧ duty = s.outputDuty ch ∧ duty ≠ 0)

/-! ### Requests of the link and report block -/

/-- R170: IDENT is answered OK with the vendor code 0x48, the part code 0x2640, revision 3 and limp-map version 1, whatever the
records hold, and changes none of them. -/
def Obligations.IdentAnswers : Prop :=
  ∀ (s : State) (rest : List Frame), Takes s 0x01 [] rest →
    exec .ident s = .next { s with link := linkAfter s rest 0x01 .ok [0x48, 0x26, 0x40, 3, 1] }

/-- R179, Table 11-5: STATUS reports the part's condition, then the four seen flags and the two latches are clear; nothing else
changes. -/
def Obligations.StatusReportsAndClears : Prop :=
  ∀ (s : State) (rest : List Frame), Takes s 0x02 [] rest →
    exec .status s = .next
      { s with
        link :=
          { linkAfter s rest 0x02 .ok
              (b1 s.op.state.code ++
                b1 (flagBits [s.op.configured, s.op.sleepRequested, s.supply.hold, s.supply.charging, s.op.limpLatch,
                  s.op.linkSilentLatch, s.report.overflow]) ++
                b1 s.supply.l ++ b1 (flagBits [s.link.overrun, s.link.lineError, s.link.formatError, s.link.checkError]) ++
                b1 s.report.events.length ++ b2 s.report.timeCount.toNat) with
            overrun := false, lineError := false, formatError := false, checkError := false }
        op := { s.op with limpLatch := false, linkSilentLatch := false } }

/-- R180, R175: CAUSE removes the cause of highest priority in the set and answers with its code, or with NONE where the set is
empty; EVMASK stores the mask as given and echoes it, and is refused BAD_VALUE where a bit beyond kind 20 is set. Neither
changes anything else. -/
def Obligations.CauseAndEvmaskActOnTheReport : Prop :=
  (∀ (s : State) (rest : List Frame), Takes s 0x03 [] rest →
    let c := s.report.causes
    let x : CauseSet × Byte :=
      if c.powerOn then ({ c with powerOn := false }, 1)
      else if c.brownout then ({ c with brownout := false }, 2)
      else if c.resetLine then ({ c with resetLine := false }, 3)
      else if c.restart then ({ c with restart := false }, 4)
      else (c, 0)
    exec .cause s = .next
      { s with link := linkAfter s rest 0x03 .ok [x.2], report := { s.report with causes := x.1 } }) ∧
  (∀ (s : State) (rest : List Frame) (a b c : Byte), Takes s 0x05 [a, b, c] rest →
    (a.toNat < 16 →
      exec .evmask s = .next
        { s with
          link := linkAfter s rest 0x05 .ok [a, b, c]
          report := { s.report with mask := (a ++ b ++ c : BitVec 24) } }) ∧
    (16 ≤ a.toNat → exec .evmask s = .next { s with link := linkAfter s rest 0x05 .badValue [] }))

/-- R176, R184, Tables 11-9 and 11-10: EVFETCH removes up to four records from the head and answers with 23 bytes of data, spelled here:
the remaining count and the number returned, the tags of the four slots with the overflow flag, the counts saturated at 15, the
details, the times. It clears the overflow flag where it leaves the queue empty; ATTN is then released (R177). Nothing else
changes. -/
def Obligations.EvfetchTakesFour : Prop :=
  ∀ (s : State) (rest : List Frame), Takes s 0x04 [] rest → s.report.events.length ≤ 16 →
    let left := s.report.events.length - 4
    let returned := min 4 s.report.events.length
    let tagOf (r : EventRec) : Nat :=
      match r.kind with
      | .chTrip => 0 * 17 + r.subject + 1
      | .chLockout => 1 * 17 + r.subject + 1
      | .chLampOut => 2 * 17 + r.subject + 1
      | .chLampOk => 3 * 17 + r.subject + 1
      | .chFed => 4 * 17 + r.subject + 1
      | .subst => 5 * 17 + r.subject + 1
      | .shed => 103
      | .holdOn => 104
      | .holdOff => 105
      | .fanStall => 106
      | .fanLockout => 107
      | .gaugeSender => 108 + r.subject
      | .gaugeLimit => 110 + r.subject
      | .sceneEnd => 112
      | .input => 113 + r.subject
      | .state => 119
      | .linkSilent => 120
      | .charge => 121
      | .testEnd => 122
      | .woken => 123
    let slot (field : EventRec → Nat) (n : Nat) : Nat := (s.report.events[n]?.map field).getD 0
    let tag := slot tagOf
    let count := slot (fun r => min 15 r.count)
    let detail := slot (fun r => if r.kind = .sceneEnd then r.subject else r.detail)
    let time := slot (fun r => r.time.toNat)
    let data : List Byte :=
      b1 (left + 32 * returned) ++
        b1 (tag 0 + if s.report.overflow then 128 else 0) ++ b1 (tag 1) ++ b1 (tag 2) ++ b1 (tag 3) ++
        b1 (16 * count 0 + count 1) ++ b1 (16 * count 2 + count 3) ++
        b2 (detail 0) ++ b2 (detail 1) ++ b2 (detail 2) ++ b2 (detail 3) ++
        b2 (time 0) ++ b2 (time 1) ++ b2 (time 2) ++ b2 (time 3)
    ∃ t, exec .evfetch s = .next t ∧
      t = { s with
            link := linkAfter s rest 0x04 .ok data
            report :=
              { s.report with
                events := s.report.events.drop 4
                overflow := if s.report.events.drop 4 = [] then false else s.report.overflow } } ∧
      data.length = 23 ∧
      (s.report.events.length ≤ 4 → t.attn = false)

/-! ### START, STOP, SLEEP, WAKE, RESTART -/

/-- R148: a START whose five checks pass gives DRIVE where IGN is asserted and PARK where it is not, and raises STATE. Every
channel then serves the function of its own configuration in the map, or that of the primary it stands in for, and every channel
and function is handed its value. R23: the entries whose primaries are locked out engage, lowest first, each raising SUBST
after STATE, and the spare takes its primary's settings; no other channel's configuration changes. Standing trips, lockouts and
output faults are kept, with the retries used. That entries with different
spares engage, and raise SUBST, in ascending order too is the model's choice (DESIGN CHOICE, log entry 42), and that a channel serving
no function in either map is handed nothing its reading (DEDUCED, log entry 47). -/
def Obligations.StartBringsTheConfiguredMap : Prop :=
  ∀ (s : State) (rest : List Frame), Takes s 0x10 [] rest → s.op.state = .limp → StartReady s →
    ∃ t, exec .start s = .next t ∧
      t.op = { s.op with state := (if s.level .ign then .drive else .park), configured := true, limpLighting := false,
                         silenceTimer := 0 } ∧
      t.link = linkAfter s rest 0x10 .ok (b1 (if s.level .ign then 1 else 2)) ∧
      t.report = (substRaised s t (s.raise .state 0 (if s.level .ign then 1 else 2))).report ∧
      (∀ ch, t.serving ch =
        match (t.lamp ch).substituteFor with
        | some p => (s.lamp p).cfg.fn
        | none => (s.lamp ch).cfg.fn) ∧
      (∀ ch, t.serving ch ≠ s.serving ch → (t.lamp ch).lampOut = false) ∧
      (∀ ch, (∀ e p, ¬ Engages s t e p ch) → (t.lamp ch).cfg = (s.lamp ch).cfg ∧
        (t.lamp ch).setAside = (s.lamp ch).setAside ∧ (t.lamp ch).substituteFor = (s.lamp ch).substituteFor) ∧
      (∀ e, (t.subEntry e).pair = (s.subEntry e).pair) ∧
      (SubstitutionOk s → Engagements s t ∧
        ∀ e p q, (t.subEntry e).pair = some (p, q) → (t.lamp p).state = .lockedOut → (t.lamp q).state ≠ .lockedOut →
          ∃ e' p', (t.subEntry e').engaged = true ∧ (t.subEntry e').pair = some (p', q)) ∧
      (∀ ch, ((t.lamp ch).state = .tripped ↔ (s.lamp ch).state = .tripped) ∧
        ((t.lamp ch).state = .lockedOut ↔ (s.lamp ch).state = .lockedOut) ∧
        (t.lamp ch).retriesUsed = (s.lamp ch).retriesUsed ∧ (t.lamp ch).onTime = (s.lamp ch).onTime ∧
        (t.lamp ch).retryTimer = (s.lamp ch).retryTimer) ∧
      ((t.fan.state = .lockedOut ↔ s.fan.state = .lockedOut) ∧ t.fan.retriesUsed = s.fan.retriesUsed ∧
        t.fan.settings = s.fan.settings) ∧
      (∀ g, (t.gauge g).pendingCurve = none ∧ (t.gauge g).cfg = (s.gauge g).cfg ∧
        ((t.gauge g).state = .outputFault ↔ (s.gauge g).state = .outputFault)) ∧
      t.resolver.courtesy =
        (if s.resolver.courtesy.enable ∧ s.level .door then
          { s.resolver.courtesy with phase := .opened, level := 100, timer := 0 }
        else s.resolver.courtesy) ∧
      (∀ f, (t.fnRec f).base = (s.fnRec f).base ∧ (t.fnRec f).cls = (s.fnRec f).cls) ∧
      t.inputs = s.inputs ∧ t.supply = s.supply ∧ t.bank.meas = s.bank.meas ∧ t.resolver.scenes = s.resolver.scenes ∧
      Consistent t

/-- R149: STOP in PARK and WATCH returns the part to LIMP with STATE raised: every base demand 0, no scene, no host request to the
flash engine, every lockout and output fault lifted, every substitution released and every spare's own configuration back, the
courtesy lamp quiet; retries_used is 0 on a lifted channel and a released spare (R15, R24) and kept on the others (R28); settings, the supply's and the inputs' records are kept. In LIMP it lifts every lamp lockout and restarts
the silence count; that limp lighting then does not stand is the model's reading (DEDUCED, log entry 20), and so is that lamp_out is
cleared on the released spares and the channels whose serving function STOP changes, and kept on the others (DEDUCED, log entry
46). -/
def Obligations.StopReturnsToLimp : Prop :=
  ∀ (s : State) (rest : List Frame), Takes s 0x11 [] rest →
    (s.op.state = .park ∨ s.op.state = .watch →
      ∃ t, exec .stop s = .next t ∧
        t.op = { s.op with state := .limp, configured := false, sleepRequested := false, linkSilent := false,
                           silenceCount := 0 } ∧
        t.link = linkAfter s rest 0x11 .ok [] ∧ t.report = (s.raise .state 0 0).report ∧
        (∀ f, (t.fnRec f).base = 0 ∧ (t.fnRec f).cls = (s.fnRec f).cls) ∧ t.resolver.scenes = [] ∧
        t.resolver.courtesy = { s.resolver.courtesy with phase := .quiet, level := 0, timer := 0 } ∧
        t.flash.hostSide = .none ∧ t.flash.hostHazard = false ∧ t.flash.rate = s.flash.rate ∧
        (∀ ch, (t.lamp ch).state ≠ .lockedOut ∧ t.serving ch = limpMap ch) ∧
        (SubstitutionOk s → ∀ ch, (t.lamp ch).fed = (s.lamp ch).fed ∧
          (t.lamp ch).lampOut =
            (if s.serving ch = limpMap ch ∧ (s.lamp ch).substituteFor = none then (s.lamp ch).lampOut else false)) ∧
        (SubstitutionOk s → ∀ ch, (t.lamp ch).cfg = (s.lamp ch).setAside.getD (s.lamp ch).cfg ∧
          (t.lamp ch).setAside = none ∧ (t.lamp ch).substituteFor = none ∧
          (let fresh := (s.lamp ch).state = .lockedOut ∨ (s.lamp ch).substituteFor ≠ none
           (t.lamp ch).retriesUsed = (if fresh then 0 else (s.lamp ch).retriesUsed) ∧
             (t.lamp ch).onTime = (if fresh then 0 else (s.lamp ch).onTime))) ∧
        (∀ e, (t.subEntry e).pair = (s.subEntry e).pair ∧
          ((t.subEntry e).pair ≠ none → (t.subEntry e).engaged = false)) ∧
        t.fan.state ≠ .lockedOut ∧ t.fan.settings = s.fan.settings ∧
        (∀ g, (t.gauge g).state ≠ .outputFault ∧ (t.gauge g).cfg = (s.gauge g).cfg) ∧
        t.inputs = s.inputs ∧ t.supply = s.supply ∧ t.bank.meas = s.bank.meas ∧ t.report.mask = s.report.mask ∧
        Consistent t) ∧
    (s.op.state = .limp →
      ∃ t, exec .stop s = .next t ∧ t.op = { s.op with silenceCount := 0, limpLighting := false } ∧
        t.link = linkAfter s rest 0x11 .ok [] ∧ (∀ ch, (t.lamp ch).state ≠ .lockedOut) ∧
        (∀ ch, (s.lamp ch).state = .lockedOut →
          (t.lamp ch).retriesUsed = 0 ∧ (t.lamp ch).onTime = 0 ∧ (t.lamp ch).cfg = (s.lamp ch).cfg) ∧
        (∀ ch, (s.lamp ch).state ≠ .lockedOut → LampKept (s.lamp ch) (t.lamp ch)) ∧
        t.report = s.report ∧ t.inputs = s.inputs ∧ t.supply = s.supply ∧ t.resolver.scenes = s.resolver.scenes ∧
        Consistent t)

/-- R151, R154, R156: SLEEP in PARK sets sleep_requested and makes the state WATCH, with STATE raised; WAKE in WATCH, and a falling
edge of RX in SLEEP with no window open, clear it and make the state PARK, with WOKEN and then STATE raised and the silence timer
at 0. After the edge the receiver is paused. Beyond that only the settling of the cause acts. That a wake by WAKE or RX gives PARK also
where the level of IGN is asserted already is the model's reading (DEDUCED, log entry 43: R154 and R156 give PARK, the opening of
section 8.5 DRIVE there). -/
def Obligations.SleepRequestsAndWakesToPark : Prop :=
  (∀ (s : State) (rest : List Frame), Takes s 0x12 [] rest → s.op.state = .park →
    ∃ t, exec .sleep s = .next t ∧ t.op = { s.op with state := .watch, sleepRequested := true } ∧
      t.link = linkAfter s rest 0x12 .ok [] ∧ t.report = (s.raise .state 0 3).report ∧
      SettleKeeps { s with op := t.op, link := t.link, report := t.report } t ∧ Consistent t) ∧
  (∀ (s : State) (rest : List Frame), Takes s 0x13 [] rest → s.op.state = .watch →
    ∃ t, exec .wake s = .next t ∧ t.op = { s.op with state := .park, sleepRequested := false, silenceTimer := 0 } ∧
      t.link = linkAfter s rest 0x13 .ok [] ∧ t.report = ((s.raise .woken 0 3).raise .state 0 2).report ∧
      SettleKeeps { s with op := t.op, link := t.link, report := t.report } t ∧ Consistent t) ∧
  (∀ s : State, s.op.resetHeld = false → s.op.state = .sleep → s.op.window = none →
    ∃ t, exec .rxWake s = .next t ∧
      t.op = { s.op with state := .park, sleepRequested := false, silenceTimer := 0 } ∧
      t.link = { s.link with receiverPaused := true } ∧
      t.report = ((s.raise .woken 0 4).raise .state 0 2).report ∧
      SettleKeeps
        { s with op := t.op, link := t.link, report := t.report,
                 bank := { s.bank with intervalOpen := false, averagesReady := false } } t ∧
      Consistent t)

/-- R150: RESTART is answered OK in every state. In every state in which a RESTART stands taken no frame is taken, every command
but RESET_RELEASE leaves it standing and takes no frame out of the inbound queue, and RESTART_RESET resets the part with cause
RESTART once both stages of the transmitter are empty, and not before. That RESTART_RESET changes nothing but the hold and the
cause, and that the part is held from there until RESET_RELEASE, is the model's choice (DESIGN CHOICE, log entry 23). -/
def Obligations.RestartStopsTheTaking : Prop :=
  (∀ (s : State) (rest : List Frame), Takes s 0x14 [] rest →
    exec .restart s = .next { s with link := { linkAfter s rest 0x14 .ok [] with restartTaken := true } }) ∧
  (∀ s : State, s.link.restartTaken = true →
    (∀ k, exec (requestOf k) s = .next s) ∧ exec .unknownKind s = .next s ∧
    (s.op.resetHeld = false → s.link.shifting = none → s.link.waiting = none →
      exec .restartReset s = .next
        { s with
          op := { s.op with resetHeld := true }
          report := { s.report with causes := { s.report.causes with restart := true } } }) ∧
    (s.link.shifting ≠ none ∨ s.link.waiting ≠ none → exec .restartReset s = .next s)) ∧
  (∀ (c : Instr) (s t : State), s.link.restartTaken = true → (∀ polOpen, c ≠ .resetRelease polOpen) → exec c s = .next t →
    t.link.restartTaken = true ∧ s.link.inbound <+: t.link.inbound)

/-! ### Operational requests -/

/-- R44, R43, R46: FNSET stores the base demand under its clamps, resolves and hands on, and answers with the stored and the
resolved value; HELD comes before CLAMPED before OK. Unknown codes and protected functions are refused and change nothing. -/
def Obligations.FnsetStoresAndResolves : Prop :=
  ∀ (s : State) (rest : List Frame) (c v : Byte), Takes s 0x20 [c, v] rest → s.op.state ≠ .limp →
    (∀ f, Fn.ofCode c.toNat = some f → f.hostProtected = false →
      ∃ t base, exec .fnset s = .next t ∧
        base = (if f = .fan then min 4 v.toNat else if f.dimmable then min 100 v.toNat
                else if v.toNat = 0 then 0 else 100) ∧
        (t.fnRec f).base = base ∧
        t.link = linkAfter s rest 0x20
          (if (t.fnRec f).resolved < t.openValue f ∨ (t.supply.hold = true ∧ (t.fnRec f).resolved ≠ 0) then .held
           else if base ≠ v.toNat then .clamped else .ok) (b1 base ++ b1 (t.fnRec f).resolved) ∧
        SettleKeeps { s.setBase f base with link := t.link } t ∧ Consistent t) ∧
    (Fn.ofCode c.toNat = none → exec .fnset s = .next { s with link := linkAfter s rest 0x20 .badValue [] }) ∧
    (∀ f, Fn.ofCode c.toNat = some f → f.hostProtected = true →
      exec .fnset s = .next { s with link := linkAfter s rest 0x20 .isProtected [] })

/-- R45, R46: FNMULTI stores one to six base demands of distinct unprotected functions together under the clamps of R44, and
answers with the stored values in payload order; every other base demand is kept. The pairs are checked in payload order, and the
first that fails decides the refusal: PROTECTED for a protected function, BAD_VALUE for an unknown code and for a function that
an earlier pair names. A refused request changes nothing. -/
def Obligations.FnmultiStoresTogether : Prop :=
  (∀ (s : State) (rest : List Frame) (ps : List (Fn × Byte)),
    Takes s 0x21 (ps.flatMap (fun x => [BitVec.ofNat 8 x.1.code.val, x.2])) rest → s.op.state ≠ .limp →
    ps ≠ [] → ps.length ≤ 6 → (ps.map (·.1)).Nodup → (∀ x ∈ ps, x.1.hostProtected = false) →
    ∃ t, exec .fnmulti s = .next t ∧
      (∀ x ∈ ps, (t.fnRec x.1).base = storedDemand x.1 x.2.toNat) ∧
      (∀ f, f ∉ ps.map (·.1) → (t.fnRec f).base = (s.fnRec f).base) ∧
      t.link = linkAfter s rest 0x21
        (if ∃ x ∈ ps, (t.fnRec x.1).resolved < t.openValue x.1 ∨ (t.supply.hold = true ∧ (t.fnRec x.1).resolved ≠ 0) then .held
         else if ∃ x ∈ ps, storedDemand x.1 x.2.toNat ≠ x.2.toNat then .clamped else .ok)
        (ps.flatMap (fun x => b1 (storedDemand x.1 x.2.toNat))) ∧
      SettleKeeps { s.storeAll (ps.map (fun x => (x.1, x.2.toNat))) with link := t.link } t ∧ Consistent t) ∧
  (∀ (s : State) (rest : List Frame) (before after : List (Byte × Byte)) (c v : Byte),
    Takes s 0x21 ((before ++ (c, v) :: after).flatMap (fun x => [x.1, x.2])) rest → s.op.state ≠ .limp →
    (before ++ (c, v) :: after).length ≤ 6 →
    (∀ x ∈ before, x.1.toNat ≤ 5 ∨ (10 ≤ x.1.toNat ∧ x.1.toNat ≤ 15)) → (before.map (·.1)).Nodup →
    15 < c.toNat ∨ (6 ≤ c.toNat ∧ c.toNat ≤ 9) ∨ c ∈ before.map (·.1) →
    exec .fnmulti s = .next
      { s with link := linkAfter s rest 0x21 (if 6 ≤ c.toNat ∧ c.toNat ≤ 9 then .isProtected else .badValue) [] })

/-- R85, R86, R71, R73: TURN stores the host side request and HAZ the host hazard flag. In IDLE a side in DRIVE, or the flag in any
state, begins an ON phase at once; a phase under way goes on, and a side stored in PARK or in WATCH, or NONE, or the flag taken back,
leaves an IDLE engine in IDLE (R73). The reply is HELD for a side stored in PARK, in WATCH or while
HOLD stands, also while hazard is asserted (the model's reading of R85, DEDUCED, log entry 32), and for a flag set while HOLD
stands, with the flash report (R87): phase, active set, host side request, flags and rate, a byte each (Table 11-4). A side above 2 and a hazard value above 1 are refused BAD_VALUE and change nothing. -/
def Obligations.TurnAndHazReachTheEngine : Prop :=
  (∀ (s : State) (rest : List Frame) (b : Byte) (side : Sides), Takes s 0x22 [b] rest → s.op.state ≠ .limp →
    hostSideOf b.toNat = some side →
    ∃ t, exec .turn s = .next t ∧ t.flash.hostSide = side ∧
      t.link = linkAfter s rest 0x22
        (if side ≠ .none ∧ (s.op.state = .park ∨ s.op.state = .watch ∨ s.supply.hold = true) then .held else .ok)
        t.flash.report ∧
      (s.op.state = .drive → s.flash.phase = .idle → s.flash.hazard = false → side ≠ .none →
        t.flash.phase = .on ∧ t.flash.active = side ∧ t.flash.timer = some t.flash.half) ∧
      (s.flash.phase ≠ .idle ∨ (s.flash.hazard = false ∧ (s.op.state ≠ .drive ∨ side = .none)) →
        t.flash = { s.flash with hostSide := side }) ∧
      SettleKeeps { s.setHostSide side with link := t.link } t ∧ Consistent t) ∧
  (∀ (s : State) (rest : List Frame) (on : Bool), Takes s 0x23 [if on then 1 else 0] rest → s.op.state ≠ .limp →
    ∃ t, exec .haz s = .next t ∧ t.flash.hostHazard = on ∧
      t.link = linkAfter s rest 0x23 (if s.supply.hold = true ∧ on = true then .held else .ok) t.flash.report ∧
      (s.flash.phase = .idle → on = true → t.flash.phase = .on ∧ t.flash.active = .both ∧ t.flash.fast = false) ∧
      (s.flash.phase ≠ .idle ∨
          (on = false ∧ s.flash.hazIn = false ∧ (s.op.state ≠ .drive ∨ s.flash.hostSide = .none)) →
        t.flash = { s.flash with hostHazard := on }) ∧
      SettleKeeps { s with flash := { s.flash with hostHazard := on }, link := t.link } t ∧ Consistent t) ∧
  (∀ (s : State) (rest : List Frame) (b : Byte), s.op.state ≠ .limp →
    (Takes s 0x22 [b] rest → 2 < b.toNat → exec .turn s = .next { s with link := linkAfter s rest 0x22 .badValue [] }) ∧
    (Takes s 0x23 [b] rest → 1 < b.toNat → exec .haz s = .next { s with link := linkAfter s rest 0x23 .badValue [] })) ∧
  (∀ f : Flash,
    let sides (x : Sides) : Byte := match x with | .none => 0 | .left => 1 | .right => 2 | .both => 3
    f.report =
      [(match f.phase with | .idle => 0 | .on => 1 | .off => 2), sides f.active, sides f.hostSide,
        (if f.hostHazard then 1 else 0) + (if f.hazIn then 2 else 0) + (if f.fast then 4 else 0), BitVec.ofNat 8 f.rate])

/-- R58, R59: SCENEADD appends the scene at the newest end, a value from 1 to 99 of a non-dimmable function stored as 100, and
answers with the number of scenes held. Its checks run in their order, and the first that fails decides the refusal: FULL with four
scenes held, DUPLICATE, PROTECTED for BRAKE, IND_L, IND_R, TELLTALE, MAINTELL and FAN, then BAD_VALUE. A refused request
changes nothing. That a value above 100 is refused, as R58 says, and not clamped, as R181 says of numeric fields, is the model's
reading (DEDUCED, log entry 45). -/
def Obligations.SceneaddAppends : Prop :=
  (∀ (s : State) (rest : List Frame) (id life : Byte) (ps : List (Fn × Byte)),
    Takes s 0x24 (id :: life :: ps.flatMap (fun x => [BitVec.ofNat 8 x.1.code.val, x.2])) rest → s.op.state ≠ .limp →
    s.resolver.scenes.length < 4 → (∀ sc ∈ s.resolver.scenes, sc.id ≠ id) → id ≠ 0 → ps ≠ [] → ps.length ≤ 6 →
    (ps.map (·.1)).Nodup → (∀ x ∈ ps, x.1.sceneProtected = false ∧ x.2.toNat ≤ 100) →
    ∃ t sc, exec .sceneadd s = .next t ∧ t.resolver.scenes = s.resolver.scenes ++ [sc] ∧ sc.id = id ∧
      sc.life = (if life = 0 then none else some (100 * life.toNat)) ∧
      sc.entries = ps.map (fun x => (x.1, if x.1.dimmable then x.2.toNat else if x.2.toNat = 0 then 0 else 100)) ∧
      t.link = linkAfter s rest 0x24
        (if ∃ x ∈ ps, (t.fnRec x.1).resolved < t.openValue x.1 ∨ (t.supply.hold = true ∧ (t.fnRec x.1).resolved ≠ 0) then .held
         else if ∃ e ∈ sc.entries, ∃ x ∈ ps, e.1 = x.1 ∧ e.2 ≠ x.2.toNat then .clamped else .ok)
        (b1 (s.resolver.scenes.length + 1)) ∧
      SettleKeeps { s.setScenes t.resolver.scenes with link := t.link } t ∧ Consistent t) ∧
  (∀ (s : State) (rest : List Frame) (id life : Byte) (ps : List (Byte × Byte)),
    Takes s 0x24 (id :: life :: ps.flatMap (fun x => [x.1, x.2])) rest → s.op.state ≠ .limp → ps.length ≤ 6 →
    let refused (c : ResultCode) : State := { s with link := linkAfter s rest 0x24 c [] }
    let twin := ∃ sc ∈ s.resolver.scenes, sc.id = id
    let guarded := ∃ x ∈ ps, x.1.toNat = 5 ∨ (6 ≤ x.1.toNat ∧ x.1.toNat ≤ 9) ∨ x.1.toNat = 15
    let bad := id = 0 ∨ ps = [] ∨ (∃ x ∈ ps, 15 < x.1.toNat ∨ 100 < x.2.toNat) ∨ ¬ (ps.map (·.1)).Nodup
    (4 ≤ s.resolver.scenes.length → exec .sceneadd s = .next (refused .full)) ∧
    (s.resolver.scenes.length < 4 → twin → exec .sceneadd s = .next (refused .duplicate)) ∧
    (s.resolver.scenes.length < 4 → ¬ twin → guarded → exec .sceneadd s = .next (refused .isProtected)) ∧
    (s.resolver.scenes.length < 4 → ¬ twin → ¬ guarded → bad → exec .sceneadd s = .next (refused .badValue)))

/-- R60, R59, R153: SCENEDROP removes the scene of an id without an event, or answers UNKNOWN and changes nothing; a scene that
expires leaves with SCENE_END; one whose expiry in SLEEP gives a lamp channel a nonzero value returns the part to WATCH with STATE
(R146), where sampling begins new intervals (R156), and any other leaves it asleep. That SCENE_END stands before that STATE is the
model's choice (DESIGN CHOICE, log entry 37). -/
def Obligations.ScenesLeaveTheList : Prop :=
  (∀ (s : State) (rest : List Frame) (id : Byte), Takes s 0x25 [id] rest → s.op.state ≠ .limp →
    (hasScene s.resolver.scenes id = true →
      ∃ t, exec .scenedrop s = .next t ∧ t.resolver.scenes = s.resolver.scenes.filter (fun sc => sc.id != id) ∧
        t.link = linkAfter s rest 0x25 .ok [] ∧
        SettleKeeps { s.setScenes t.resolver.scenes with link := t.link } t ∧ Consistent t) ∧
    (hasScene s.resolver.scenes id = false →
      exec .scenedrop s = .next { s with link := linkAfter s rest 0x25 .unknown [] })) ∧
  (∀ (s : State) (id : Byte), s.op.resetHeld = false → expiringScene s.resolver.scenes id = true →
    ∃ t, exec (.sceneExpiry id) s = .next t ∧ t.resolver.scenes = s.resolver.scenes.filter (fun sc => sc.id != id) ∧
      (s.op.state ≠ .sleep →
        t.report = (s.raise .sceneEnd id.toNat 0).report ∧
        SettleKeeps { s.setScenes t.resolver.scenes with report := t.report } t ∧ Consistent t) ∧
      (s.op.state = .sleep → s.op.window = none →
        let lights := ∃ ch, ((s.setScenes t.resolver.scenes).resolveAll.wantOf ch).1 ≠ 0
        (lights →
          t.report = ((s.raise .sceneEnd id.toNat 0).raise .state 0 3).report ∧
          SettleKeeps
            { s.setScenes t.resolver.scenes with
              op := { s.op with state := .watch }
              bank := { s.bank with intervalOpen := false, averagesReady := false }
              report := t.report } t) ∧
        (¬ lights →
          t.report = (s.raise .sceneEnd id.toNat 0).report ∧
          SettleKeeps { s.setScenes t.resolver.scenes with report := t.report } t) ∧
        Consistent t))

/-- R27, R15, R24, R100, R117: FAULTCLR lifts the lockouts it names, of a lamp channel, the fan, a gauge or all of them, and leaves
every channel not locked out; an unknown channel number is refused BAD_VALUE. An engaged entry is released exactly where its
primary is lifted, and its spare goes back to its own configuration; R23: an entry that names a freed spare may then engage, lowest
first, with SUBST. In a part whose records agree every other lamp channel stays as it is but for a grant that reaches it, and so does a
fan that is not named or not locked out; a fan lifted is in STOPPED, or where its step is nonzero and HOLD does not stand in WAITING or
granted (R92, R93). A gauge not named stays as it is, but for a start of R109. That a spare engaged again joins behind the channel
cleared is the model's reading (DEDUCED, log entry 40). -/
def Obligations.FaultclrLiftsLockouts : Prop :=
  ∀ (s : State) (rest : List Frame) (b : Byte), Takes s 0x26 [b] rest → s.op.state ≠ .limp →
    (16 < b.toNat → b.toNat ≠ 255 → exec .faultclr s = .next { s with link := linkAfter s rest 0x26 .badValue [] }) ∧
    (b.toNat ≤ 16 ∨ b.toNat = 255 →
      let names (n : Nat) : Prop := n = b.toNat ∨ b.toNat = 255
      let lifted (ch : LampId) : Prop := names ch.val ∧ (s.lamp ch).state = .lockedOut
      let freed (q : LampId) : Prop :=
        ∃ e p, (s.subEntry e).engaged = true ∧ (s.subEntry e).pair = some (p, q) ∧ lifted p
      ∃ t, exec .faultclr s = .next t ∧ t.link = linkAfter s rest 0x26 .ok [] ∧
        t.report = (substRaised s t s).report ∧
        (∀ ch, lifted ch → (t.lamp ch).state ≠ .lockedOut ∧ (t.lamp ch).retriesUsed = 0 ∧ (t.lamp ch).onTime = 0) ∧
        (∀ ch, ¬ lifted ch → ¬ freed ch → (∀ e p, ¬ Engages s t e p ch) → LampKept (s.lamp ch) (t.lamp ch)) ∧
        (∀ e, (t.subEntry e).pair = (s.subEntry e).pair) ∧
        (∀ e p q, (s.subEntry e).engaged = true → (s.subEntry e).pair = some (p, q) →
          ((t.subEntry e).engaged = false ↔ lifted p)) ∧
        (∀ q, freed q → (t.lamp q).state ≠ .lockedOut ∧ (t.lamp q).retriesUsed = 0 ∧ (t.lamp q).onTime = 0 ∧
          ((∀ e p, ¬ Engages s t e p q) → (t.lamp q).substituteFor = none ∧ (t.lamp q).setAside = none ∧
            (t.lamp q).cfg = (s.lamp q).setAside.getD (s.lamp q).cfg)) ∧
        (∀ e p q, Engages s t e p q → lifted q ∨ freed q) ∧ (SubstitutionOk s → Engagements s t) ∧
        (∀ e p q, (t.subEntry e).pair = some (p, q) → (t.lamp p).state = .lockedOut → lifted q ∨ freed q →
          ∃ e' p', (t.subEntry e').engaged = true ∧ (t.subEntry e').pair = some (p', q)) ∧
        (names 14 → s.fan.state = .lockedOut → t.fan.state ≠ .lockedOut ∧ t.fan.retriesUsed = 0) ∧
        (¬ names 14 ∨ s.fan.state ≠ .lockedOut →
          (t.fan.state = .lockedOut ↔ s.fan.state = .lockedOut) ∧ t.fan.retriesUsed = s.fan.retriesUsed) ∧
        t.fan.settings = s.fan.settings ∧
        (Consistent s → LampsOk s → FollowsOk s → FlashOk s → SubstitutionOk s →
          let cleared : Fan :=
            { s.fan with
              state := .stopped, applied := 0, kickTimer := none, rampTimer := none, stallTimer := 0, waitTimer := none,
              runningTime := 0, granted := false, retriesUsed := 0 }
          let waits : Fan := { cleared with state := .waiting }
          (∀ ch, ¬ lifted ch → ¬ freed ch → (∀ e p, ¬ Engages s t e p ch) →
            t.lamp ch = s.lamp ch ∨ ((s.lamp ch).state = .queued ∧ t.lamp ch = (s.lamp ch).enterInrush true)) ∧
          (¬ names 14 ∨ s.fan.state ≠ .lockedOut →
            t.fan = s.fan ∨ (s.fan.state = .waiting ∧ t.fan = s.fan.takeGrant)) ∧
          (names 14 → s.fan.state = .lockedOut →
            if s.fan.step = 0 ∨ s.supply.hold = true then t.fan = cleared else t.fan = waits ∨ t.fan = waits.takeGrant)) ∧
        (∀ g : GaugeId, names (15 + g.val) → (s.gauge g).state = .outputFault →
          GaugeKept { s.gauge g with state := .off } (t.gauge g)) ∧
        (∀ g : GaugeId, ¬ names (15 + g.val) ∨ (s.gauge g).state ≠ .outputFault → GaugeKept (s.gauge g) (t.gauge g)) ∧
        t.op = s.op ∧ t.inputs = s.inputs ∧ t.supply = s.supply ∧ t.bank.meas = s.bank.meas ∧
        t.resolver.scenes = s.resolver.scenes ∧ (∀ f, (t.fnRec f).base = (s.fnRec f).base) ∧ Consistent t)

/-- R119: GAUGETEST in DRIVE without HOLD, with no test running and a gauge in RUN, places every gauge in RUN in TEST at step 0
with its short count at 0 (R116) and answers with the gauges placed; it is refused NOT_READY, BUSY or BAD_VALUE otherwise and then
changes nothing. -/
def Obligations.GaugetestBeginsTheTest : Prop :=
  ∀ (s : State) (rest : List Frame), Takes s 0x27 [] rest →
    (s.op.state ≠ .drive ∨ s.supply.hold = true → exec .gaugetest s = .next { s with link := linkAfter s rest 0x27 .notReady [] }) ∧
    (s.op.state = .drive → s.supply.hold = false → (∃ g, (s.gauge g).state = .test) →
      exec .gaugetest s = .next { s with link := linkAfter s rest 0x27 .busy [] }) ∧
    (s.op.state = .drive → s.supply.hold = false → (∀ g, (s.gauge g).state ≠ .test) → (∀ g, (s.gauge g).state ≠ .run) →
      exec .gaugetest s = .next { s with link := linkAfter s rest 0x27 .badValue [] }) ∧
    (s.op.state = .drive → s.supply.hold = false → (∀ g, (s.gauge g).state ≠ .test) → (∃ g, (s.gauge g).state = .run) →
      ∃ t, exec .gaugetest s = .next t ∧
        (∀ g, t.gauge g = if (s.gauge g).state = .run then { s.gauge g with state := .test, shortCount := 0 } else s.gauge g) ∧
        t.gauges.testStep = 0 ∧ t = { s with gauges := t.gauges, link := t.link } ∧
        t.link = linkAfter s rest 0x27 .ok
          (b1 (flagBits [decide ((s.gauge 0).state = .run), decide ((s.gauge 1).state = .run)])))

/-! ### Read requests -/

/-- R26, R47, R61, R105, R124, R141, Tables 11-4 and 11-6 to 11-8: the six reads are answered OK with their data, spelled here byte by
byte, refuse BAD_VALUE what their rules refuse, and change no record but the link's. That FNREAD of TELLTALE answers 100 in an ON
phase also where no channel serves it is the model's reading (DEDUCED, log entry 34). -/
def Obligations.ReadsChangeNoRecord : Prop :=
  (∀ (s : State) (rest : List Frame) (b : Byte), Takes s 0x30 [b] rest →
    let answered (d : List Byte) : Prop :=
      exec .chread s = .next { s with link := linkAfter s rest 0x30 .ok d } ∧ d.length = 23
    let other (state duty last average retries : Nat) : List Byte :=
      b1 b.toNat ++ List.replicate 11 0 ++ b1 state ++ [0] ++ b2 duty ++ [0] ++ b2 last ++ b2 average ++ b1 retries ++ [255]
    (∀ ch : LampId, b.toNat = ch.val →
      let c := s.lamp ch
      let m := s.measOf (lampChan ch)
      let duty :=
        if s.supply.hold = true ∨ c.demand = 0 ∨ (c.state ≠ .inrush ∧ c.state ≠ .on) then 0
        else if 4 ≤ ch.val ∧ s.serving ch ∈ [some .panel, some .interior, some .aux1, some .aux2, some .aux3] then c.demand
        else 100
      answered
        (b1 ch.val ++ b1 ((c.cfg.fn.map (·.code.val)).getD 255) ++ b1 (flagBits [c.cfg.stopTurn, c.lampOut, c.fed]) ++
          b2 c.cfg.nominal ++ b1 c.cfg.lampOutPct ++ b2 c.cfg.tripPct ++ b2 c.cfg.inrushMs ++ b1 c.cfg.retryLimit ++
          b1 (((s.serving ch).map (·.code.val)).getD 255) ++ b1 c.state.code ++ b1 c.demand ++ b2 duty ++
          b1 c.offReason.code ++ b2 m.last ++ b2 m.average ++ b1 c.retriesUsed ++
          b1 ((c.substituteFor.map (·.val)).getD 255))) ∧
    (b = 14 → answered
      (other s.fan.state.code s.fan.applied (s.measOf 14).last (s.measOf 14).average s.fan.retriesUsed)) ∧
    (b = 15 → answered (other (s.gauge 0).state.code (s.gauge 0).d (s.measOf 15).last (s.measOf 15).average 0)) ∧
    (b = 16 → answered (other (s.gauge 1).state.code (s.gauge 1).d (s.measOf 16).last (s.measOf 16).average 0)) ∧
    (16 < b.toNat → exec .chread s = .next { s with link := linkAfter s rest 0x30 .badValue [] })) ∧
  (∀ (s : State) (rest : List Frame) (b : Byte), Takes s 0x31 [b] rest →
    (∀ f, Fn.ofCode b.toNat = some f →
      let r := s.fnRec f
      let k := s.resolver.courtesy
      let value :=
        if f = .telltale then (if s.flash.phase = .on then 100 else 0)
        else if f = .indL then
          (if s.flash.phase = .on ∧ (s.flash.active = .left ∨ s.flash.active = .both) then 100 else 0)
        else if f = .indR then
          (if s.flash.phase = .on ∧ (s.flash.active = .right ∨ s.flash.active = .both) then 100 else 0)
        else r.resolved
      let reason : Reason :=
        if f ∈ [.indL, .indR, .telltale] then (if s.supply.hold then .hold else .none) else r.reason
      let list := if f = .fan then [14] else ((List.finRange 14).filter (fun ch => s.serving ch = some f)).map (·.val)
      let d :=
        b1 r.cls ++ b1 (flagBits [r.ignitionFed, decide (f = .interior) && k.enable]) ++ b1 r.base ++ b1 value ++
          b1 reason.code ++ b1 list.length ++ (list ++ List.replicate (14 - list.length) 255).flatMap b1 ++
          (if f = .interior then b1 k.holdS ++ b1 k.phase.code ++ b1 k.level else [0, 0, 0])
      exec .fnread s = .next { s with link := linkAfter s rest 0x31 .ok d } ∧ d.length = 23) ∧
    (15 < b.toNat → exec .fnread s = .next { s with link := linkAfter s rest 0x31 .badValue [] })) ∧
  (∀ (s : State) (rest : List Frame) (b : Byte), Takes s 0x32 [b] rest →
    (∀ sc, s.resolver.scenes[b.toNat]? = some sc →
      let d :=
        b1 s.resolver.scenes.length ++ [sc.id] ++ b1 ((sc.life.getD 0 + 99) / 100) ++
          sc.entries.flatMap (fun e => b1 e.1.code.val ++ b1 e.2)
      exec .sceneread s = .next { s with link := linkAfter s rest 0x32 .ok d }) ∧
    (s.resolver.scenes.length ≤ b.toNat →
      exec .sceneread s = .next { s with link := linkAfter s rest 0x32 .ok (b1 s.resolver.scenes.length) })) ∧
  (∀ (s : State) (rest : List Frame) (b : Byte), Takes s 0x33 [b] rest →
    let x := s.supply
    let w := 4096 * min 4095 x.settings.t1 + min 4095 x.settings.t2
    let state :=
      b2 x.vs ++ b2 x.chg ++ b1 (flagBits [x.charging, x.hold]) ++ b4 x.iTotal ++ b4 x.account ++ b1 x.la ++ b1 x.lv ++
        b1 x.l ++ b2 x.latest
    let settings :=
      b1 (if x.settings.system = .v12 then 12 else 6) ++ b2 x.settings.dynamo ++
        [BitVec.ofNat 8 (w / 65536), BitVec.ofNat 8 (w / 256), BitVec.ofNat 8 w] ++ b2 x.settings.t3 ++ b1 x.settings.h ++
        b2 x.settings.vlow1 ++ b2 x.settings.vlow2 ++ b2 x.settings.vover ++ b2 x.settings.vrelease ++
        b2 x.settings.chargeThreshold ++ b4 (36000 * x.settings.t3 + 1800000)
    (b = 0 → exec .supplyread s = .next { s with link := linkAfter s rest 0x33 .ok state } ∧ state.length = 18) ∧
    (b = 1 → exec .supplyread s = .next { s with link := linkAfter s rest 0x33 .ok settings } ∧ settings.length = 23) ∧
    (1 < b.toNat → exec .supplyread s = .next { s with link := linkAfter s rest 0x33 .badValue [] })) ∧
  (∀ (s : State) (rest : List Frame) (b : Byte), Takes s 0x34 [b] rest →
    let f := s.fan
    let state :=
      b1 f.state.code ++ b1 f.step ++ b2 f.target ++ b2 f.applied ++ b2 f.stallTimer ++ b2 (f.waitTimer.getD 0) ++
        b2 f.runningTime ++ b1 f.retriesUsed ++ b1 (if f.granted then 1 else 0) ++ b2 (s.measOf 14).last ++
        b2 (s.measOf 14).average
    let settings :=
      b2 f.settings.duty1 ++ b2 f.settings.duty2 ++ b2 f.settings.duty3 ++ b2 f.settings.duty4 ++ b2 f.settings.kickTime ++
        b2 f.settings.slew ++ b2 f.settings.stallCurrent ++ b2 f.settings.stallTime ++ b1 f.settings.retryLimit
    (b = 0 → exec .fanread s = .next { s with link := linkAfter s rest 0x34 .ok state } ∧ state.length = 18) ∧
    (b = 1 → exec .fanread s = .next { s with link := linkAfter s rest 0x34 .ok settings } ∧ settings.length = 17) ∧
    (1 < b.toNat → exec .fanread s = .next { s with link := linkAfter s rest 0x34 .badValue [] })) ∧
  (∀ (s : State) (rest : List Frame) (a v : Byte), Takes s 0x35 [a, v] rest →
    (∀ g : GaugeId, a.toNat = g.val →
      let x := s.gauge g
      let c := x.cfg
      let answered (d : List Byte) : Prop := exec .gaugeread s = .next { s with link := linkAfter s rest 0x35 .ok d }
      let points (l : List Point) : List Byte := l.flatMap (fun q => b2 q.ohms ++ b2 q.position)
      let runtime :=
        b1 x.state.code ++ b2 x.code ++ b2 (x.resistance.getD 65535) ++ b2 (x.lastGood.getD 65535) ++ b2 x.target ++
          b2 x.f ++ b2 x.p ++ b2 x.d ++ b1 x.sender.code ++ b1 x.limit.code ++ b1 s.gauges.testStep
      let settings :=
        b1 (if c.enabled then 1 else 0) ++ b2 c.rp ++ b2 c.k ++ b2 c.dfs ++ b2 c.vref ++ b1 c.faultAction.code ++
          b1 (s.senseModeOf g).code
      (v = 0 → answered runtime ∧ runtime.length = 18) ∧ (v = 1 → answered settings ∧ settings.length = 11) ∧
      (v = 2 → answered (b1 c.curve.length ++ points (c.curve.take 4))) ∧
      (v = 3 → answered (b1 c.curve.length ++ points (c.curve.drop 4)))) ∧
    (1 < a.toNat ∨ 3 < v.toNat → exec .gaugeread s = .next { s with link := linkAfter s rest 0x35 .badValue [] }))

/-! ### Configuration requests -/

/-- R25: CHCFG in LIMP stores every field, each number clamped into the range of its kind, echoes them, and changes nothing else;
a channel above 13, an unknown function, DIP or MAIN on a LIGHT channel, or stop_turn without IND_L or IND_R is refused
BAD_VALUE. -/
def Obligations.ChcfgStoresTheChannel : Prop :=
  (∀ (s : State) (rest : List Frame) (p : List Byte) (ch : LampId), Takes s 0x40 p rest → p.length = 11 →
    s.op.state = .limp → u8 p 0 = ch.val →
    let bad := (14 < u8 p 1 ∧ u8 p 1 ≠ 255) ∨ ((u8 p 1 = 1 ∨ u8 p 1 = 2) ∧ 4 ≤ ch.val) ∨
      (u8 p 2 ≠ 0 ∧ u8 p 1 ≠ 6 ∧ u8 p 1 ≠ 7)
    let lo := if ch.val < 4 then 500 else 100
    let hi := if ch.val < 4 then 12000 else 5000
    let c : LampCfg :=
      { fn := Fn.ofCode (u8 p 1), stopTurn := u8 p 2 != 0, nominal := max lo (min hi (u16 p 3)),
        lampOutPct := max 20 (min 80 (u8 p 5)), tripPct := max 120 (min 300 (u16 p 6)),
        inrushMs := max 20 (min 500 (u16 p 8)), retryLimit := min 7 (u8 p 10) }
    (bad → exec .chcfg s = .next { s with link := linkAfter s rest 0x40 .badValue [] }) ∧
    (¬ bad → exec .chcfg s = .next
      { s.setLamp ch { s.lamp ch with cfg := c } with
        link := linkAfter s rest 0x40
          (if c.nominal = u16 p 3 ∧ c.lampOutPct = u8 p 5 ∧ c.tripPct = u16 p 6 ∧ c.inrushMs = u16 p 8 ∧
              c.retryLimit = u8 p 10 then .ok else .clamped)
          (b1 ch.val ++ fnField c.fn ++ b1 (yesNo c.stopTurn) ++ b2 c.nominal ++ b1 c.lampOutPct ++ b2 c.tripPct ++
            b2 c.inrushMs ++ b1 c.retryLimit) })) ∧
  (∀ (s : State) (rest : List Frame) (p : List Byte), Takes s 0x40 p rest → p.length = 11 → s.op.state = .limp →
    13 < u8 p 0 → exec .chcfg s = .next { s with link := linkAfter s rest 0x40 .badValue [] })

/-- R22: SUBCFG in LIMP writes an entry, engaged no; an empty entry always succeeds; an entry above 2, a channel above 13, and a pair
whose spare is configured, cannot carry the primary, or chains with another entry are refused BAD_VALUE. Nothing else changes. The
echo 0xFF 0xFF of an empty entry, and counting the entry being written among those a pair may chain with, are the model's
reading (DEDUCED, log entry 11). -/
def Obligations.SubcfgWritesAnEntry : Prop :=
  (∀ (s : State) (rest : List Frame) (e : Fin 3) (a b : Byte), Takes s 0x41 [BitVec.ofNat 8 e.val, a, b] rest →
    s.op.state = .limp →
    (a = 255 → ∃ t, exec .subcfg s = .next t ∧ t.link = linkAfter s rest 0x41 .ok [BitVec.ofNat 8 e.val, 255, 255] ∧
      t = { s.setSub e { pair := none, engaged := false } with link := t.link }) ∧
    (∀ p q : LampId, a.toNat = p.val → b.toNat = q.val →
      let good := p ≠ q ∧ (s.lamp q).cfg.fn = none ∧ (isHeavy p = true → isHeavy q = true) ∧
        ∀ e' p' q', (s.subEntry e').pair = some (p', q') → (e' ≠ e → p' ≠ p) ∧ p' ≠ q ∧ q' ≠ p
      (good → exec .subcfg s = .next
        { s.setSub e { pair := some (p, q), engaged := false } with
          link := linkAfter s rest 0x41 .ok [BitVec.ofNat 8 e.val, a, b] }) ∧
      (¬ good → exec .subcfg s = .next { s with link := linkAfter s rest 0x41 .badValue [] })) ∧
    (a ≠ 255 → 13 < a.toNat ∨ 13 < b.toNat → exec .subcfg s = .next { s with link := linkAfter s rest 0x41 .badValue [] })) ∧
  (∀ (s : State) (rest : List Frame) (x a b : Byte), Takes s 0x41 [x, a, b] rest → s.op.state = .limp → 2 < x.toNat →
    exec .subcfg s = .next { s with link := linkAfter s rest 0x41 .badValue [] })

/-- R42: FNCFG in LIMP stores the class up to 3, ignition_fed except for FAN, and the courtesy settings for INTERIOR; the reply is
CLAMPED where a field differs from what the request gave; that a yes/no byte counts as given when both are yes or both no, and
that the courtesy fields of another function count as given where they are 0, is the model's reading (DEDUCED, log entry 12).
Functions whose attributes are fixed are refused PROTECTED. Nothing else changes. -/
def Obligations.FncfgStoresAttributes : Prop :=
  ∀ (s : State) (rest : List Frame) (p : List Byte), Takes s 0x42 p rest → p.length = 5 → s.op.state = .limp →
    (∀ f, Fn.ofCode (u8 p 0) = some f →
      (f = .fog ∨ f = .panel ∨ f = .interior ∨ f = .aux1 ∨ f = .aux2 ∨ f = .aux3 ∨ f = .fan) →
      ∃ t code data, exec .fncfg s = .next t ∧ t.link = linkAfter s rest 0x42 code data ∧
        t.fnRec f = { s.fnRec f with cls := min 3 (u8 p 1),
                                     ignitionFed := if f = .fan then (s.fnRec f).ignitionFed else u8 p 2 != 0 } ∧
        t.resolver.courtesy = (if f = .interior then
          { s.resolver.courtesy with enable := u8 p 3 != 0, holdS := min 60 (u8 p 4) } else s.resolver.courtesy) ∧
        data = b1 f.code.val ++ b1 (t.fnRec f).cls ++ b1 (yesNo (t.fnRec f).ignitionFed) ++
          (if f = .interior then b1 (yesNo t.resolver.courtesy.enable) ++ b1 t.resolver.courtesy.holdS else [0, 0]) ∧
        t = { s.setFn f (t.fnRec f) with
              resolver := { (s.setFn f (t.fnRec f)).resolver with courtesy := t.resolver.courtesy }, link := t.link } ∧
        code = (if u8 p 1 ≤ 3 ∧ ((t.fnRec f).ignitionFed = true ↔ u8 p 2 ≠ 0) ∧
            (if f = .interior then u8 p 4 ≤ 60 else u8 p 3 = 0 ∧ u8 p 4 = 0) then .ok else .clamped)) ∧
    (∀ f ∈ [Fn.side, .dip, .main, .reverse, .brake, .indL, .indR, .telltale, .maintell],
      Fn.ofCode (u8 p 0) = some f → exec .fncfg s = .next { s with link := linkAfter s rest 0x42 .isProtected [] }) ∧
    (15 < u8 p 0 → exec .fncfg s = .next { s with link := linkAfter s rest 0x42 .badValue [] })

/-- R70, R158: FLASHCFG in LIMP stores the rate within 60 to 120, and LINKCFG the link timeout: 0 for off, 1 to 4 as 5, above 100 as
100; CLAMPED where the stored value differs, LOCKED outside LIMP. Each is kept through every other command and is 90 and 20
after every reset. A phase under way keeps its half-period, and the next ON start uses the rate. -/
def Obligations.FlashRateAndLinkTimeoutAreStored : Prop :=
  (∀ (s : State) (rest : List Frame) (b : Byte), Takes s 0x43 [b] rest →
    let r := if b.toNat < 60 then 60 else if 120 < b.toNat then 120 else b.toNat
    (s.op.state = .limp → exec .flashcfg s = .next
      { s with
        flash := { s.flash with rate := r }
        link := linkAfter s rest 0x43 (if r = b.toNat then .ok else .clamped)
          (b1 r ++ b2 (10 * (3000 / r)) ++ b2 (10 * (1500 / r))) }) ∧
    (s.op.state ≠ .limp → exec .flashcfg s = .next { s with link := linkAfter s rest 0x43 .locked [] })) ∧
  (∀ (s : State) (rest : List Frame) (b : Byte), Takes s 0x49 [b] rest →
    let v := if b.toNat = 0 then 0 else if b.toNat < 5 then 5 else if 100 < b.toNat then 100 else b.toNat
    (s.op.state = .limp → exec .linkcfg s = .next
      { s with
        op := { s.op with linkTimeout := v }
        link := linkAfter s rest 0x49 (if v = b.toNat then .ok else .clamped) (b1 v) }) ∧
    (s.op.state ≠ .limp → exec .linkcfg s = .next { s with link := linkAfter s rest 0x49 .locked [] })) ∧
  (∀ (c : Instr) (s t : State), exec c s = .next t → (∀ polOpen, c ≠ .resetRelease polOpen) →
    (c ≠ .flashcfg → t.flash.rate = s.flash.rate) ∧ (c ≠ .linkcfg → t.op.linkTimeout = s.op.linkTimeout) ∧
      (s.flash.phase ≠ .on → t.flash.phase = .on →
        t.flash.half = if t.flash.fast then 10 * (1500 / s.flash.rate) else 10 * (3000 / s.flash.rate))) ∧
  (∀ (s : State) (polOpen : Bool), (s.afterReset polOpen).flash.rate = 90 ∧ (s.afterReset polOpen).op.linkTimeout = 20)

/-- R104, R122: FANCFG and GAUGECFG in LIMP store every number clamped into the range of its table and echo what was stored,
CLAMPED where one was clamped; an unknown gauge or fault_action is refused BAD_VALUE. Nothing else changes. -/
def Obligations.FanAndGaugeSettingsAreStored : Prop :=
  (∀ (s : State) (rest : List Frame) (p : List Byte), Takes s 0x44 p rest → p.length = 17 → s.op.state = .limp →
    let x : FanSettings :=
      { duty1 := max 100 (min 1000 (u16 p 0)), duty2 := max 100 (min 1000 (u16 p 2)),
        duty3 := max 100 (min 1000 (u16 p 4)), duty4 := max 100 (min 1000 (u16 p 6)), kickTime := min 1000 (u16 p 8),
        slew := max 10 (min 1000 (u16 p 10)), stallCurrent := max 1000 (min 20000 (u16 p 12)),
        stallTime := max 100 (min 2000 (u16 p 14)), retryLimit := min 7 (u8 p 16) }
    ∃ code, exec .fancfg s = .next
      { s with fan := { s.fan with settings := x }, link := linkAfter s rest 0x44 code x.data } ∧
      (x.data = p → code = .ok) ∧ (x.data ≠ p → code = .clamped)) ∧
  (∀ (s : State) (rest : List Frame) (p : List Byte), Takes s 0x45 p rest → p.length = 11 → s.op.state = .limp →
    (∀ (g : GaugeId) (act : FaultAction), u8 p 0 = g.val → faultActionOf (u8 p 10) = some act →
      let c : GaugeCfg :=
        { (s.gauge g).cfg with
          enabled := u8 p 1 != 0, rp := max 100 (min 2000 (u16 p 2)), k := max 1 (min 256 (u16 p 4)),
          dfs := max 1 (min 1000 (u16 p 6)), vref := max 3000 (min 16000 (u16 p 8)), faultAction := act }
      exec .gaugecfg s = .next
        { s.setGauge g { s.gauge g with cfg := c } with
          link := linkAfter s rest 0x45
            (if c.rp = u16 p 2 ∧ c.k = u16 p 4 ∧ c.dfs = u16 p 6 ∧ c.vref = u16 p 8 then .ok else .clamped)
            (b1 g.val ++ c.data) }) ∧
    (1 < u8 p 0 ∨ 1 < u8 p 10 → exec .gaugecfg s = .next { s with link := linkAfter s rest 0x45 .badValue [] }))

/-- R123: CURVECFG in LIMP stores a whole curve of two to four points at once; of a longer curve the first part of four points waits
and the second, above it, puts the whole curve in force; points are stored clamped. Points that do not ascend, a gauge above 1, a
count outside 2 to 8, a first index other than 1 and 5, a number of points other than the part needs, and a second part that
fits no first one are refused BAD_VALUE. Nothing else changes. That a count outside 2 to 8 is refused, as R123 says, and not clamped, as
R181 says of numeric fields, is the model's reading (DEDUCED, log entry 45). -/
def Obligations.CurvesAreStoredWhole : Prop :=
  (∀ (s : State) (rest : List Frame) (g : GaugeId) (n first : Nat) (pts : List Point) (body : List Byte),
    Takes s 0x46 (BitVec.ofNat 8 g.val :: BitVec.ofNat 8 n :: BitVec.ofNat 8 first :: body) rest → s.op.state = .limp →
    body.length = 4 * pts.length → pointsOf body = pts →
    let stored := pts.map (fun x => { ohms := min 9999 x.ohms, position := min 1000 x.position : Point })
    let ascends := stored.Pairwise (fun a b => a.ohms < b.ohms)
    let answer (x : Gauge) (awaited : Nat) : State :=
      { s.setGauge g x with
        link := linkAfter s rest 0x46 (if stored = pts then .ok else .clamped)
          (b1 g.val ++ b1 n ++ b1 awaited ++ stored.flatMap pointField) }
    let refused : State := { s with link := linkAfter s rest 0x46 .badValue [] }
    (2 ≤ n → n ≤ 4 → first = 1 → pts.length = n → ascends →
      exec .curvecfg s = .next
        (answer { s.gauge g with cfg := { (s.gauge g).cfg with curve := stored }, pendingCurve := none } 0)) ∧
    (5 ≤ n → n ≤ 8 → first = 1 → pts.length = 4 → ascends →
      exec .curvecfg s = .next (answer { s.gauge g with pendingCurve := some (n, stored) } (n - 4))) ∧
    (∀ (held : List Point) (a b : Point) (more : List Point), 5 ≤ n → n ≤ 8 → first = 5 → pts.length = n - 4 → ascends →
      (s.gauge g).pendingCurve = some (n, held ++ [a]) → stored = b :: more →
      exec .curvecfg s = .next
        (if a.ohms < b.ohms then
          answer { s.gauge g with cfg := { (s.gauge g).cfg with curve := held ++ a :: stored }, pendingCurve := none } 0
        else refused)) ∧
    (1 ≤ pts.length → pts.length ≤ 4 → ¬ ascends → exec .curvecfg s = .next refused) ∧
    (1 ≤ pts.length → pts.length ≤ 4 → first = 5 → (s.gauge g).pendingCurve = none → exec .curvecfg s = .next refused)) ∧
  (∀ (s : State) (rest : List Frame) (p : List Byte), Takes s 0x46 p rest → p.length ∈ [7, 11, 15, 19] →
    s.op.state = .limp →
    let n := u8 p 1
    let first := u8 p 2
    let carried := (p.length - 3) / 4
    1 < u8 p 0 ∨ n < 2 ∨ 8 < n ∨ (first ≠ 1 ∧ first ≠ 5) ∨ (first = 1 ∧ carried ≠ min n 4) ∨
      (first = 5 ∧ carried + 4 ≠ n) ∨
      (first = 5 ∧ ∀ g : GaugeId, u8 p 0 = g.val → ((s.gauge g).pendingCurve.map (·.1)) ≠ some n) →
    exec .curvecfg s = .next { s with link := linkAfter s rest 0x46 .badValue [] })

/-- R140, Table 7-2: SUPPLYCFG in LIMP stores C, T1, T2, T3 and H clamped into their ranges and each of the five voltages clamped into
its range or, where it is given as 0, at the default of the system voltage; it resets the counts, lowers the account to the new cap,
reloads both Vrefs and echoes what it stored. An unknown system voltage or a pair out of order is refused BAD_VALUE and changes
nothing. Nothing else changes. That the answer is CLAMPED exactly where a value given as nonzero is stored differently, so that a T
or H given as 0 is OK, is the model's reading (DEDUCED, log entry 13). -/
def Obligations.SupplycfgStoresTheSettings : Prop :=
  ∀ (s : State) (rest : List Frame) (p : List Byte), Takes s 0x47 p rest → p.length = 20 → s.op.state = .limp →
    (u8 p 0 = 12 ∨ u8 p 0 = 6 →
      let within (lo hi x : Nat) : Nat := if x < lo then lo else if hi < x then hi else x
      let volts (lo hi twelve six x : Nat) : Nat :=
        if x = 0 then (if u8 p 0 = 12 then twelve else six) else within lo hi x
      let x : SupplySettings :=
        { system := if u8 p 0 = 12 then .v12 else .v6, dynamo := within 0 40000 (u16 p 1), t1 := within 1 2550 (u16 p 3),
          t2 := within 1 2550 (u16 p 5), t3 := within 1 2550 (u16 p 7), h := within 1 255 (u8 p 9),
          vlow1 := volts 4000 16000 11600 5800 (u16 p 10), vlow2 := volts 4000 16000 11000 5500 (u16 p 12),
          vover := volts 5000 20000 16000 8200 (u16 p 14), vrelease := volts 4500 19500 15000 7600 (u16 p 16),
          chargeThreshold := volts 3000 16000 12800 6400 (u16 p 18) }
      let values : List (Nat × Nat) :=
        [(u16 p 1, x.dynamo), (u16 p 3, x.t1), (u16 p 5, x.t2), (u16 p 7, x.t3), (u8 p 9, x.h), (u16 p 10, x.vlow1),
          (u16 p 12, x.vlow2), (u16 p 14, x.vover), (u16 p 16, x.vrelease), (u16 p 18, x.chargeThreshold)]
      (x.vlow2 < x.vlow1 → x.vrelease < x.vover →
        ∃ t, exec .supplycfg s = .next t ∧
          t.link = linkAfter s rest 0x47 (if ∃ v ∈ values, v.1 ≠ 0 ∧ v.2 ≠ v.1 then .clamped else .ok)
            (b1 (u8 p 0) ++ b2 x.dynamo ++ b2 x.t1 ++ b2 x.t2 ++ b2 x.t3 ++ b1 x.h ++ b2 x.vlow1 ++ b2 x.vlow2 ++
              b2 x.vover ++ b2 x.vrelease ++ b2 x.chargeThreshold) ∧
          t.supply = { s.supply with settings := x, chargeCount := 0, below1 := 0, below2 := 0, recovery := 0,
                                     releaseCount := 0, account := min s.supply.account (36000 * x.t3 + 1800000) } ∧
          (∀ g, t.gauge g =
            { s.gauge g with cfg := { (s.gauge g).cfg with vref := if u8 p 0 = 12 then 10000 else 5000 } }) ∧
          t = { s with supply := t.supply, gauges := t.gauges, link := t.link } ∧
          t.gauges.testStep = s.gauges.testStep) ∧
      (x.vlow1 ≤ x.vlow2 ∨ x.vover ≤ x.vrelease →
        exec .supplycfg s = .next { s with link := linkAfter s rest 0x47 .badValue [] })) ∧
    (u8 p 0 ≠ 6 → u8 p 0 ≠ 12 → exec .supplycfg s = .next { s with link := linkAfter s rest 0x47 .badValue [] })

/-- R145: INPUTCFG in LIMP stores the polarities and the modes, and answers with them, the earth polarity and the six debounced
levels; an input whose pin changes its mode becomes deasserted, with its count at 0 where the new mode is SWITCH; no event is raised;
an unknown code is refused BAD_VALUE. That any change of the stored polarity, DEFAULT to a setting of the same meaning too, sets the
input's count to 0 and leaves its level, and that a change to SENDER leaves the count, is the model's reading (DEDUCED, log entry
18). -/
def Obligations.InputcfgStoresPolarities : Prop :=
  ∀ (s : State) (rest : List Frame) (p : List Byte), Takes s 0x48 p rest → p.length = 8 → s.op.state = .limp →
    (∀ ps m0 m1, polaritiesOf p = some ps → senseModeOfCode (u8 p 6) = some m0 → senseModeOfCode (u8 p 7) = some m1 →
      let changes (i : InputId) : Bool :=
        (i = .sw0 ∧ m0 ≠ s.senseModeOf 0) ∨ (i = .sw1 ∧ m1 ≠ s.senseModeOf 1)
      let becomesSwitch (i : InputId) : Bool :=
        (i = .sw0 ∧ s.senseModeOf 0 = .sender ∧ m0 = .switch) ∨ (i = .sw1 ∧ s.senseModeOf 1 = .sender ∧ m1 = .switch)
      ∃ t data, exec .inputcfg s = .next t ∧ t.link = linkAfter s rest 0x48 .ok data ∧ data.length = 10 ∧
        data = p ++ [if s.inputs.earthPositive then 1 else 0] ++
          b1 (flagBits [t.level .ign, t.level .brake, t.level .haz, t.level .door, t.level .sw0, t.level .sw1]) ∧
        t = { s with inputs := t.inputs, link := t.link } ∧ t.inputs.earthPositive = s.inputs.earthPositive ∧
        t.senseModeOf 0 = m0 ∧ t.senseModeOf 1 = m1 ∧
        (∀ i, (t.inRec i).polarity = ps.get i) ∧
        (∀ i, (t.inRec i).level = (if changes i then false else (s.inRec i).level) ∧
          (t.inRec i).count =
            if ps.get i = (s.inRec i).polarity ∧ ¬ becomesSwitch i then (s.inRec i).count else 0)) ∧
    (polaritiesOf p = none ∨ 1 < u8 p 6 ∨ 1 < u8 p 7 →
      exec .inputcfg s = .next { s with link := linkAfter s rest 0x48 .badValue [] })

/-! ### Refusals that many requests share -/

/-- R166, R167, Table 9-3: a payload of a length the kind does not allow is refused BAD_LENGTH, a frame of unknown kind BAD_KIND,
a configuration request outside LIMP LOCKED, an operational request in LIMP NOT_READY; none changes anything else, and nothing
is taken while the waiting stage is full. -/
def Obligations.RefusalsChangeNothing : Prop :=
  (∀ (s : State) (rest : List Frame) (k : ReqKind) (p : List Byte), Takes s k.code p rest →
    (k.lengthOk p.length = false →
      exec (requestOf k) s = .next { s with link := linkAfter s rest k.code .badLength [] }) ∧
    (k.lengthOk p.length = true → k ∈ configKinds → s.op.state ≠ .limp →
      exec (requestOf k) s = .next { s with link := linkAfter s rest k.code .locked [] }) ∧
    (k.lengthOk p.length = true → k ∈ notReadyKinds → s.op.state = .limp →
      exec (requestOf k) s = .next { s with link := linkAfter s rest k.code .notReady [] })) ∧
  (∀ (s : State) (rest : List Frame) (b : Byte) (p : List Byte), Takes s b p rest → (∀ k : ReqKind, k.code ≠ b) →
    exec .unknownKind s = .next
      { s with
        link := { s.link with inbound := rest }.send
          { kind := if 0x80 ≤ b.toNat then 0xFF else b + 0x80, payload := [3, b] } }) ∧
  (∀ (s : State) (k : ReqKind), s.link.waiting ≠ none → exec (requestOf k) s = .next s ∧ exec .unknownKind s = .next s)

/-- R148, R149, R151, R154: in LIMP a START of which a check fails is refused BAD_VALUE with the number of the first that fails; that
START outside LIMP answers OK with the present state is the model's reading (DEDUCED, log entry 14). STOP and SLEEP are refused
IGN_ON in DRIVE; SLEEP in WATCH and WAKE in DRIVE and PARK are answered OK. None of them changes anything else. -/
def Obligations.StateRequestsWithoutEffect : Prop :=
  (∀ (s : State) (rest : List Frame), Takes s 0x10 [] rest →
    (s.op.state ≠ .limp → exec .start s = .next { s with link := linkAfter s rest 0x10 .ok (b1 s.op.state.code) }) ∧
    (∀ n ∈ [1, 2, 3, 4, 5], s.op.state = .limp → ¬ StartCheck s n →
      (∀ m ∈ [1, 2, 3, 4, 5], m < n → StartCheck s m) →
      exec .start s = .next { s with link := linkAfter s rest 0x10 .badValue (b1 n) })) ∧
  (∀ (s : State) (rest : List Frame), Takes s 0x11 [] rest → s.op.state = .drive →
    exec .stop s = .next { s with link := linkAfter s rest 0x11 .ignOn [] }) ∧
  (∀ (s : State) (rest : List Frame), Takes s 0x12 [] rest →
    (s.op.state = .drive → exec .sleep s = .next { s with link := linkAfter s rest 0x12 .ignOn [] }) ∧
    (s.op.state = .watch → exec .sleep s = .next { s with link := linkAfter s rest 0x12 .ok [] })) ∧
  (∀ (s : State) (rest : List Frame), Takes s 0x13 [] rest → s.op.state = .drive ∨ s.op.state = .park →
    exec .wake s = .next { s with link := linkAfter s rest 0x13 .ok [] })

/-! ### The body link -/

/-- R161, R162, R163: a byte with a parity or framing error sets line_error and sends the assembler to HUNT; without error it
moves the assembler as R162 gives; a length above 24 sets format_error and a wrong check byte check_error, each back to HUNT.
A gap discards the frame under assembly (R163), the last byte of a reply empties the shifting stage for the waiting reply
(R168), and the receiver starts again in HUNT (R169). Nothing else changes. R165, R150: while a RESTART stands taken a frame that is
lost sets no flag, but a byte in error in HUNT sets line_error; that the frame lost is the one under assembly, so that a damaged start
mark is such a byte in HUNT, is the model's reading (DEDUCED, log entry 38). R161, R168: TX carries the
reply in the shifting stage and then, without a gap, the one waiting, each byte as a start bit, 8 data bits with the least
significant first, a parity bit that makes the number of ones even, and a stop bit. -/
def Obligations.BytesMoveTheAssembler : Prop :=
  (∀ s : State, s.op.resetHeld = false →
    exec .gapTimeout s = .next { s with link := { s.link with assembler := .hunt } } ∧
    exec .replySent s = .next { s with link := { s.link with shifting := s.link.waiting, waiting := none } } ∧
    (s.link.receiverPaused = true →
      exec .receiverRestart s = .next { s with link := { s.link with receiverPaused := false, assembler := .hunt } })) ∧
  (∀ (s : State), s.op.resetHeld = false →
    let bits (b : Byte) : List Bool :=
      [false, b.getLsbD 0, b.getLsbD 1, b.getLsbD 2, b.getLsbD 3, b.getLsbD 4, b.getLsbD 5, b.getLsbD 6, b.getLsbD 7,
        parityBit b, true]
    (∀ b, ((bits b).drop 1 |>.take 9).count true % 2 = 0) ∧
    (∀ f, s.link.shifting = some f →
      ∃ t, exec .replySent s = .next t ∧
        s.txLine = (0xC3 :: f.lengthByte :: f.kind :: (f.payload ++ [f.checkByte])).flatMap bits ++ t.txLine) ∧
    (s.link.shifting = none → s.link.waiting = none → s.txLine = [])) ∧
  ∀ (s : State) (b : Byte), Listens s →
    (∀ parity stop, (parity ≠ parityBit b ∨ stop = false) →
      exec (.rxByte b parity stop) s = .next
        { s with link :=
          { s.link with
            assembler := .hunt
            lineError := if s.link.assembler = .hunt then true else s.link.lineError || !s.link.restartTaken } }) ∧
    (s.link.assembler = .hunt →
      exec (.rxByte b (parityBit b) true) s = .next
        { s with link := { s.link with assembler := if b = 0xC3 then .length else .hunt } }) ∧
    (s.link.assembler = .length → b.toNat ≤ 24 →
      exec (.rxByte b (parityBit b) true) s = .next { s with link := { s.link with assembler := .kind b.toNat } }) ∧
    (s.link.assembler = .length → 24 < b.toNat →
      exec (.rxByte b (parityBit b) true) s = .next
        { s with link := { s.link with assembler := .hunt, formatError := s.link.formatError || !s.link.restartTaken } }) ∧
    (∀ n, s.link.assembler = .kind n →
      exec (.rxByte b (parityBit b) true) s = .next
        { s with link := { s.link with assembler := if n = 0 then .check 0 b [] else .payload n b [] } }) ∧
    (∀ n k held, s.link.assembler = .payload n k held →
      exec (.rxByte b (parityBit b) true) s = .next
        { s with link := { s.link with assembler :=
            if held.length + 1 < n then .payload n k (held ++ [b]) else .check n k (held ++ [b]) } }) ∧
    (∀ n k held, s.link.assembler = .check n k held → byteSum (BitVec.ofNat 8 n :: k :: held ++ [b]) ≠ 0 →
      exec (.rxByte b (parityBit b) true) s = .next
        { s with link := { s.link with assembler := .hunt, checkError := s.link.checkError || !s.link.restartTaken } })

/-- R164, R157, R159: a valid frame restarts the silence timer and the silence count, clears link silence and ends limp lighting;
a queue of four frames loses it and sets overrun, except while a RESTART stands taken (R171). -/
def Obligations.AValidFrameIsHeard : Prop :=
  ∀ (s : State) (b : Byte) (n : Nat) (k : Byte) (held : List Byte), Listens s → s.link.assembler = .check n k held →
    byteSum (BitVec.ofNat 8 n :: k :: held ++ [b]) = 0 →
    ∃ t, exec (.rxByte b (parityBit b) true) s = .next t ∧
      t.op = { s.op with silenceTimer := 0, linkSilent := false, silenceCount := 0, limpLighting := false } ∧
      t.link =
        (if s.link.inbound.length < 4 then
          { s.link with assembler := .hunt, inbound := s.link.inbound ++ [{ kind := k, payload := held }] }
        else { s.link with assembler := .hunt, overrun := s.link.overrun || !s.link.restartTaken }) ∧
      (s.op.limpLighting = false → t = { s with op := t.op, link := t.link }) ∧
      (s.op.limpLighting = true → SettleKeeps { s with op := t.op, link := t.link } t ∧ Consistent t)

/-- R157, R89: in DRIVE and PARK, with the condition clear and a timeout set, the silence timer that has reached the link timeout
raises the link-silent condition with its latch and LINK_SILENT, and cancels the host side request. Nothing else changes. A
timer that has not reached it raises nothing, nor does a timeout of 0, a condition already raised, or another state. -/
def Obligations.LinkSilenceCancelsTheSide : Prop :=
  ∀ s : State, s.op.resetHeld = false →
    (s.op.state = .drive ∨ s.op.state = .park → s.op.linkSilent = false → s.op.linkTimeout ≠ 0 →
      100 * s.op.linkTimeout ≤ s.op.silenceTimer →
      ∃ t, exec .linkTimeout s = .next t ∧ t.op = { s.op with linkSilent := true, linkSilentLatch := true } ∧
        t.flash = { s.flash with hostSide := .none } ∧ t.report = (s.raise .linkSilent 0 s.op.linkTimeout).report ∧
        t = { s with op := t.op, flash := t.flash, report := t.report }) ∧
    (s.op.silenceTimer < 100 * s.op.linkTimeout → exec .linkTimeout s = .next s) ∧
    (s.op.linkTimeout = 0 ∨ s.op.linkSilent = true ∨ (s.op.state ≠ .drive ∧ s.op.state ≠ .park) →
      exec .linkTimeout s = .next s)

/-! ### Waking and sleeping -/

/-- R151, R152: in WATCH, with nothing on and the link quiet, the part enters SLEEP: STATE is raised, every average is 0 and the
intervals under way are discarded; every other record is kept, SREF and ATTN are off. -/
def Obligations.NothingOnEntersSleep : Prop :=
  ∀ s : State, s.op.resetHeld = false → s.op.state = .watch →
    (∀ ch, (s.lamp ch).state = .off ∧ (s.lamp ch).demand = 0) → s.flash.phase = .idle →
    s.resolver.courtesy.phase ≠ .dwell → s.resolver.courtesy.phase ≠ .fade → s.link.inbound = [] →
    s.link.assembler = .hunt → s.link.shifting = none → s.link.waiting = none →
    ∃ t, exec .enterSleep s = .next t ∧ t.sref = false ∧ t.attn = false ∧
      (∀ ch, t.measOf ch = { last := (s.measOf ch).last, average := 0, slotSum := 0, slotLast := 0 }) ∧
      (∀ g, t.gauge g = { s.gauge g with samples := [] }) ∧ t.gauges.testStep = s.gauges.testStep ∧
      t = { s with
            bank := { s.bank with meas := t.bank.meas, intervalOpen := false, averagesReady := false }
            gauges := t.gauges
            supply := { s.supply with samples := [] }
            op := { s.op with state := .sleep, window := none }
            report := (s.raise .state 0 4).report }

/-- R155: in SLEEP an edge opens a confirmation window from the kept levels and counts, within an open window it opens none, and
the end of an unconfirmed window discards what it held. A sample within it debounces as R144 gives and holds every change of
level back. The fourth consecutive asserted sample of IGN, HAZ or DOOR wakes the part with WOKEN naming that input, IGN to DRIVE
and the others to PARK, from where the held changes, handed to their readers with INPUT, move it on; a wake by RX and a return
to WATCH, by the end of a scene with SCENE_END and STATE, close the window in the same way. Which of several inputs that confirm
together is named is a free value (log entry 3). That held changes move the state on after the wake, and that the counts are those
of the window as it closed, is the model's reading (DEDUCED, log entry 24). The order of the inputs within one sample, so of their
held changes and events, is the model's choice (DESIGN CHOICE, log entry 36), and so are that INPUT stands before the WOKEN and STATE
it brings and SCENE_END before STATE (DESIGN CHOICE, log entry 37), and that WAKE_CONFIRMED and INPUT_SAMPLE answer the same state
(DESIGN CHOICE, log entry 10). That a wake by HAZ, DOOR or RX gives PARK also where the level of IGN is asserted already is its reading
(DEDUCED, log entry 43). -/
def Obligations.WindowsConfirmTheWake : Prop :=
  (∀ (s : State) (i : WakeInput), s.op.resetHeld = false → s.op.state = .sleep →
    (s.op.window = none →
      ∃ w, exec (.sleepEdge i) s = .next { s with op := { s.op with window := some w } } ∧ w.held = [] ∧
        w.ignRun = 0 ∧ w.hazRun = 0 ∧ w.doorRun = 0 ∧
        ∀ j, w.levels.get j = (s.inRec j).level ∧ w.counts.get j = (s.inRec j).count) ∧
    (s.op.window ≠ none → exec (.sleepEdge i) s = .next s) ∧
    exec .windowTimeout s = .next { s with op := { s.op with window := none } }) ∧
  (∀ (s : State) (pins : PinLevels) (w : Window), s.op.resetHeld = false → s.op.state = .sleep → s.op.window = some w →
    let v := s.windowSample pins w
    let a (i : InputId) : Bool := s.assertedAt i (pins.get i)
    let sampled (i : InputId) : Bool := s.inputSampled i
    let changes (i : InputId) : Bool := sampled i && a i != w.levels.get i && decide (3 ≤ w.counts.get i)
    (∀ i, v.levels.get i = (if changes i then a i else w.levels.get i) ∧
      v.counts.get i =
        (if sampled i = false then w.counts.get i
         else if a i = w.levels.get i ∨ changes i = true then 0 else w.counts.get i + 1)) ∧
    v.held = w.held ++ ([.ign, .brake, .haz, .door, .sw0, .sw1].filter changes).map (fun i => (i, a i)) ∧
    v.ignRun = (if a .ign then w.ignRun + 1 else 0) ∧ v.hazRun = (if a .haz then w.hazRun + 1 else 0) ∧
    v.doorRun = (if a .door then w.doorRun + 1 else 0) ∧
    (v.ignRun < 4 → v.hazRun < 4 → v.doorRun < 4 →
      exec (.inputSample pins) s = .next { s with op := { s.op with window := some v } })) ∧
  (∀ (s : State) (i : WakeInput) (pins : PinLevels) (w : Window), s.op.resetHeld = false → s.op.state = .sleep →
    s.op.window = some w → (match i with | .ign => w.ignRun = 3 | .haz => w.hazRun = 3 | .door => w.doorRun = 3) →
    s.assertedAt i.input (pins.get i.input) = true →
    let v := s.windowSample pins w
    ∃ t, exec (.wakeConfirmed i pins) s = .next t ∧
      t.op.state = stateAfter (if i = .ign then .drive else .park) v.held ∧
      t.op.sleepRequested = false ∧ t.op.silenceTimer = 0 ∧ t.op.window = none ∧
      (∀ j, t.level j = levelAfter (s.level j) j v.held ∧ (t.inRec j).count = v.counts.get j) ∧
      (s.eventEnabled .woken = true → s.report.events.length < 16 →
        ∃ r ∈ t.report.events, r.kind = .woken ∧ r.detail = (match i with | .ign => 0 | .haz => 1 | .door => 2)) ∧
      (s.eventEnabled .input = true → s.report.events.length ≤ 4 →
        ∀ x ∈ v.held, ∃ r ∈ t.report.events, r.kind = .input ∧ r.subject = inputNumber x.1) ∧
      ((∀ g, (s.gauge g).state ≠ .test) →
        t.report = (s.raiseEach
          ((match i with
            | .ign => [(.woken, 0, 0), (.state, 0, 1)]
            | .haz => [(.woken, 0, 1), (.state, 0, 2)]
            | .door => [(.woken, 0, 2), (.state, 0, 2)]) ++
            changeEvents (if i = .ign then .drive else .park) v.held)).report) ∧
      (v.candidates = [i] → exec (.inputSample pins) s = .next t) ∧
      t.supply = s.supply ∧ t.link = s.link ∧ t.resolver.scenes = s.resolver.scenes ∧
      (∀ f, (t.fnRec f).base = (s.fnRec f).base)) ∧
  (∀ (s : State) (pins : PinLevels) (w : Window), s.op.resetHeld = false → s.op.state = .sleep → s.op.window = some w →
    2 ≤ (s.windowSample pins w).candidates.length →
    ∃ t, exec (.inputSample pins) s = .next t ∧ t.freeCount = s.freeCount + 1 ∧
      (t.op.state = .drive ∨ t.op.state = .park) ∧ t.op.sleepRequested = false ∧ t.op.window = none ∧
      ∃ i ∈ (s.windowSample pins w).candidates,
        exec (.wakeConfirmed i pins) { s with freeCount := s.freeCount + 1 } = .next t) ∧
  (∀ (s : State) (w : Window), s.op.resetHeld = false → s.op.state = .sleep → s.op.window = some w →
    ∃ t, exec .rxWake s = .next t ∧ t.op.state = stateAfter .park w.held ∧ t.op.sleepRequested = false ∧
      t.op.silenceTimer = 0 ∧ t.op.window = none ∧ t.link = { s.link with receiverPaused := true } ∧
      (∀ j, t.level j = levelAfter (s.level j) j w.held ∧ (t.inRec j).count = w.counts.get j) ∧
      (s.eventEnabled .input = true → s.report.events.length ≤ 4 →
        ∀ x ∈ w.held, ∃ r ∈ t.report.events, r.kind = .input ∧ r.subject = inputNumber x.1) ∧
      ((∀ g, (s.gauge g).state ≠ .test) →
        t.report = (s.raiseEach ([(.woken, 0, 4), (.state, 0, 2)] ++ changeEvents .park w.held)).report)) ∧
  (∀ (s : State) (w : Window) (id : Byte), s.op.resetHeld = false → s.op.state = .sleep → s.op.window = some w →
    expiringScene s.resolver.scenes id = true →
    let scenes := s.resolver.scenes.filter (fun sc => sc.id != id)
    let lights := ∃ ch, ((s.setScenes scenes).resolveAll.wantOf ch).1 ≠ 0
    ∃ t, exec (.sceneExpiry id) s = .next t ∧ t.resolver.scenes = scenes ∧
      (lights → t.op.state = stateAfter .watch w.held ∧ t.op.window = none ∧
        (∀ j, t.level j = levelAfter (s.level j) j w.held ∧ (t.inRec j).count = w.counts.get j) ∧
        (s.eventEnabled .input = true → s.report.events.length ≤ 4 →
          ∀ x ∈ w.held, ∃ r ∈ t.report.events, r.kind = .input ∧ r.subject = inputNumber x.1) ∧
        ((∀ g, (s.gauge g).state ≠ .test) →
          t.report =
            (s.raiseEach ([(.sceneEnd, id.toNat, 0), (.state, 0, 3)] ++ changeEvents .watch w.held)).report) ∧
        t.op = { s.op with
          state := t.op.state
          window := none
          sleepRequested := if t.op.state = .watch then s.op.sleepRequested else false
          silenceTimer := if t.op.state = .watch then s.op.silenceTimer else 0 } ∧
        t.supply = s.supply ∧ t.link = s.link ∧ t.bank.meas = s.bank.meas ∧ t.bank.subs = s.bank.subs ∧
        (∀ ch, LampKept (s.lamp ch) (t.lamp ch)) ∧ (∀ f, (t.fnRec f).base = (s.fnRec f).base)) ∧
      (¬ lights →
        t.op = s.op ∧ t.inputs = s.inputs ∧ t.report = (s.raise .sceneEnd id.toNat 0).report ∧
          SettleKeeps { s.setScenes scenes with report := t.report } t) ∧
      Consistent t)

/-! ### The channel bank -/

/-- R3, R4: outside SLEEP a sample is taken on every channel whose output conducts and on which a reading falls due, and becomes its
last sample; its slot value, the sample times the part of the slot in which the output conducts, rounded down, is added to the interval
under way; no other channel's measurement changes. In SLEEP none is taken. That a sampling moment carries the readings that fall
due, and none for a gauge before the first conducting part of R116, is the model's choice (DESIGN CHOICE, log entry 28). That a moment
with one reading, where it meets the condition of TRIP or LAMP_OUT_DECISION, is that command is the model's choice too (DESIGN
CHOICE, log entry 10). R11, R17, R19, R20, R97, R116: a reading that meets neither moves the counts alone; a read-back moves the fed
run and flag, not while HOLD stands nor in QUEUED; the fan's sample runs its stall timer or stalls it; a gauge's sample above
1,000 mA is counted, and the second ends the output. -/
def Obligations.SamplesAreTakenWhereOutputsConduct : Prop :=
  (∀ (s : State) (readings : Vector (Option Nat) 17), s.op.resetHeld = false →
    (s.op.state = .sleep → exec (.currentSample readings) s = .next s) ∧
    (s.op.state ≠ .sleep →
      ∃ t, exec (.currentSample readings) s = .next t ∧
        (∀ ch : LampId, (t.measOf (lampChan ch)).last =
          if (s.lamp ch).state = .inrush ∨ (s.lamp ch).state = .on then
            readings[lampChan ch].getD (s.measOf (lampChan ch)).last
          else (s.measOf (lampChan ch)).last) ∧
        (t.measOf 14).last =
          (if s.fan.state.conducts = true ∧ s.fan.applied ≠ 0 then readings[fanChan].getD (s.measOf 14).last
           else (s.measOf 14).last) ∧
        (∀ g : GaugeId, (t.measOf (gaugeChan g)).last =
          if s.gaugeSampled g then readings[gaugeChan g].getD (s.measOf (gaugeChan g)).last
          else (s.measOf (gaugeChan g)).last) ∧
        (let stored (m : Meas) (v slot : Nat) : Meas :=
          if s.bank.intervalOpen then { m with last := v, slotSum := m.slotSum + slot, slotLast := slot }
          else { m with last := v }
         (∀ (ch : LampId) (v : Nat), (s.lamp ch).state = .inrush ∨ (s.lamp ch).state = .on → readings[lampChan ch] = some v →
          let dimmed := 4 ≤ ch.val ∧ s.serving ch ∈ [some .panel, some .interior, some .aux1, some .aux2, some .aux3]
          let percent :=
            if s.supply.hold = true ∨ (s.lamp ch).demand = 0 then 0 else if dimmed then (s.lamp ch).demand else 100
          t.measOf (lampChan ch) = stored (s.measOf (lampChan ch)) v (v * percent / 100)) ∧
         (∀ v, s.fan.state.conducts = true → s.fan.applied ≠ 0 → readings[fanChan] = some v →
          t.measOf 14 = stored (s.measOf 14) v (v * s.fan.applied / 1000)) ∧
         (∀ (g : GaugeId) (v : Nat), s.gaugeSampled g = true → readings[gaugeChan g] = some v →
          t.measOf (gaugeChan g) = stored (s.measOf (gaugeChan g)) v (v * (s.gauge g).d / 1000)) ∧
         (∀ ch : LampId, (s.lamp ch).state ≠ .inrush → (s.lamp ch).state ≠ .on →
          t.measOf (lampChan ch) = s.measOf (lampChan ch)) ∧
         (s.fan.state.conducts = false ∨ s.fan.applied = 0 → t.measOf 14 = s.measOf 14) ∧
         (∀ g : GaugeId, s.gaugeSampled g = false → t.measOf (gaugeChan g) = s.measOf (gaugeChan g)) ∧
         (∀ ch : ChanId, readings[ch] = none → t.measOf ch = s.measOf ch)) ∧
        t.op = s.op ∧ t.inputs = s.inputs ∧ t.supply = s.supply ∧ t.link = s.link ∧
        t.resolver.scenes = s.resolver.scenes ∧ ((∃ ch : ChanId, readings[ch] ≠ none) → Consistent t) ∧
        ((∀ ch : ChanId, readings[ch] = none) → t = s))) ∧
  (∀ (s : State) (ch : LampId) (v : Nat), s.op.resetHeld = false → s.op.state ≠ .sleep →
    let c := s.lamp ch
    let sampled := exec (.currentSample (only (lampChan ch) v)) s
    (c.state = .inrush ∨ c.state = .on →
      let limit :=
        if c.state = .inrush then min (8 * c.cfg.nominal) (hardLimit ch)
        else min (c.cfg.nominal * c.cfg.tripPct / 100) (maxContinuous ch)
      let out := decide (v < c.cfg.nominal * c.cfg.lampOutPct / 100)
      let trips := hardLimit ch ≤ v ∨ (limit < v ∧ 2 ≤ c.overCount)
      let steady := c.state = .on ∧ s.flashDriven ch = false
      let decides := steady ∧ c.lampRun.verdict = out ∧ 2 ≤ c.lampRun.count ∧ c.lampOut ≠ out
      (trips → sampled = exec (.trip ch v) s) ∧
      (¬ trips → decides → sampled = exec (.lampOutDecision ch v) s) ∧
      (¬ trips → ¬ decides →
        ∃ t, exec (.currentSample (only (lampChan ch) v)) s = .next t ∧
          SettleKeeps { s with bank := { s.bank with meas := t.bank.meas } } t ∧ Consistent t ∧
          (t.lamp ch).overCount = (if limit < v then c.overCount + 1 else 0) ∧
          (s.flash.phase ≠ .idle ∨ s.wanted = .none →
            (t.lamp ch).phaseSample =
              (if s.flashDriven ch = true ∧ s.flash.phase = .on then some v else c.phaseSample) ∧
            (steady → (t.lamp ch).lampRun =
              { verdict := out, count := if c.lampRun.verdict = out then min 3 (c.lampRun.count + 1) else 1 }) ∧
            (¬ steady → (t.lamp ch).lampRun = c.lampRun)))) ∧
    (c.state = .queued ∨ (c.state ≠ .inrush ∧ c.state ≠ .on ∧ s.supply.hold = true) →
      ∃ t, exec (.currentSample (only (lampChan ch) v)) s = .next t ∧ SettleKeeps s t ∧ Consistent t) ∧
    (c.state = .off ∨ c.state = .tripped ∨ c.state = .lockedOut → s.supply.hold = false →
      let now := decide (s.supply.latest < 2 * v)
      let n := if c.fedRun.verdict = now then min 3 (c.fedRun.count + 1) else 1
      let fed := if n = 3 then now else c.fed
      ∃ t, exec (.currentSample (only (lampChan ch) v)) s = .next t ∧ Consistent t ∧
        SettleKeeps
          { s.setLamp ch { c with fed := fed, fedRun := { verdict := now, count := n } } with
            report := if fed = true ∧ c.fed = false then (s.raise .chFed ch.val v).report else s.report } t)) ∧
  (∀ (s : State) (v : Nat), s.op.resetHeld = false → s.op.state ≠ .sleep → Consistent s →
    s.fan.state.conducts = true → s.fan.applied ≠ 0 →
    let n := if s.fan.settings.stallCurrent ≤ v then s.fan.stallTimer + 10 else 0
    let stalls := 30000 ≤ v ∨ (s.fan.state ≠ .kick ∧ s.fan.settings.stallTime ≤ n)
    let off (f : Fan) : Prop :=
      f.applied = 0 ∧ f.granted = false ∧ f.kickTimer = none ∧ f.rampTimer = none ∧ f.stallTimer = 0 ∧ f.runningTime = 0
    ∃ t, exec (.currentSample (only 14 v)) s = .next t ∧ (t.measOf 14).last = v ∧
      (¬ stalls → t.report = s.report ∧
        t.fan = { s.fan with stallTimer := if s.fan.state = .kick then s.fan.stallTimer else n }) ∧
      (stalls → s.fan.retriesUsed < s.fan.settings.retryLimit →
        t.fan.state = .stallWait ∧ t.fan.waitTimer = some 5000 ∧ t.fan.retriesUsed = s.fan.retriesUsed + 1 ∧ off t.fan ∧
          t.report = (s.raise .fanStall 14 v).report) ∧
      (stalls → s.fan.settings.retryLimit ≤ s.fan.retriesUsed →
        t.fan.state = .lockedOut ∧ t.fan.waitTimer = none ∧ t.fan.retriesUsed = s.fan.retriesUsed ∧ off t.fan ∧
          t.report = ((s.raise .fanStall 14 v).raise .fanLockout 14 s.fan.retriesUsed).report)) ∧
  (∀ (s : State) (g : GaugeId) (v : Nat), s.op.resetHeld = false → s.op.state ≠ .sleep →
    (s.gauge g).state = .run ∨ (s.gauge g).state = .test → (s.gauge g).d ≠ 0 → s.supply.hold = false →
    let x := s.gauge g
    let tripped := s.raise .chTrip (15 + g.val) v
    let lastTested := x.state = .test ∧ ∀ h, h ≠ g → (s.gauge h).state ≠ .test
    ∃ t, exec (.currentSample (only (gaugeChan g) v)) s = .next t ∧ (t.measOf (gaugeChan g)).last = v ∧
      (∀ h, h ≠ g → GaugeKept (s.gauge h) (t.gauge h)) ∧
      (v ≤ 1000 ∨ x.shortCount = 0 → t.report = s.report ∧ t.gauges.testStep = s.gauges.testStep ∧
        t.gauge g = { x with shortCount := if v ≤ 1000 then 0 else 1 }) ∧
      (1000 < v → x.shortCount ≠ 0 →
        t.gauge g = { x with state := .outputFault, d := 0, limit := .none, shortCount := 0, fresh := false } ∧
        (lastTested → t.gauges.testStep = 0 ∧ t.report = (tripped.raise .testEnd 0 1).report) ∧
        (¬ lastTested → t.gauges.testStep = s.gauges.testStep ∧ t.report = tripped.report)))

/-- R4, R126: a mark closes an interval under way and forms every average, of ten slots or of the one slot of WATCH, rounded down;
the first mark after a wake only begins an interval. Nothing else changes. That the state at the mark decides which average is
formed, whatever states the interval has seen, is the model's reading (DEDUCED, log entry 16). -/
def Obligations.MarksFormTheAverages : Prop :=
  ∀ s : State, s.op.resetHeld = false → s.op.state ≠ .sleep →
    (s.bank.intervalOpen = true →
      ∃ t, exec .channelAverage s = .next t ∧
        (∀ ch, t.measOf ch =
          { last := (s.measOf ch).last
            average := if s.op.state = .watch then (s.measOf ch).slotLast else (s.measOf ch).slotSum / 10
            slotSum := 0
            slotLast := 0 }) ∧
        t = { s with bank := { s.bank with meas := t.bank.meas, averagesReady := true } }) ∧
    (s.bank.intervalOpen = false →
      exec .channelAverage s = .next { s with bank := { s.bank with intervalOpen := true } })

/-- R11, R12, R17, R18, R19: a lamp channel in INRUSH or ON trips on one sample at or above the hard limit or on the third above the
threshold in force: to TRIPPED with a retry delay of 100 × 2^retries_used ms, at most 6,400, or to LOCKED_OUT where its retries
are spent. The third agreeing sample sets a steady ON channel's lamp_out flag, the third agreeing read-back the fed flag, while
HOLD does not stand (R20). R31, R32: two trips on one sampling moment are two causes, each with its releases, its spare's join and
their grant passes, the lower channel's first (the order of the channels is the model's, DESIGN CHOICE, log entry 28). That TRIP and
LAMP_OUT_DECISION take and store the sample that decides them, with its slot value (R4), and FED_DECISION its read-back, so that a
moment's trips are those of CURRENT_SAMPLE, is the model's choice too (DESIGN CHOICE, log entry 10); every other measurement is kept.
A trip raises CH_TRIP with the sample, after the CH_LAMP_OUT or CH_LAMP_OK of a flag that the same sample changes (the model's
order, DESIGN CHOICE, log entry 37), a lock-out CH_LOCKOUT behind it with retries_used. R23: on a lock-out each entry of the channel
that fits engages, and no other, SUBST behind CH_LOCKOUT, and its spare takes the primary's settings. Every other lamp channel
keeps its record, up to a grant and a restart of the queue. -/
def Obligations.SamplesDecideTripsLampOutAndFed : Prop :=
  (∀ (s : State) (ch : LampId) (milliamps : Nat), s.op.resetHeld = false →
    (s.lamp ch).state = .inrush ∨ (s.lamp ch).state = .on →
    hardLimit ch ≤ milliamps ∨
      ((if (s.lamp ch).state = .inrush then min (8 * (s.lamp ch).cfg.nominal) (hardLimit ch)
        else min ((s.lamp ch).cfg.nominal * (s.lamp ch).cfg.tripPct / 100) (maxContinuous ch)) < milliamps ∧
        2 ≤ (s.lamp ch).overCount) →
    ∃ t, exec (.trip ch milliamps) s = .next t ∧
      (t.lamp ch).granted = false ∧ (t.lamp ch).onTime = 0 ∧
      MeasStored s t (lampChan ch) milliamps (milliamps * slotPercent s ch / 100) ∧
      ((s.lamp ch).retriesUsed < (s.lamp ch).cfg.retryLimit →
        (t.lamp ch).state = .tripped ∧ (t.lamp ch).offReason = .fault ∧
        (t.lamp ch).retriesUsed = (s.lamp ch).retriesUsed + 1 ∧
        (t.lamp ch).retryTimer = min 6400 (100 * 2 ^ (s.lamp ch).retriesUsed)) ∧
      ((s.lamp ch).cfg.retryLimit ≤ (s.lamp ch).retriesUsed →
        (t.lamp ch).state = .lockedOut ∧ (t.lamp ch).offReason = .lockout ∧
        (t.lamp ch).retriesUsed = (s.lamp ch).retriesUsed) ∧
      (s.eventEnabled .chTrip = true → EventsOk s → s.report.events.length < 16 →
        ∃ r ∈ t.report.events, r.kind = .chTrip ∧ r.subject = ch.val ∧ r.detail = min 65535 milliamps) ∧
      (let out := decide (milliamps < (s.lamp ch).cfg.nominal * (s.lamp ch).cfg.lampOutPct / 100)
       let changes : Prop := (s.lamp ch).state = .on ∧ s.flashDriven ch = false ∧ (s.lamp ch).lampRun.verdict = out ∧
        2 ≤ (s.lamp ch).lampRun.count ∧ (s.lamp ch).lampOut ≠ out
       ∃ judged : State,
        (changes → judged = s.raise (if out then .chLampOut else .chLampOk) ch.val milliamps ∧ (t.lamp ch).lampOut = out) ∧
        (¬ changes → judged = s ∧ (t.lamp ch).lampOut = (s.lamp ch).lampOut) ∧
        ((s.lamp ch).retriesUsed < (s.lamp ch).cfg.retryLimit →
          t.report = (judged.raise .chTrip ch.val milliamps).report) ∧
        ((s.lamp ch).cfg.retryLimit ≤ (s.lamp ch).retriesUsed →
          t.report = (substRaised s t
            ((judged.raise .chTrip ch.val milliamps).raise .chLockout ch.val (s.lamp ch).retriesUsed)).report)) ∧
      TripEngages s t ch ∧
      (SubstitutionOk s → ∀ e p q, Engages s t e p q → SpareTakes s t e p q) ∧
      (∀ e p q, Engages s t e p q → (t.lamp q).retriesUsed = (s.lamp q).retriesUsed ∧
        (t.lamp q).onTime = (s.lamp q).onTime ∧ (t.lamp q).fed = (s.lamp q).fed) ∧
      (∀ c, c ≠ ch → (∀ e p, ¬ Engages s t e p c) → LampKept (s.lamp c) (t.lamp c)) ∧
      ((t.lamp ch).cfg = (s.lamp ch).cfg ∧ (t.lamp ch).setAside = (s.lamp ch).setAside ∧
        (t.lamp ch).substituteFor = (s.lamp ch).substituteFor ∧ (t.lamp ch).fed = (s.lamp ch).fed ∧
        (t.lamp ch).fedRun = (s.lamp ch).fedRun) ∧
      SettleKeeps
        { s with
          bank := { s.bank with lamps := t.bank.lamps, meas := t.bank.meas, subs := t.bank.subs }
          report := t.report } t ∧
      Consistent t) ∧
  (∀ (s : State) (ch : LampId) (milliamps : Nat), s.op.resetHeld = false → (s.lamp ch).state = .on →
    s.flashDriven ch = false → milliamps < hardLimit ch →
    milliamps ≤ min ((s.lamp ch).cfg.nominal * (s.lamp ch).cfg.tripPct / 100) (maxContinuous ch) ∨ (s.lamp ch).overCount < 2 →
    let out := decide (milliamps < (s.lamp ch).cfg.nominal * (s.lamp ch).cfg.lampOutPct / 100)
    (s.lamp ch).lampRun.verdict = out → 2 ≤ (s.lamp ch).lampRun.count → (s.lamp ch).lampOut ≠ out →
    ∃ t, exec (.lampOutDecision ch milliamps) s = .next t ∧
      MeasStored s t (lampChan ch) milliamps (milliamps * slotPercent s ch / 100) ∧
      t.report = (s.raise (if out then .chLampOut else .chLampOk) ch.val milliamps).report ∧
      SettleKeeps
        { s with
          bank := { s.bank with lamps := s.bank.lamps.set ch { s.lamp ch with lampOut := out }, meas := t.bank.meas }
          report := t.report } t ∧
      Consistent t) ∧
  (∀ (s : State) (ch : LampId) (millivolts : Nat), s.op.resetHeld = false → s.op.state ≠ .sleep →
    (s.lamp ch).state = .off ∨ (s.lamp ch).state = .tripped ∨ (s.lamp ch).state = .lockedOut →
    s.supply.hold = false →
    let fed := decide (s.supply.latest < 2 * millivolts)
    (s.lamp ch).fedRun.verdict = fed → 2 ≤ (s.lamp ch).fedRun.count → (s.lamp ch).fed ≠ fed →
    exec (.fedDecision ch millivolts) s = .next
      { s.setLamp ch { s.lamp ch with fed := fed, fedRun := { verdict := fed, count := 3 } } with
        report := if fed then (s.raise .chFed ch.val millivolts).report else s.report }) ∧
  (∀ (s : State) (a b : LampId) (va vb : Nat), s.op.resetHeld = false → s.op.state ≠ .sleep → Consistent s →
    s.flash.phase ≠ .idle ∨ s.wanted = .none → a < b →
    (s.lamp a).state = .inrush ∨ (s.lamp a).state = .on → (s.lamp b).state = .inrush ∨ (s.lamp b).state = .on →
    (s.lamp b).demand ≠ 0 → hardLimit a ≤ va → hardLimit b ≤ vb → (∀ e p, (s.subEntry e).pair ≠ some (p, b)) →
    ∃ t u, exec (.trip a va) s = .next t ∧ exec (.trip b vb) t = .next u ∧ (u.lamp b).granted = false ∧
      exec (.currentSample ((only (lampChan a) va).set (lampChan b) (some vb))) s = .next u)

/-- R10, R13, R14: the inrush window ends in ON with the counts restarted; a retry delay ends in OFF where the demand is 0 or HOLD
stands, in INRUSH without a grant for a signalling channel, in QUEUED otherwise; 10,000 ms of conduction return retries_used to
0. Beyond that only the arbiter acts: a pass over the entries that still wait, then one join with its pass (R31 to R35; that
order is the model's reading, DEDUCED, log entry 5). -/
def Obligations.LampTimersRunOut : Prop :=
  (∀ (s : State) (ch : LampId), s.op.resetHeld = false → (s.lamp ch).state = .inrush →
    ∃ t, exec (.inrushEnd ch) s = .next t ∧
      GrantPass
        (s.setLamp ch
          { s.lamp ch with state := .on, granted := false, inrushTimer := 0, overCount := 0,
                           lampRun := { verdict := false, count := 0 } }) t) ∧
  (∀ (s : State) (ch : LampId), s.op.resetHeld = false → (s.lamp ch).state = .tripped →
    let c := { s.lamp ch with retryTimer := 0 }
    let d : LampRec :=
      if c.demand = 0 then { c with state := .off, offReason := c.demandReason }
      else if s.supply.hold = true then { c with state := .off, offReason := .hold }
      else if s.signalling ch = true then
        { c with state := .inrush, granted := false, inrushTimer := c.cfg.inrushMs, overCount := 0, offReason := .none }
      else { c with state := .queued, offReason := .none }
    ∃ t, exec (.retryExpiry ch) s = .next t ∧ GrantPass (s.setLamp ch d) t) ∧
  (∀ (s : State) (ch : LampId), s.op.resetHeld = false → (s.lamp ch).state = .inrush ∨ (s.lamp ch).state = .on →
    exec (.tripForgiveness ch) s = .next (s.setLamp ch { s.lamp ch with retriesUsed := 0, onTime := 10000 }))

/-! ### The flash engine -/

/-- R75, R18, R76, R74, R69: an ON phase ends in an OFF phase of the same length, with the lamp_out flag of each flash-driven channel
decided by the last sample of the phase; an OFF phase ends in an ON phase of the wanted set, fast where a lamp of a single side
is out, or in IDLE; the host's requests, the hazard input level and the rate are kept. An ON phase begins with no sample of it taken
(R18), and a channel that ceases to be flash-driven begins its lamp-out run again (R17). A channel whose flag changes raises CH_LAMP_OUT or CH_LAMP_OK with that sample, and nothing else is raised.
Beyond that only the settling of the cause acts. That a channel which tripped or restarted within the phase is decided by its last
sample too is the model's reading (DEDUCED, log entry 33), the ascending order of the channels' events its choice (DESIGN CHOICE, log
entry 41). -/
def Obligations.FlashPhasesAlternate : Prop :=
  (∀ s : State, s.op.resetHeld = false → s.flash.phase = .on →
    ∃ t, exec .onPhaseEnd s = .next t ∧ t.flash = { s.flash with phase := .off, timer := some s.flash.half } ∧
      (∀ ch, LampKept
        { s.lamp ch with lampOut :=
            match (s.lamp ch).phaseSample with
            | some v =>
              if s.flashDriven ch = true then decide (v < (s.lamp ch).cfg.nominal * (s.lamp ch).cfg.lampOutPct / 100)
              else (s.lamp ch).lampOut
            | none => (s.lamp ch).lampOut } (t.lamp ch)) ∧
      t.report =
        ((List.finRange 14).foldl
          (fun r ch =>
            match (s.lamp ch).phaseSample with
            | some v =>
              let out := decide (v < (s.lamp ch).cfg.nominal * (s.lamp ch).cfg.lampOutPct / 100)
              if s.flashDriven ch = true ∧ out ≠ (s.lamp ch).lampOut then
                r.raise (if out then .chLampOut else .chLampOk) ch.val v
              else r
            | none => r) s).report ∧
      t.op = s.op ∧ t.inputs = s.inputs ∧ t.supply = s.supply ∧ t.link = s.link ∧ t.bank.meas = s.bank.meas ∧
      t.resolver.scenes = s.resolver.scenes ∧ Consistent t) ∧
  (∀ s : State, s.op.resetHeld = false → s.flash.phase = .off →
    let w : Sides :=
      if s.flash.hazIn = true ∨ s.flash.hostHazard = true then .both
      else if s.op.state = .drive then s.flash.hostSide else .none
    let out (f : Fn) : Prop := ∃ ch, s.serving ch = some f ∧ (s.lamp ch).lampOut = true
    ∃ t, exec .offPhaseEnd s = .next t ∧
      (w = .none → t.flash = { s.flash with phase := .idle, active := .none, fast := false, timer := none }) ∧
      (w ≠ .none →
        t.flash = { s.flash with
          phase := .on, active := w, fast := t.flash.fast, half := t.flash.half, timer := some t.flash.half } ∧
        (t.flash.fast = true ↔ (w = .left ∧ out .indL) ∨ (w = .right ∧ out .indR)) ∧
        t.flash.half = (if t.flash.fast then 10 * (1500 / s.flash.rate) else 10 * (3000 / s.flash.rate)) ∧
        ∀ ch, (t.lamp ch).phaseSample = none) ∧
      (∀ ch, (t.lamp ch).lampRun =
        if s.flashDriven ch = true ∧ t.flashDriven ch = false then { verdict := false, count := 0 }
        else (s.lamp ch).lampRun) ∧
      SettleKeeps { s with flash := t.flash } t ∧ Consistent t)

/-! ### The fan -/

/-- R93, R94, R96, R99, R97, R98: the kick ends in the ramp from full duty with its grant given back; each ramp expiry moves the
duty by slew toward the target, or to it; the stall wait ends in WAITING or STOPPED; 30,000 ms of running return retries_used to
0; a stall, which needs a sample at an applied duty other than 0 (R90), stops the fan in STALL_WAIT for 5,000 ms, or in
LOCKED_OUT where the retries are spent. That STALL_FOUND takes and stores the sample that decides it, with its slot value (R4), is the
model's choice (DESIGN CHOICE, log entry 10); every other measurement is kept. Beyond that only the arbiter acts, removals first
(DEDUCED, log entry 5). A grant begins the kick at full duty, or where the kick time is 0 the ramp from 0 with the grant given back at once (R93, R39). -/
def Obligations.FanTimersAndStalls : Prop :=
  (∀ f : Fan,
    (f.settings.kickTime ≠ 0 → f.takeGrant =
      { f with state := .kick, applied := 1000, kickTimer := some f.settings.kickTime, granted := true, stallTimer := 0 }) ∧
    (f.settings.kickTime = 0 → f.takeGrant =
      { f with state := if f.target = 0 then .running else .ramping, applied := 0,
               rampTimer := if f.target = 0 then none else some 100, runningTime := 0, granted := false, stallTimer := 0 })) ∧
  (∀ s : State, s.op.resetHeld = false → s.fan.state = .stallWait → s.fan.step ≠ 0 → s.supply.hold = false → s.queue = [] →
    (∀ ch, (s.lamp ch).state ≠ .queued) → s.allowanceInUse ≤ 2 →
    let f : Fan := { s.fan with stallTimer := 0, waitTimer := none, runningTime := 0 }
    (s.fan.settings.kickTime ≠ 0 → exec .stallWaitEnd s = .next
      { s with fan := { f with
          state := .kick, applied := 1000, kickTimer := some s.fan.settings.kickTime, granted := true } }) ∧
    (s.fan.settings.kickTime = 0 → s.fan.target ≠ 0 → exec .stallWaitEnd s = .next
      { s with fan := { f with state := .ramping, applied := 0, rampTimer := some 100, granted := false } })) ∧
  (∀ s : State, s.op.resetHeld = false → s.fan.state = .kick →
    ∃ t, exec .kickEnd s = .next t ∧
      GrantPass
        { s with fan := { s.fan with
            state := if s.fan.target = 1000 then .running else .ramping, applied := 1000, kickTimer := none,
            rampTimer := if s.fan.target = 1000 then none else some 100, stallTimer := 0, runningTime := 0,
            granted := false } } t) ∧
  (∀ s : State, s.op.resetHeld = false → s.fan.state = .ramping →
    exec .rampTimerExpiry s = .next
      { s with fan :=
          if s.fan.applied ≤ s.fan.target + s.fan.settings.slew ∧ s.fan.target ≤ s.fan.applied + s.fan.settings.slew then
            { s.fan with state := .running, applied := s.fan.target, rampTimer := none, runningTime := 0 }
          else if s.fan.applied < s.fan.target then
            { s.fan with applied := s.fan.applied + s.fan.settings.slew, rampTimer := some 100 }
          else { s.fan with applied := s.fan.applied - s.fan.settings.slew, rampTimer := some 100 } }) ∧
  (∀ s : State, s.op.resetHeld = false → s.fan.state = .stallWait →
    ∃ t, exec .stallWaitEnd s = .next t ∧
      GrantPass
        { s with fan :=
            if s.fan.step ≠ 0 ∧ s.supply.hold = false then
              { s.fan with state := .waiting, stallTimer := 0, waitTimer := none, runningTime := 0 }
            else s.fan.stop } t) ∧
  (∀ s : State, s.op.resetHeld = false → s.fan.state = .running →
    exec .fanForgiveness s = .next { s with fan := { s.fan with retriesUsed := 0, runningTime := 30000 } }) ∧
  (∀ (s : State) (milliamps : Nat), s.op.resetHeld = false → s.fan.applied ≠ 0 →
    (s.fan.state = .kick ∧ 30000 ≤ milliamps) ∨
      ((s.fan.state = .ramping ∨ s.fan.state = .running) ∧
        (30000 ≤ milliamps ∨ (s.fan.settings.stallCurrent ≤ milliamps ∧ s.fan.settings.stallTime ≤ s.fan.stallTimer + 10))) →
    let stopped : Fan :=
      { s.fan with state := .lockedOut, applied := 0, kickTimer := none, rampTimer := none, stallTimer := 0,
                   waitTimer := none, runningTime := 0, granted := false }
    ∃ t, exec (.stallFound milliamps) s = .next t ∧ MeasStored s t fanChan milliamps (milliamps * s.fan.applied / 1000) ∧
      (s.fan.retriesUsed < s.fan.settings.retryLimit →
        GrantPass
          { s with
            bank := { s.bank with meas := t.bank.meas }
            fan := { stopped with state := .stallWait, waitTimer := some 5000, retriesUsed := s.fan.retriesUsed + 1 }
            report := (s.raise .fanStall 14 milliamps).report } t) ∧
      (s.fan.settings.retryLimit ≤ s.fan.retriesUsed →
        GrantPass
          { s with
            bank := { s.bank with meas := t.bank.meas }
            fan := stopped
            report := ((s.raise .fanStall 14 milliamps).raise .fanLockout 14 s.fan.retriesUsed).report } t))

/-! ### The gauges -/

/-- R107, R110 to R115, R118, R120: a sense pin's code joins its gauge's interval, of which the newest ten are kept (DESIGN CHOICE,
log entry 17). At a mark a gauge in RUN or TEST with ten samples forms its code, resistance, sender status with its persistence run,
and target, and damps f; the first update after OFF sets f outright, also under HOLD or in TEST (DEDUCED, log entry 15). In RUN
the position follows f, in TEST it is the ramp's at the step after this mark. D and the limit status are then found for the supply,
with GAUGE_LIMIT on a change, except while HOLD stands. In RUN without ten samples the update is skipped, in TEST its sender
part. The mark that brings the step to 60 ends the test. -/
def Obligations.GaugesFollowTheirSenders : Prop :=
  (∀ (s : State) (g : GaugeId) (code : Nat), s.op.resetHeld = false →
    exec (.senseSample g code) s = .next
      (if s.senseModeOf g = .sender ∧ s.op.state ≠ .sleep then
        s.setGauge g { s.gauge g with samples := (code :: (s.gauge g).samples).take 10 }
      else s)) ∧
  ∀ (s : State) (g : GaugeId), s.op.resetHeld = false →
    ∃ t, exec .gaugeUpdate s = .next t ∧
      let x := s.gauge g
      let y := t.gauge g
      let full := x.samples.length = 10
      let n := s.gauges.testStep + 1
      (x.state = .off ∨ x.state = .outputFault ∨ (x.state = .run ∧ ¬ full) → y = { x with samples := [] }) ∧
      (x.state = .run ∨ x.state = .test → y.cfg = x.cfg ∧ y.samples = []) ∧
      (x.state = .run → y.state = .run) ∧ (x.state = .test → y.state = if n = 60 then .run else .test) ∧
      ((s.gauge 0).state = .test ∨ (s.gauge 1).state = .test → t.gauges.testStep = if n = 60 then 0 else n) ∧
      ((s.gauge 0).state ≠ .test → (s.gauge 1).state ≠ .test → t.gauges.testStep = s.gauges.testStep) ∧
      (x.state = .run ∨ x.state = .test → full →
        let c := (x.samples.sum + 5) / 10
        let cls : SenderStatus := if 1015 ≤ c then .opened else if c ≤ 2 then .short else .ok
        let run := if cls = x.runClass then x.runCount + 1 else 1
        let far : Int := 16 * (y.target : Int) - x.f
        let size : Int := ((2 * (far * x.cfg.k).natAbs + 256) / 512 : Nat)
        y.code = c ∧
        y.resistance = (if cls = .ok then some (min 9999 ((x.cfg.rp * c + (1023 - c) / 2) / (1023 - c))) else none) ∧
        y.sender = (if cls ≠ x.sender ∧ 3 ≤ run then cls else x.sender) ∧
        y.runClass = (if cls = x.sender then x.runClass else cls) ∧
        y.runCount = (if cls = x.sender ∨ 3 ≤ run then 0 else run) ∧
        y.lastGood = (if y.sender = .ok ∧ cls = .ok then y.resistance else x.lastGood) ∧
        y.target = (if y.sender ≠ .ok ∧ x.cfg.faultAction = .zero then 0
          else match y.lastGood with
            | some r => curveAt x.cfg.curve r
            | none => 0) ∧
        (x.fresh = true → y.f = 16 * y.target) ∧
        (x.fresh = false → y.f = ((x.f : Int) + far.sign * (if size = 0 then 1 else size)).toNat) ∧
        y.fresh = false ∧ (x.state = .run → y.p = (if x.fresh then y.target else (y.f + 8) / 16))) ∧
      (x.state = .test → ¬ full →
        y.f = x.f ∧ y.target = x.target ∧ y.sender = x.sender ∧ y.runCount = x.runCount ∧ y.code = x.code ∧
          y.lastGood = x.lastGood ∧ y.fresh = x.fresh) ∧
      (x.state = .test → y.p = (if n ≤ 30 then (1000 * n + 15) / 30 else (1000 * (60 - n) + 15) / 30)) ∧
      ((x.state = .run ∧ full) ∨ x.state = .test →
        let vs := s.supply.vs
        let den := 1000 * (vs * vs)
        let q := (x.cfg.dfs * y.p * (x.cfg.vref * x.cfg.vref) + den / 2) / den
        (s.supply.hold = false →
          (2 * vs < x.cfg.vref → y.d = 0 ∧ y.limit = .undervolt) ∧
          (x.cfg.vref ≤ 2 * vs → 1000 < q → y.d = 1000 ∧ y.limit = .saturated) ∧
          (x.cfg.vref ≤ 2 * vs → q ≤ 1000 → y.d = q ∧ y.limit = .none) ∧
          y.shortCount = (if y.d = 0 then 0 else x.shortCount)) ∧
        (s.supply.hold = true → y.d = x.d ∧ y.limit = x.limit ∧
            y.shortCount = (if x.state = .test ∧ n = 60 then 0 else x.shortCount))) ∧
      (y.limit ≠ x.limit → s.eventEnabled .gaugeLimit = true → s.report.events.length ≤ 8 →
        ∃ r ∈ t.report.events, r.kind = .gaugeLimit ∧ r.subject = g.val ∧ r.detail = y.limit.code) ∧
      ((∀ h, (t.gauge h).limit = (s.gauge h).limit ∧ (t.gauge h).sender = (s.gauge h).sender ∧
          ((s.gauge h).state = .test → (t.gauge h).state = .test)) → t.report = s.report) ∧
      t.op = s.op ∧ t.inputs = s.inputs ∧ t.supply = s.supply ∧ t.link = s.link ∧ t.resolver = s.resolver ∧
      t.bank = s.bank ∧ t.fan = s.fan ∧ t.flash = s.flash ∧ t.queue = s.queue

/-- R111, R116, R120, R121: the third update of one other class changes the sender status with GAUGE_SENDER; the second sample
above 1,000 mA puts a driven gauge in OUTPUT_FAULT with CH_TRIP and ends a test that has no gauge left; the mark that brings the
test step to 60 returns the gauges under test to RUN at position 0, with TEST_END. That SENDER_STATUS_CHANGE and TEST_COMPLETE are the
whole mark that makes the change, and that GAUGE_OUTPUT_SHORT takes and stores the sample that decides it, with its slot value (R4), is
the model's choice (DESIGN CHOICE, log entry 10); every other measurement is kept. -/
def Obligations.GaugeStatusChanges : Prop :=
  (∀ (s : State) (g : GaugeId) (cls : SenderStatus), s.op.resetHeld = false →
    (s.gauge g).state = .run ∨ (s.gauge g).state = .test → (s.gauge g).samples.length = 10 →
    cls = (if 1015 ≤ ((s.gauge g).samples.sum + 5) / 10 then .opened
      else if ((s.gauge g).samples.sum + 5) / 10 ≤ 2 then .short else .ok) →
    cls ≠ (s.gauge g).sender → cls = (s.gauge g).runClass → 2 ≤ (s.gauge g).runCount →
    ∃ t, exec (.senderStatusChange g) s = .next t ∧ exec .gaugeUpdate s = .next t ∧ (t.gauge g).sender = cls ∧
      (t.gauge g).runCount = 0 ∧
      (s.eventEnabled .gaugeSender = true → s.report.events.length ≤ 8 →
        ∃ r ∈ t.report.events, r.kind = .gaugeSender ∧ r.subject = g.val ∧ r.detail = cls.code)) ∧
  (∀ (s : State) (g : GaugeId) (milliamps : Nat), s.op.resetHeld = false →
    (s.gauge g).state = .run ∨ (s.gauge g).state = .test → (s.gauge g).d ≠ 0 → s.supply.hold = false → 1000 < milliamps →
    (s.gauge g).shortCount ≠ 0 →
    let lastTested := (s.gauge g).state = .test ∧ ∀ h, h ≠ g → (s.gauge h).state ≠ .test
    let tripped := s.raise .chTrip (15 + g.val) milliamps
    ∃ t, exec (.gaugeOutputShort g milliamps) s = .next t ∧
      (∀ h, t.gauge h =
        if h = g then { s.gauge g with state := .outputFault, d := 0, limit := .none, shortCount := 0, fresh := false }
        else s.gauge h) ∧
      MeasStored s t (gaugeChan g) milliamps (milliamps * (s.gauge g).d / 1000) ∧
      (lastTested → t.gauges.testStep = 0 ∧ t.report = (tripped.raise .testEnd 0 1).report) ∧
      (¬ lastTested → t.gauges.testStep = s.gauges.testStep ∧ t.report = tripped.report) ∧
      t = { s with bank := { s.bank with meas := t.bank.meas }, gauges := t.gauges, report := t.report }) ∧
  (∀ s : State, s.op.resetHeld = false → (∃ g, (s.gauge g).state = .test) → s.gauges.testStep = 59 →
    ∃ t, exec .testComplete s = .next t ∧ exec .gaugeUpdate s = .next t ∧ t.gauges.testStep = 0 ∧
      (∀ g, (s.gauge g).state = .test → (t.gauge g).state = .run ∧ (t.gauge g).p = 0 ∧ (t.gauge g).shortCount = 0) ∧
      (s.eventEnabled .testEnd = true → s.report.events.length ≤ 8 →
        ∃ r ∈ t.report.events, r.kind = .testEnd ∧ r.detail = 0) ∧
      t = { s with gauges := t.gauges, report := t.report })

/-- R113: a curve of ascending points gives its first position at or below its first point, its last at or above its last, and
between neighbours the interpolated one, rounded to nearest with halves away from zero, which lies between theirs. Damping with
K from 1 to 256 moves f toward the target without passing it, and moves it whenever it is not there (section 6.4). -/
def Obligations.CurvesInterpolateAndDampingApproaches : Prop :=
  (∀ (curve : List Point) (r : Nat), curve.Pairwise (fun a b => a.ohms < b.ohms) →
    (∀ a rest, curve = a :: rest → r ≤ a.ohms → curveAt curve r = a.position) ∧
    (∀ before a, curve = before ++ [a] → a.ohms ≤ r → curveAt curve r = a.position) ∧
    (∀ (before after : List Point) (a b : Point), curve = before ++ a :: b :: after → a.ohms ≤ r → r < b.ohms →
      let n : Int := ((b.position : Int) - a.position) * ((r : Int) - a.ohms)
      let d := b.ohms - a.ohms
      (curveAt curve r : Int) = a.position + n.sign * (((2 * n.natAbs + d) / (2 * d) : Nat) : Int) ∧
        min a.position b.position ≤ curveAt curve r ∧ curveAt curve r ≤ max a.position b.position)) ∧
  ∀ k f target : Nat, 1 ≤ k → k ≤ 256 →
    (f < 16 * target → f < damp k f target ∧ damp k f target ≤ 16 * target) ∧
    (16 * target < f → damp k f target < f ∧ 16 * target ≤ damp k f target) ∧
    (f = 16 * target → damp k f target = f)

/-! ### The supply -/

/-- R126, R136, R137, R20: a supply sample is stored; one at or above Vover declares HOLD and turns every load off; while HOLD
stands samples below Vrelease are counted, any other returns the count to 0, and the 50th in a row ends HOLD and restarts the
loads. HOLD_ON carries the declaring sample; the TEST_END ABORTED of a test that HOLD ends (R121) stands behind it by the model's choice
(DESIGN CHOICE, log entry 37). The declaration keeps every lamp channel's settings, retries, lamp_out and fed (R20), the fan's
settings and retries (R101), and all of a gauge's record but D, which is 0, and a test, which ends in RUN (R118, R121). In SLEEP
nothing is sampled. That an interval keeps its newest ten samples (log entry 17), and that
HOLD_END is the whole sample that ends HOLD (log entry 10), is the model's choice (DESIGN CHOICE). -/
def Obligations.SupplySamplesDeclareAndEndHold : Prop :=
  ∀ (s : State) (bat chg : Nat), s.op.resetHeld = false →
    (s.op.state = .sleep → exec (.supplySample bat chg) s = .next s) ∧
    (s.op.state ≠ .sleep →
      let x : Supply :=
        { s.supply with
          latest := bat
          samples := if s.bank.intervalOpen then ((bat, chg) :: s.supply.samples).take 10 else s.supply.samples }
      (s.supply.hold = false → bat < s.supply.settings.vover → exec (.supplySample bat chg) s = .next { s with supply := x }) ∧
      (s.supply.hold = false → s.supply.settings.vover ≤ bat →
        ∃ t, exec (.supplySample bat chg) s = .next t ∧ t.supply = { x with hold := true, releaseCount := 0 } ∧ HoldOk t ∧
          (∀ ch, (t.lamp ch).state = .off → (t.lamp ch).demand ≠ 0 → (t.lamp ch).offReason = .hold) ∧
          (let declared := s.raise .holdOn 0 bat
           t.report =
            if (s.gauge 0).state = .test ∨ (s.gauge 1).state = .test then (declared.raise .testEnd 0 1).report
            else declared.report) ∧
          (∀ g, GaugeKept
            { s.gauge g with
              state := if (s.gauge g).state = .test then .run else (s.gauge g).state
              d := 0
              shortCount := 0 } (t.gauge g)) ∧
          SettleKeeps { s with supply := t.supply, report := t.report, gauges := t.gauges } t ∧ Consistent t) ∧
      (s.supply.hold = true → s.supply.settings.vrelease ≤ bat →
        exec (.supplySample bat chg) s = .next { s with supply := { x with releaseCount := 0 } }) ∧
      (s.supply.hold = true → bat < s.supply.settings.vrelease → s.supply.releaseCount < 49 →
        exec (.supplySample bat chg) s = .next { s with supply := { x with releaseCount := s.supply.releaseCount + 1 } }) ∧
      (s.supply.hold = true → bat < s.supply.settings.vrelease → 49 ≤ s.supply.releaseCount →
        ∃ t, exec (.holdEnd bat chg) s = .next t ∧ exec (.supplySample bat chg) s = .next t ∧
          t.supply = { x with hold := false, releaseCount := 0 } ∧ t.report = (s.raise .holdOff 0 bat).report ∧
          (∀ ch, (t.lamp ch).state = .off → (t.lamp ch).demand = 0) ∧
          SettleKeeps { s with supply := t.supply, report := t.report } t ∧ Consistent t))

/-- R127 to R135: an evaluation forms Vs, CHG and I_total, moves the charging state on the tenth disagreeing evaluation, the drain
account by the net current within 0 and its cap, La by the thresholds and the hysteresis, Lv by the first rule of the dwell
counts that applies, and L to the higher of the two; CHARGE and SHED are raised on a change of the charging state and of L. While
HOLD stands Lv and its counts are kept (R134). Beyond that only the settling of a changed L acts. That CHARGE_CHANGE and
VOLTAGE_LEVEL_CHANGE are the whole evaluation that makes the change is the model's choice (DESIGN CHOICE, log entry 10). An interval of
fewer than ten samples gives no evaluation and is discarded, and before the bank's averages are in the monitor waits (R127). -/
def Obligations.EvaluationsMoveTheLevels : Prop :=
  (∀ s : State, s.op.resetHeld = false → s.op.state ≠ .sleep → s.supply.samples.length < 10 ∨ s.bank.averagesReady = false →
    exec .supplyEvaluation s = .next
      (if s.bank.averagesReady then
        { s with supply := { s.supply with samples := [] }, bank := { s.bank with averagesReady := false } }
      else s) ∧
    exec .chargeChange s = .next s ∧ exec .voltageLevelChange s = .next s) ∧
  (∀ s : State, s.op.resetHeld = false → s.op.state ≠ .sleep → s.bank.averagesReady = true → s.supply.samples.length = 10 →
    s.supply.la ≤ 3 →
    let x := s.supply
    let st := x.settings
    let vs := ((x.samples.map (·.1)).sum + 5) / 10
    let chg := ((x.samples.map (·.2)).sum + 5) / 10
    let total := (s.bank.meas.toList.map (·.average)).sum
    let above := decide (st.chargeThreshold ≤ chg)
    let threshold (n : Nat) : Nat := 36000 * (if n = 1 then st.t1 else if n = 2 then st.t2 else st.t3)
    let below1 := if vs < st.vlow1 then min 20 (x.below1 + 1) else 0
    let below2 := if vs < st.vlow2 then min 20 (x.below2 + 1) else 0
    let recovery :=
      if (x.lv = 1 ∧ st.vlow1 + 300 ≤ vs) ∨ (x.lv = 2 ∧ st.vlow2 + 300 ≤ vs) then min 50 (x.recovery + 1) else 0
    ∃ t, exec .supplyEvaluation s = .next t ∧
      let y := t.supply
      let told : State := if y.charging = x.charging then s else s.raise .charge 0 (if y.charging then 1 else 0)
      y.vs = vs ∧ y.chg = chg ∧ y.iTotal = total ∧ y.samples = [] ∧ t.bank.averagesReady = false ∧
      (if above = x.charging then y.charging = x.charging ∧ y.chargeCount = 0
       else if x.chargeCount < 9 then y.charging = x.charging ∧ y.chargeCount = x.chargeCount + 1
       else y.charging = above ∧ y.chargeCount = 0 ∧ exec .chargeChange s = .next t) ∧
      (let net : Int := if y.charging then (total : Int) - st.dynamo else total
       (0 ≤ net → y.account = min (36000 * st.t3 + 1800000) (x.account + (net.toNat + 5) / 10)) ∧
       (net < 0 → y.account = min (36000 * st.t3 + 1800000) (x.account - net.natAbs * 7 / 80))) ∧
      (if x.la < 3 ∧ threshold (x.la + 1) ≤ y.account then
        x.la < y.la ∧ y.la ≤ 3 ∧ (∀ n, x.la < n → n ≤ y.la → threshold n ≤ y.account) ∧
          (y.la < 3 → y.account < threshold (y.la + 1))
       else
        y.la ≤ x.la ∧
          (∀ n, y.la < n → n ≤ x.la → y.account + 36000 * st.h < threshold n ∨ y.account = 0) ∧
          (0 < y.la → threshold y.la ≤ y.account + 36000 * st.h ∧ y.account ≠ 0)) ∧
      (x.hold = false →
        y.below1 = below1 ∧ y.below2 = below2 ∧
        y.lv = (if below2 = 20 ∧ x.lv < 2 then 2 else if below1 = 20 ∧ x.lv = 0 then 1
          else if recovery = 50 then x.lv - 1 else x.lv) ∧
        y.recovery = (if y.lv = x.lv then recovery else 0) ∧
        (y.lv ≠ x.lv → exec .voltageLevelChange s = .next t)) ∧
      (x.hold = true →
        y.below1 = x.below1 ∧ y.below2 = x.below2 ∧ y.lv = x.lv ∧ y.recovery = x.recovery) ∧
      y.l = max y.la y.lv ∧ y.settings = st ∧ y.latest = x.latest ∧ y.hold = x.hold ∧ y.releaseCount = x.releaseCount ∧
      t.report = (if y.l = x.l then told else told.raise .shed 0 y.l).report ∧
      SettleKeeps
        { s with supply := y, report := t.report, bank := { s.bank with averagesReady := false } } t ∧
      (y.l = x.l → t = { s with supply := y, report := t.report, bank := { s.bank with averagesReady := false } }) ∧
      (y.l ≠ x.l → Consistent t))

/-! ### The switch inputs -/

/-- R143, R144: each input is debounced by itself: an agreeing sample returns its count to 0, the fourth disagreeing one in a row
changes its level, and a sense pin in SENDER mode gives no sample. In SLEEP without a window nothing is sampled. A sample is the new
counts of the inputs whose level it leaves, and then the INPUT_LEVEL_CHANGE of each input whose level it changes, so that INPUT is
raised and the level reaches its readers as that command gives (DESIGN CHOICE, log entry 10: the row is a decision of this one; that
several changes go in the order of the inputs' numbers is the model's choice too, log entry 36). -/
def Obligations.InputsAreDebounced : Prop :=
  ∀ (s : State) (pins : PinLevels), s.op.resetHeld = false →
    (s.op.state = .sleep → s.op.window = none → exec (.inputSample pins) s = .next s) ∧
    (s.op.state ≠ .sleep →
      let unread (i : InputId) : Prop :=
        (i = .sw0 ∧ s.senseModeOf 0 = .sender) ∨ (i = .sw1 ∧ s.senseModeOf 1 = .sender)
      let asserted (i : InputId) : Bool :=
        match (s.inRec i).polarity with
        | .activeHigh => pins.get i
        | .activeLow => !(pins.get i)
        | .default => if defaultActiveHigh i s.inputs.earthPositive then pins.get i else !(pins.get i)
      let changes (i : InputId) : Prop := ¬ unread i ∧ asserted i ≠ (s.inRec i).level ∧ 3 ≤ (s.inRec i).count
      (∀ u : State, u = { s with inputs := u.inputs } → u.inputs.senseMode = s.inputs.senseMode →
        u.inputs.earthPositive = s.inputs.earthPositive →
        (∀ i, u.inRec i =
          if unread i ∨ changes i then s.inRec i
          else if asserted i = (s.inRec i).level then { s.inRec i with count := 0 }
          else { s.inRec i with count := (s.inRec i).count + 1 }) →
        exec (.inputSample pins) s =
          levelChanges (([.ign, .brake, .haz, .door, .sw0, .sw1] : List InputId).filter (fun i => decide (changes i))) u) ∧
      ∃ t, exec (.inputSample pins) s = .next t ∧
        (∀ i, t.inRec i =
          let r := s.inRec i
          if unread i then r
          else if asserted i = r.level then { r with count := 0 }
          else if r.count < 3 then { r with count := r.count + 1 }
          else { r with level := asserted i, count := 0 }) ∧
        ((∀ i, (t.inRec i).level = (s.inRec i).level) → t = { s with inputs := t.inputs }) ∧
        t.inputs.senseMode = s.inputs.senseMode ∧ t.inputs.earthPositive = s.inputs.earthPositive ∧
        t.supply = s.supply ∧ t.link = s.link ∧ t.resolver.scenes = s.resolver.scenes)

/-- R144, R147, R154, R62, R71: a changed level is stored with INPUT and reaches its readers as one cause: IGN moves the part between
DRIVE and PARK and wakes it to DRIVE, HAZ sets the flash engine's hazard input, HAZ and DOOR wake WATCH to PARK, DOOR lights the
courtesy lamp or, closed in OPEN, begins its dwell, the fade at once where the hold is 0, or QUIET where no LIGHT channel serves
INTERIOR (R63). Each change of state raises STATE, a wake WOKEN before it, the end of a test TEST_END; that INPUT
stands before these and STATE before TEST_END is the model's choice (DESIGN CHOICE, log entry 37). R154, R153: where entry to SLEEP
came before the assertion it is stored, raised and handed on in SLEEP, no wake follows, and a lamp it lights returns the part to
WATCH (the model's reading, DEDUCED, log entry 39). That HAZ and DOOR wake to PARK also where the level of IGN is asserted already is the
model's reading too (DEDUCED, log entry 43). -/
def Obligations.LevelChangesReachTheirReaders : Prop :=
  (∀ (s : State) (i : InputId), s.op.resetHeld = false → s.op.state ≠ .sleep → 3 ≤ (s.inRec i).count →
    ¬ ((i = .sw0 ∧ s.senseModeOf 0 = .sender) ∨ (i = .sw1 ∧ s.senseModeOf 1 = .sender)) →
    let a := !(s.inRec i).level
    let r : InRec := { s.inRec i with level := a, count := 0 }
    let stored := (s.setInRec i r).raise .input (inputNumber i) (if a then 1 else 0)
    let woken (cause : Nat) : State := stored.raise .woken 0 cause
    let parked := stored.raise .state 0 2
    ∃ t, exec (.inputLevelChange i) s = .next t ∧ t.inputs = (s.setInRec i r).inputs ∧
      (i = .sw0 ∨ i = .sw1 → t = stored) ∧
      (i = .brake → SettleKeeps stored t) ∧
      t.op.state =
        (match i, s.op.state, a with
          | .ign, .drive, false => .park
          | .ign, .park, true => .drive
          | .ign, .watch, true => .drive
          | .haz, .watch, true => .park
          | .door, .watch, true => .park
          | _, st, _ => st) ∧
      t.report =
        (match i, s.op.state, a with
          | .ign, .drive, false =>
            if (s.gauge 0).state = .test ∨ (s.gauge 1).state = .test then (parked.raise .testEnd 0 1).report
            else parked.report
          | .ign, .park, true => (stored.raise .state 0 1).report
          | .ign, .watch, true => ((woken 0).raise .state 0 1).report
          | .haz, .watch, true => ((woken 1).raise .state 0 2).report
          | .door, .watch, true => ((woken 2).raise .state 0 2).report
          | _, _, _ => stored.report) ∧
      t.op = { s.op with state := t.op.state, sleepRequested := t.op.sleepRequested, limpLighting := t.op.limpLighting,
                         silenceTimer := t.op.silenceTimer, limpLatch := t.op.limpLatch } ∧
      t.op.sleepRequested = (if s.op.state = .watch ∧ t.op.state ≠ .watch then false else s.op.sleepRequested) ∧
      t.op.silenceTimer = (if s.op.state = .watch ∧ t.op.state ≠ .watch then 0 else s.op.silenceTimer) ∧
      (i = .ign → s.op.state = .limp →
        t.op.limpLighting = (if a then s.op.limpLighting || decide (2000 ≤ s.op.silenceCount) else false) ∧
        t.op.limpLatch = (s.op.limpLatch || (a && decide (2000 ≤ s.op.silenceCount)))) ∧
      (i ≠ .ign ∨ s.op.state ≠ .limp → t.op.limpLighting = s.op.limpLighting ∧ t.op.limpLatch = s.op.limpLatch) ∧
      t.flash.hazIn = (if i = .haz then a else s.flash.hazIn) ∧
      (i ≠ .door ∨ s.op.state = .limp ∨ s.resolver.courtesy.enable = false → t.resolver.courtesy = s.resolver.courtesy) ∧
      (i = .door → s.op.state ≠ .limp → s.resolver.courtesy.enable = true →
        (a = true → t.resolver.courtesy = { s.resolver.courtesy with phase := .opened, level := 100, timer := 0 }) ∧
        (a = false → s.resolver.courtesy.phase = .opened → s.resolver.courtesy.holdS ≠ 0 →
          t.resolver.courtesy =
            { s.resolver.courtesy with phase := .dwell, level := 100, timer := 1000 * s.resolver.courtesy.holdS }) ∧
        (a = false → s.resolver.courtesy.phase = .opened → s.resolver.courtesy.holdS = 0 →
          ((∃ ch : LampId, s.serving ch = some .interior ∧ 4 ≤ ch.val) →
            t.resolver.courtesy = { s.resolver.courtesy with phase := .fade, level := 100, timer := 100 }) ∧
          ((∀ ch : LampId, s.serving ch = some .interior → ch.val < 4) →
            t.resolver.courtesy = { s.resolver.courtesy with phase := .quiet, level := 0, timer := 0 })) ∧
        (a = false → s.resolver.courtesy.phase ≠ .opened → t.resolver.courtesy = s.resolver.courtesy)) ∧
      t.supply = s.supply ∧ t.link = s.link ∧ t.bank.meas = s.bank.meas ∧ t.resolver.scenes = s.resolver.scenes ∧
      (i ≠ .sw0 → i ≠ .sw1 → Consistent t)) ∧
  (∀ (s : State) (i : WakeInput), s.op.resetHeld = false → s.op.state = .sleep → s.op.window = none →
    (s.inRec i.input).level = false → 3 ≤ (s.inRec i.input).count →
    let r : InRec := { s.inRec i.input with level := true, count := 0 }
    let stored := (s.setInRec i.input r).raise .input (inputNumber i.input) 1
    ∃ t, exec (.inputLevelChange i.input) s = .next t ∧ t.inputs = (s.setInRec i.input r).inputs ∧
      ((∃ ch, (t.lamp ch).demand ≠ 0) → t.op = { s.op with state := .watch } ∧ t.report = (stored.raise .state 0 3).report) ∧
      ((∀ ch, (t.lamp ch).demand = 0) → t.op = s.op ∧ t.report = stored.report) ∧
      t.flash.hazIn = (if i = .haz then true else s.flash.hazIn) ∧ t.supply = s.supply ∧ t.link = s.link ∧
      t.resolver.scenes = s.resolver.scenes ∧ Consistent t)

/-! ### Timers -/

/-- R62, R63, R159: the dwell ends in the fade where a LIGHT channel serves INTERIOR and in QUIET where none does; a fade step lowers
the level by 5 and ends in QUIET at 0; limp lighting begins with its latch where the silence count has reached 2,000 ms, and DIP
and SIDE resolve to 100; at a lower count nothing begins. Beyond that only the settling of the cause acts. -/
def Obligations.CourtesyAndLimpLighting : Prop :=
  (∀ s : State, s.op.resetHeld = false → s.resolver.courtesy.phase = .dwell →
    ∃ t, exec .dwellEnd s = .next t ∧
      ((∃ ch : LampId, s.serving ch = some .interior ∧ 4 ≤ ch.val) →
        t.resolver.courtesy = { s.resolver.courtesy with phase := .fade, level := 100, timer := 100 }) ∧
      ((∀ ch : LampId, s.serving ch = some .interior → ch.val < 4) →
        t.resolver.courtesy = { s.resolver.courtesy with phase := .quiet, level := 0, timer := 0 }) ∧
      SettleKeeps { s with resolver := { s.resolver with courtesy := t.resolver.courtesy } } t ∧ Consistent t) ∧
  (∀ s : State, s.op.resetHeld = false → s.resolver.courtesy.phase = .fade →
    ∃ t, exec .fadeStep s = .next t ∧
      t.resolver.courtesy =
        (if s.resolver.courtesy.level ≤ 5 then { s.resolver.courtesy with phase := .quiet, level := 0, timer := 0 }
         else { s.resolver.courtesy with level := s.resolver.courtesy.level - 5, timer := 100 }) ∧
      SettleKeeps { s with resolver := { s.resolver with courtesy := t.resolver.courtesy } } t ∧ Consistent t) ∧
  (∀ s : State, s.op.resetHeld = false → s.op.state = .limp → s.level .ign = true → s.op.limpLighting = false →
    (2000 ≤ s.op.silenceCount →
      ∃ t, exec .limpLightingBegin s = .next t ∧
        t.op = { s.op with limpLighting := true, limpLatch := true } ∧
        (∀ f, f = .dip ∨ f = .side → s.resolver.scenes = [] → (s.fnRec f).cls = 0 → (t.fnRec f).resolved = 100) ∧
        SettleKeeps { s with op := t.op } t ∧ Consistent t) ∧
    (s.op.silenceCount < 2000 → exec .limpLightingBegin s = .next s))

/-- R178: a tick adds 1 to the time count, which wraps. That the timers move by 10 ms in the same step is the model's choice (log
entry 4): the inrush and retry timers, the flash and fan timers, the lifetimes and, in DWELL and FADE, the courtesy timer run down,
and on_time_since_trip, running_time, the silence timer and the silence count rise to their ends. Nothing else changes. -/
def Obligations.TicksMoveTimeOn : Prop :=
  ∀ s : State, s.op.resetHeld = false →
    ∃ t, exec .timeCountTick s = .next t ∧ t.report = { s.report with timeCount := s.report.timeCount + 1 } ∧
      (∀ ch, t.lamp ch =
        { s.lamp ch with
          inrushTimer := if (s.lamp ch).state = .inrush then (s.lamp ch).inrushTimer - 10 else (s.lamp ch).inrushTimer
          retryTimer := if (s.lamp ch).state = .tripped then (s.lamp ch).retryTimer - 10 else (s.lamp ch).retryTimer
          onTime := if (s.lamp ch).state = .inrush ∨ (s.lamp ch).state = .on then min 10000 ((s.lamp ch).onTime + 10)
            else (s.lamp ch).onTime }) ∧
      t.flash = { s.flash with timer := s.flash.timer.map (· - 10) } ∧
      t.fan.runningTime = (if s.fan.state = .running then min 30000 (s.fan.runningTime + 10) else s.fan.runningTime) ∧
      t.fan = { s.fan with kickTimer := s.fan.kickTimer.map (· - 10), rampTimer := s.fan.rampTimer.map (· - 10),
                           waitTimer := s.fan.waitTimer.map (· - 10), runningTime := t.fan.runningTime } ∧
      t.resolver.fns = s.resolver.fns ∧
      t.resolver.scenes = s.resolver.scenes.map (fun sc => { sc with life := sc.life.map (· - 10) }) ∧
      t.resolver.courtesy =
        { s.resolver.courtesy with
          timer :=
            if s.resolver.courtesy.phase = .dwell ∨ s.resolver.courtesy.phase = .fade then s.resolver.courtesy.timer - 10
            else s.resolver.courtesy.timer } ∧
      t.op = { s.op with silenceTimer := t.op.silenceTimer, silenceCount := t.op.silenceCount } ∧
      t.op.silenceTimer = (if s.op.state = .drive ∨ s.op.state = .park then min 10000 (s.op.silenceTimer + 10)
        else s.op.silenceTimer) ∧
      t.op.silenceCount = (if s.op.state = .limp then min 2000 (s.op.silenceCount + 10) else s.op.silenceCount) ∧
      t = { s with bank := { s.bank with lamps := t.bank.lamps }, resolver := t.resolver, flash := t.flash, fan := t.fan,
                   op := t.op, report := t.report }
end

