-- ==== Sys2Proof/Laws/State.lean ====
section
/-! SUPPORT. What each named write leaves alone and what it makes read: one lemma per field per update. -/

namespace Sys2Proof.Machine

/-! ### One lamp record is replaced -/

@[simp] theorem State.setLamp_queue (s : State) (ch : LampId) (r : LampRec) :
    (s.setLamp ch r).queue = s.queue := rfl

@[simp] theorem State.setLamp_resolver (s : State) (ch : LampId) (r : LampRec) :
    (s.setLamp ch r).resolver = s.resolver := rfl

@[simp] theorem State.setLamp_flash (s : State) (ch : LampId) (r : LampRec) :
    (s.setLamp ch r).flash = s.flash := rfl

@[simp] theorem State.setLamp_fan (s : State) (ch : LampId) (r : LampRec) :
    (s.setLamp ch r).fan = s.fan := rfl

@[simp] theorem State.setLamp_gauges (s : State) (ch : LampId) (r : LampRec) :
    (s.setLamp ch r).gauges = s.gauges := rfl

@[simp] theorem State.setLamp_supply (s : State) (ch : LampId) (r : LampRec) :
    (s.setLamp ch r).supply = s.supply := rfl

@[simp] theorem State.setLamp_inputs (s : State) (ch : LampId) (r : LampRec) :
    (s.setLamp ch r).inputs = s.inputs := rfl

@[simp] theorem State.setLamp_op (s : State) (ch : LampId) (r : LampRec) :
    (s.setLamp ch r).op = s.op := rfl

@[simp] theorem State.setLamp_link (s : State) (ch : LampId) (r : LampRec) :
    (s.setLamp ch r).link = s.link := rfl

@[simp] theorem State.setLamp_report (s : State) (ch : LampId) (r : LampRec) :
    (s.setLamp ch r).report = s.report := rfl

@[simp] theorem State.setLamp_freeCount (s : State) (ch : LampId) (r : LampRec) :
    (s.setLamp ch r).freeCount = s.freeCount := rfl

@[simp] theorem State.setLamp_pending (s : State) (ch : LampId) (r : LampRec) :
    (s.setLamp ch r).pending = s.pending := rfl

@[simp] theorem State.setLamp_bank_meas (s : State) (ch : LampId) (r : LampRec) :
    (s.setLamp ch r).bank.meas = s.bank.meas := rfl

@[simp] theorem State.setLamp_bank_subs (s : State) (ch : LampId) (r : LampRec) :
    (s.setLamp ch r).bank.subs = s.bank.subs := rfl

@[simp] theorem State.setLamp_bank_intervalOpen (s : State) (ch : LampId) (r : LampRec) :
    (s.setLamp ch r).bank.intervalOpen = s.bank.intervalOpen := rfl

@[simp] theorem State.setLamp_bank_averagesReady (s : State) (ch : LampId) (r : LampRec) :
    (s.setLamp ch r).bank.averagesReady = s.bank.averagesReady := rfl

/-! ### One measurement is replaced -/

@[simp] theorem State.setMeas_queue (s : State) (ch : ChanId) (m : Meas) :
    (s.setMeas ch m).queue = s.queue := rfl

@[simp] theorem State.setMeas_resolver (s : State) (ch : ChanId) (m : Meas) :
    (s.setMeas ch m).resolver = s.resolver := rfl

@[simp] theorem State.setMeas_flash (s : State) (ch : ChanId) (m : Meas) :
    (s.setMeas ch m).flash = s.flash := rfl

@[simp] theorem State.setMeas_fan (s : State) (ch : ChanId) (m : Meas) :
    (s.setMeas ch m).fan = s.fan := rfl

@[simp] theorem State.setMeas_gauges (s : State) (ch : ChanId) (m : Meas) :
    (s.setMeas ch m).gauges = s.gauges := rfl

@[simp] theorem State.setMeas_supply (s : State) (ch : ChanId) (m : Meas) :
    (s.setMeas ch m).supply = s.supply := rfl

@[simp] theorem State.setMeas_inputs (s : State) (ch : ChanId) (m : Meas) :
    (s.setMeas ch m).inputs = s.inputs := rfl

@[simp] theorem State.setMeas_op (s : State) (ch : ChanId) (m : Meas) :
    (s.setMeas ch m).op = s.op := rfl

@[simp] theorem State.setMeas_link (s : State) (ch : ChanId) (m : Meas) :
    (s.setMeas ch m).link = s.link := rfl

@[simp] theorem State.setMeas_report (s : State) (ch : ChanId) (m : Meas) :
    (s.setMeas ch m).report = s.report := rfl

@[simp] theorem State.setMeas_freeCount (s : State) (ch : ChanId) (m : Meas) :
    (s.setMeas ch m).freeCount = s.freeCount := rfl

@[simp] theorem State.setMeas_pending (s : State) (ch : ChanId) (m : Meas) :
    (s.setMeas ch m).pending = s.pending := rfl

@[simp] theorem State.setMeas_bank_lamps (s : State) (ch : ChanId) (m : Meas) :
    (s.setMeas ch m).bank.lamps = s.bank.lamps := rfl

@[simp] theorem State.setMeas_bank_subs (s : State) (ch : ChanId) (m : Meas) :
    (s.setMeas ch m).bank.subs = s.bank.subs := rfl

@[simp] theorem State.setMeas_bank_intervalOpen (s : State) (ch : ChanId) (m : Meas) :
    (s.setMeas ch m).bank.intervalOpen = s.bank.intervalOpen := rfl

@[simp] theorem State.setMeas_bank_averagesReady (s : State) (ch : ChanId) (m : Meas) :
    (s.setMeas ch m).bank.averagesReady = s.bank.averagesReady := rfl

/-! ### One substitution entry is replaced -/

@[simp] theorem State.setSub_queue (s : State) (e : Fin 3) (x : SubEntry) :
    (s.setSub e x).queue = s.queue := rfl

@[simp] theorem State.setSub_resolver (s : State) (e : Fin 3) (x : SubEntry) :
    (s.setSub e x).resolver = s.resolver := rfl

@[simp] theorem State.setSub_flash (s : State) (e : Fin 3) (x : SubEntry) :
    (s.setSub e x).flash = s.flash := rfl

@[simp] theorem State.setSub_fan (s : State) (e : Fin 3) (x : SubEntry) :
    (s.setSub e x).fan = s.fan := rfl

@[simp] theorem State.setSub_gauges (s : State) (e : Fin 3) (x : SubEntry) :
    (s.setSub e x).gauges = s.gauges := rfl

@[simp] theorem State.setSub_supply (s : State) (e : Fin 3) (x : SubEntry) :
    (s.setSub e x).supply = s.supply := rfl

@[simp] theorem State.setSub_inputs (s : State) (e : Fin 3) (x : SubEntry) :
    (s.setSub e x).inputs = s.inputs := rfl

@[simp] theorem State.setSub_op (s : State) (e : Fin 3) (x : SubEntry) :
    (s.setSub e x).op = s.op := rfl

@[simp] theorem State.setSub_link (s : State) (e : Fin 3) (x : SubEntry) :
    (s.setSub e x).link = s.link := rfl

@[simp] theorem State.setSub_report (s : State) (e : Fin 3) (x : SubEntry) :
    (s.setSub e x).report = s.report := rfl

@[simp] theorem State.setSub_freeCount (s : State) (e : Fin 3) (x : SubEntry) :
    (s.setSub e x).freeCount = s.freeCount := rfl

@[simp] theorem State.setSub_pending (s : State) (e : Fin 3) (x : SubEntry) :
    (s.setSub e x).pending = s.pending := rfl

@[simp] theorem State.setSub_bank_lamps (s : State) (e : Fin 3) (x : SubEntry) :
    (s.setSub e x).bank.lamps = s.bank.lamps := rfl

@[simp] theorem State.setSub_bank_meas (s : State) (e : Fin 3) (x : SubEntry) :
    (s.setSub e x).bank.meas = s.bank.meas := rfl

@[simp] theorem State.setSub_bank_intervalOpen (s : State) (e : Fin 3) (x : SubEntry) :
    (s.setSub e x).bank.intervalOpen = s.bank.intervalOpen := rfl

@[simp] theorem State.setSub_bank_averagesReady (s : State) (e : Fin 3) (x : SubEntry) :
    (s.setSub e x).bank.averagesReady = s.bank.averagesReady := rfl

/-! ### One function record is replaced -/

@[simp] theorem State.setFn_bank (s : State) (f : Fn) (r : FnRec) :
    (s.setFn f r).bank = s.bank := rfl

@[simp] theorem State.setFn_queue (s : State) (f : Fn) (r : FnRec) :
    (s.setFn f r).queue = s.queue := rfl

@[simp] theorem State.setFn_flash (s : State) (f : Fn) (r : FnRec) :
    (s.setFn f r).flash = s.flash := rfl

@[simp] theorem State.setFn_fan (s : State) (f : Fn) (r : FnRec) :
    (s.setFn f r).fan = s.fan := rfl

@[simp] theorem State.setFn_gauges (s : State) (f : Fn) (r : FnRec) :
    (s.setFn f r).gauges = s.gauges := rfl

@[simp] theorem State.setFn_supply (s : State) (f : Fn) (r : FnRec) :
    (s.setFn f r).supply = s.supply := rfl

@[simp] theorem State.setFn_inputs (s : State) (f : Fn) (r : FnRec) :
    (s.setFn f r).inputs = s.inputs := rfl

@[simp] theorem State.setFn_op (s : State) (f : Fn) (r : FnRec) :
    (s.setFn f r).op = s.op := rfl

@[simp] theorem State.setFn_link (s : State) (f : Fn) (r : FnRec) :
    (s.setFn f r).link = s.link := rfl

@[simp] theorem State.setFn_report (s : State) (f : Fn) (r : FnRec) :
    (s.setFn f r).report = s.report := rfl

@[simp] theorem State.setFn_freeCount (s : State) (f : Fn) (r : FnRec) :
    (s.setFn f r).freeCount = s.freeCount := rfl

@[simp] theorem State.setFn_pending (s : State) (f : Fn) (r : FnRec) :
    (s.setFn f r).pending = s.pending := rfl

@[simp] theorem State.setFn_resolver_scenes (s : State) (f : Fn) (r : FnRec) :
    (s.setFn f r).resolver.scenes = s.resolver.scenes := rfl

@[simp] theorem State.setFn_resolver_courtesy (s : State) (f : Fn) (r : FnRec) :
    (s.setFn f r).resolver.courtesy = s.resolver.courtesy := rfl

/-! ### One gauge record is replaced -/

@[simp] theorem State.setGauge_bank (s : State) (g : GaugeId) (r : Gauge) :
    (s.setGauge g r).bank = s.bank := rfl

@[simp] theorem State.setGauge_queue (s : State) (g : GaugeId) (r : Gauge) :
    (s.setGauge g r).queue = s.queue := rfl

@[simp] theorem State.setGauge_resolver (s : State) (g : GaugeId) (r : Gauge) :
    (s.setGauge g r).resolver = s.resolver := rfl

@[simp] theorem State.setGauge_flash (s : State) (g : GaugeId) (r : Gauge) :
    (s.setGauge g r).flash = s.flash := rfl

@[simp] theorem State.setGauge_fan (s : State) (g : GaugeId) (r : Gauge) :
    (s.setGauge g r).fan = s.fan := rfl

@[simp] theorem State.setGauge_supply (s : State) (g : GaugeId) (r : Gauge) :
    (s.setGauge g r).supply = s.supply := rfl

@[simp] theorem State.setGauge_inputs (s : State) (g : GaugeId) (r : Gauge) :
    (s.setGauge g r).inputs = s.inputs := rfl

@[simp] theorem State.setGauge_op (s : State) (g : GaugeId) (r : Gauge) :
    (s.setGauge g r).op = s.op := rfl

@[simp] theorem State.setGauge_link (s : State) (g : GaugeId) (r : Gauge) :
    (s.setGauge g r).link = s.link := rfl

@[simp] theorem State.setGauge_report (s : State) (g : GaugeId) (r : Gauge) :
    (s.setGauge g r).report = s.report := rfl

@[simp] theorem State.setGauge_freeCount (s : State) (g : GaugeId) (r : Gauge) :
    (s.setGauge g r).freeCount = s.freeCount := rfl

@[simp] theorem State.setGauge_pending (s : State) (g : GaugeId) (r : Gauge) :
    (s.setGauge g r).pending = s.pending := rfl

@[simp] theorem State.setGauge_gauges_testStep (s : State) (g : GaugeId) (r : Gauge) :
    (s.setGauge g r).gauges.testStep = s.gauges.testStep := rfl

/-! ### One input record is replaced -/

@[simp] theorem State.setInRec_bank (s : State) (i : InputId) (r : InRec) :
    (s.setInRec i r).bank = s.bank := rfl

@[simp] theorem State.setInRec_queue (s : State) (i : InputId) (r : InRec) :
    (s.setInRec i r).queue = s.queue := rfl

@[simp] theorem State.setInRec_resolver (s : State) (i : InputId) (r : InRec) :
    (s.setInRec i r).resolver = s.resolver := rfl

@[simp] theorem State.setInRec_flash (s : State) (i : InputId) (r : InRec) :
    (s.setInRec i r).flash = s.flash := rfl

@[simp] theorem State.setInRec_fan (s : State) (i : InputId) (r : InRec) :
    (s.setInRec i r).fan = s.fan := rfl

@[simp] theorem State.setInRec_gauges (s : State) (i : InputId) (r : InRec) :
    (s.setInRec i r).gauges = s.gauges := rfl

@[simp] theorem State.setInRec_supply (s : State) (i : InputId) (r : InRec) :
    (s.setInRec i r).supply = s.supply := rfl

@[simp] theorem State.setInRec_op (s : State) (i : InputId) (r : InRec) :
    (s.setInRec i r).op = s.op := rfl

@[simp] theorem State.setInRec_link (s : State) (i : InputId) (r : InRec) :
    (s.setInRec i r).link = s.link := rfl

@[simp] theorem State.setInRec_report (s : State) (i : InputId) (r : InRec) :
    (s.setInRec i r).report = s.report := rfl

@[simp] theorem State.setInRec_freeCount (s : State) (i : InputId) (r : InRec) :
    (s.setInRec i r).freeCount = s.freeCount := rfl

@[simp] theorem State.setInRec_pending (s : State) (i : InputId) (r : InRec) :
    (s.setInRec i r).pending = s.pending := rfl

@[simp] theorem State.setInRec_inputs_senseMode (s : State) (i : InputId) (r : InRec) :
    (s.setInRec i r).inputs.senseMode = s.inputs.senseMode := rfl

@[simp] theorem State.setInRec_inputs_earthPositive (s : State) (i : InputId) (r : InRec) :
    (s.setInRec i r).inputs.earthPositive = s.inputs.earthPositive := rfl

/-! ### Reading what was written -/

theorem State.lamp_setLamp (s : State) (ch c : LampId) (r : LampRec) :
    (s.setLamp ch r).lamp c = if c = ch then r else s.lamp c := by
  by_cases h : c = ch
  · subst h; simp [State.lamp, State.setLamp]
  · have : ch.val ≠ c.val := fun e => h (Fin.ext e.symm)
    simp [State.lamp, State.setLamp, h, this]

@[simp] theorem State.lamp_setLamp_same (s : State) (ch : LampId) (r : LampRec) : (s.setLamp ch r).lamp ch = r := by
  simp [State.lamp_setLamp]

theorem State.lamp_setLamp_other (s : State) {ch c : LampId} (r : LampRec) (h : c ≠ ch) :
    (s.setLamp ch r).lamp c = s.lamp c := by
  simp [State.lamp_setLamp, h]

theorem Fn.code_injective {f g : Fn} (h : f.code = g.code) : f = g := by
  cases f <;> cases g <;> first | rfl | exact absurd h (by decide)

theorem State.fnRec_setFn (s : State) (f g : Fn) (r : FnRec) :
    (s.setFn f r).fnRec g = if g = f then r else s.fnRec g := by
  by_cases h : g = f
  · subst h; simp [State.fnRec, State.setFn]
  · have : f.code.val ≠ g.code.val := fun e => h (Fn.code_injective (Fin.ext e.symm))
    simp [State.fnRec, State.setFn, h, this]

@[simp] theorem State.fnRec_setFn_same (s : State) (f : Fn) (r : FnRec) : (s.setFn f r).fnRec f = r := by
  simp [State.fnRec_setFn]

theorem State.gauge_setGauge (s : State) (g k : GaugeId) (r : Gauge) :
    (s.setGauge g r).gauge k = if k = g then r else s.gauge k := by
  by_cases h : k = g
  · subst h; simp [State.gauge, State.setGauge]
  · have : g.val ≠ k.val := fun e => h (Fin.ext e.symm)
    simp [State.gauge, State.setGauge, h, this]

@[simp] theorem State.gauge_setGauge_same (s : State) (g : GaugeId) (r : Gauge) : (s.setGauge g r).gauge g = r := by
  simp [State.gauge_setGauge]

theorem State.subEntry_setSub (s : State) (e k : Fin 3) (x : SubEntry) :
    (s.setSub e x).subEntry k = if k = e then x else s.subEntry k := by
  by_cases h : k = e
  · subst h; simp [State.subEntry, State.setSub]
  · have : e.val ≠ k.val := fun q => h (Fin.ext q.symm)
    simp [State.subEntry, State.setSub, h, this]

theorem State.measOf_setMeas (s : State) (c k : ChanId) (m : Meas) :
    (s.setMeas c m).measOf k = if k = c then m else s.measOf k := by
  by_cases h : k = c
  · subst h; simp [State.measOf, State.setMeas]
  · have : c.val ≠ k.val := fun q => h (Fin.ext q.symm)
    simp [State.measOf, State.setMeas, h, this]

@[simp] theorem PerInput.get_put_same (x : PerInput α) (i : InputId) (a : α) : (x.put i a).get i = a := by
  cases i <;> rfl

theorem PerInput.get_put_other (x : PerInput α) {i j : InputId} (a : α) (h : j ≠ i) : (x.put i a).get j = x.get j := by
  cases i <;> cases j <;> first | rfl | exact absurd rfl h

@[simp] theorem State.inRec_setInRec_same (s : State) (i : InputId) (r : InRec) : (s.setInRec i r).inRec i = r := by
  simp [State.inRec, State.setInRec]

theorem State.inRec_setInRec_other (s : State) {i j : InputId} (r : InRec) (h : j ≠ i) :
    (s.setInRec i r).inRec j = s.inRec j := by
  simp [State.inRec, State.setInRec, PerInput.get_put_other _ _ h]

/-! ### Other records are read unchanged -/

@[simp] theorem State.fnRec_setLamp (s : State) (ch : LampId) (r : LampRec) (f : Fn) :
    (s.setLamp ch r).fnRec f = s.fnRec f := rfl

@[simp] theorem State.gauge_setLamp (s : State) (ch : LampId) (r : LampRec) (g : GaugeId) :
    (s.setLamp ch r).gauge g = s.gauge g := rfl

@[simp] theorem State.subEntry_setLamp (s : State) (ch : LampId) (r : LampRec) (e : Fin 3) :
    (s.setLamp ch r).subEntry e = s.subEntry e := rfl

@[simp] theorem State.measOf_setLamp (s : State) (ch : LampId) (r : LampRec) (c : ChanId) :
    (s.setLamp ch r).measOf c = s.measOf c := rfl

@[simp] theorem State.lamp_setFn (s : State) (f : Fn) (r : FnRec) (ch : LampId) : (s.setFn f r).lamp ch = s.lamp ch := rfl

@[simp] theorem State.gauge_setFn (s : State) (f : Fn) (r : FnRec) (g : GaugeId) : (s.setFn f r).gauge g = s.gauge g := rfl

@[simp] theorem State.lamp_setGauge (s : State) (g : GaugeId) (r : Gauge) (ch : LampId) :
    (s.setGauge g r).lamp ch = s.lamp ch := rfl

@[simp] theorem State.fnRec_setGauge (s : State) (g : GaugeId) (r : Gauge) (f : Fn) :
    (s.setGauge g r).fnRec f = s.fnRec f := rfl

@[simp] theorem State.lamp_setSub (s : State) (e : Fin 3) (x : SubEntry) (ch : LampId) :
    (s.setSub e x).lamp ch = s.lamp ch := rfl

@[simp] theorem State.lamp_setMeas (s : State) (c : ChanId) (m : Meas) (ch : LampId) :
    (s.setMeas c m).lamp ch = s.lamp ch := rfl

/-! ### Commands while a reset holds the part, and while none does -/

theorem State.live_held {s : State} (h : s.op.resetHeld = true) (k : State → State) : s.live k = .next s := by
  simp [State.live, h]

theorem State.live_running {s : State} (h : s.op.resetHeld = false) (k : State → State) : s.live k = .next (k s) := by
  simp [State.live, h]

end Sys2Proof.Machine
end

