-- ==== Sys2Proof/Laws/Settle.lean ====
section
/-! SUPPORT. What settling a cause keeps, and what it establishes: the spec lemmas of `State.settle`. -/

namespace Sys2Proof.Machine

/-! ### Keeping is reflexive and transitive -/

theorem LampKept.refl (c : LampRec) : LampKept c c := by constructor <;> simp

theorem LampKept.trans {a b c : LampRec} (h : LampKept a b) (k : LampKept b c) : LampKept a c where
  cfg := k.cfg.trans h.cfg
  setAside := k.setAside.trans h.setAside
  substituteFor := k.substituteFor.trans h.substituteFor
  lampOut := k.lampOut.trans h.lampOut
  fed := k.fed.trans h.fed
  fedRun := k.fedRun.trans h.fedRun
  retriesUsed := k.retriesUsed.trans h.retriesUsed
  onTime := k.onTime.trans h.onTime
  retryTimer := k.retryTimer.trans h.retryTimer
  tripped := k.tripped.trans h.tripped
  lockedOut := k.lockedOut.trans h.lockedOut
  faultReason := fun e =>
    (k.faultReason (e.imp h.tripped.mpr h.lockedOut.mpr)).trans (h.faultReason e)

theorem GaugeKept.refl (x : Gauge) : GaugeKept x x := by constructor <;> simp

theorem GaugeKept.trans {a b c : Gauge} (h : GaugeKept a b) (k : GaugeKept b c) : GaugeKept a c where
  cfg := k.cfg.trans h.cfg
  pendingCurve := k.pendingCurve.trans h.pendingCurve
  code := k.code.trans h.code
  resistance := k.resistance.trans h.resistance
  lastGood := k.lastGood.trans h.lastGood
  sender := k.sender.trans h.sender
  target := k.target.trans h.target
  f := k.f.trans h.f
  p := k.p.trans h.p
  limit := k.limit.trans h.limit
  samples := k.samples.trans h.samples
  state := by
    rcases h.state with rfl | ⟨e1, e2, e3⟩
    · exact k.state
    · rcases k.state with rfl | ⟨d1, d2, d3⟩
      · exact .inr ⟨e1, e2, e3⟩
      · simp [d1] at e2

theorem SettleKeeps.refl (s : State) : SettleKeeps s s := by
  constructor <;> first | rfl | (intro _; exact LampKept.refl _) | (intro _; exact GaugeKept.refl _) | simp

theorem SettleKeeps.trans {a b c : State} (h : SettleKeeps a b) (k : SettleKeeps b c) : SettleKeeps a c where
  op := k.op.trans h.op
  inputs := k.inputs.trans h.inputs
  supply := k.supply.trans h.supply
  link := k.link.trans h.link
  report := k.report.trans h.report
  freeCount := k.freeCount.trans h.freeCount
  pending := k.pending.trans h.pending
  meas := k.meas.trans h.meas
  subs := k.subs.trans h.subs
  intervalOpen := k.intervalOpen.trans h.intervalOpen
  averagesReady := k.averagesReady.trans h.averagesReady
  scenes := k.scenes.trans h.scenes
  courtesy := k.courtesy.trans h.courtesy
  fns := fun f => ⟨(k.fns f).1.trans (h.fns f).1, (k.fns f).2.1.trans (h.fns f).2.1, (k.fns f).2.2.trans (h.fns f).2.2⟩
  lamps := fun ch => (h.lamps ch).trans (k.lamps ch)
  hostSide := k.hostSide.trans h.hostSide
  hostHazard := k.hostHazard.trans h.hostHazard
  hazIn := k.hazIn.trans h.hazIn
  rate := k.rate.trans h.rate
  fanSettings := k.fanSettings.trans h.fanSettings
  fanRetries := k.fanRetries.trans h.fanRetries
  testStep := k.testStep.trans h.testStep
  gauges := fun g => (h.gauges g).trans (k.gauges g)

/-! ### The writes that keep -/

theorem keeps_foldl {α : Type} (f : State → α → State) (h : ∀ s a, SettleKeeps s (f s a)) (l : List α) (s : State) :
    SettleKeeps s (l.foldl f s) := by
  induction l generalizing s with
  | nil => exact .refl s
  | cons a l ih => exact (h s a).trans (ih (f s a))

theorem keeps_setLamp {s : State} {ch : LampId} {r : LampRec} (h : LampKept (s.lamp ch) r) :
    SettleKeeps s (s.setLamp ch r) := by
  refine { SettleKeeps.refl s with lamps := fun c => ?_ }
  rw [State.lamp_setLamp]
  split
  · rename_i e; subst e; exact h
  · exact .refl _

theorem keeps_setGauge {s : State} {g : GaugeId} {x : Gauge} (h : GaugeKept (s.gauge g) x) :
    SettleKeeps s (s.setGauge g x) := by
  refine { SettleKeeps.refl s with gauges := fun k => ?_ }
  rw [State.gauge_setGauge]
  split
  · rename_i e; subst e; exact h
  · exact .refl _

theorem keeps_flash {s : State} {fl : Flash} (h1 : fl.hostSide = s.flash.hostSide)
    (h2 : fl.hostHazard = s.flash.hostHazard) (h3 : fl.hazIn = s.flash.hazIn) (h4 : fl.rate = s.flash.rate) :
    SettleKeeps s { s with flash := fl } :=
  { SettleKeeps.refl s with hostSide := h1, hostHazard := h2, hazIn := h3, rate := h4 }

theorem keeps_fan {s : State} {f : Fan} (h1 : f.settings = s.fan.settings) (h2 : f.retriesUsed = s.fan.retriesUsed) :
    SettleKeeps s { s with fan := f } :=
  { SettleKeeps.refl s with fanSettings := h1, fanRetries := h2 }

theorem keeps_queue (s : State) (q : List QEntry) : SettleKeeps s { s with queue := q } :=
  { SettleKeeps.refl s with op := rfl }

/-! ### The stages -/

theorem setFlash_keeps {s : State} {fl : Flash} (h1 : fl.hostSide = s.flash.hostSide)
    (h2 : fl.hostHazard = s.flash.hostHazard) (h3 : fl.hazIn = s.flash.hazIn) (h4 : fl.rate = s.flash.rate) :
    SettleKeeps s (s.setFlash fl) := by
  have k : SettleKeeps s (allLamps.foldl (State.restartIfCeased fl) s) := by
    apply keeps_foldl
    intro s ch
    unfold State.restartIfCeased
    split
    · exact keeps_setLamp (by constructor <;> simp)
    · exact .refl s
  exact k.trans (keeps_flash (h1.trans k.hostSide.symm) (h2.trans k.hostHazard.symm) (h3.trans k.hazIn.symm)
    (h4.trans k.rate.symm))

theorem clearPhaseSample_keeps (s : State) (ch : LampId) : SettleKeeps s (s.clearPhaseSample ch) :=
  keeps_setLamp (by constructor <;> simp)

theorem onStart_keeps (s : State) (set : Sides) : SettleKeeps s (s.onStart set) := by
  have k : SettleKeeps s (allLamps.foldl State.clearPhaseSample s) := keeps_foldl _ clearPhaseSample_keeps _ _
  exact k.trans (setFlash_keeps k.hostSide.symm k.hostHazard.symm k.hazIn.symm k.rate.symm)

theorem flashPoke_keeps (s : State) : SettleKeeps s s.flashPoke := by
  unfold State.flashPoke
  split
  · exact onStart_keeps _ _
  · exact .refl s

theorem enterRun_kept {x : Gauge} (h : x.state = .off) : GaugeKept x x.enterRun := by
  constructor <;> simp [Gauge.enterRun, h]

theorem gaugePoke_keeps (s : State) : SettleKeeps s s.gaugePoke := by
  refine keeps_foldl _ (fun s g => ?_) _ _
  unfold State.gaugePokeOne
  split
  · rename_i h; exact keeps_setGauge (enterRun_kept h.1)
  · exact .refl s

theorem resolveFn_keeps (s : State) (f : Fn) : SettleKeeps s (s.resolveFn f) := by
  refine { SettleKeeps.refl s with fns := fun g => ?_ }
  unfold State.resolveFn
  rw [State.fnRec_setFn]
  split
  · rename_i e; subst e; exact ⟨rfl, rfl, rfl⟩
  · exact ⟨rfl, rfl, rfl⟩

theorem resolveAll_keeps (s : State) : SettleKeeps s s.resolveAll := keeps_foldl _ resolveFn_keeps _ _

/-- Taking a demand keeps what settling keeps. -/
theorem takeDemand_kept (c : LampRec) (v : Nat) (r : Reason) (hold signalling : Bool) :
    LampKept c (c.takeDemand v r hold signalling) := by
  obtain ⟨cfg, sa, sf, st⟩ := c
  cases st <;> by_cases h : v = 0 <;> cases hold <;> cases signalling <;>
    constructor <;> simp [LampRec.takeDemand, LampRec.turnOn, LampRec.turnOff, LampRec.enterInrush, h]

theorem hand_keeps (s : State) (ch : LampId) : SettleKeeps s (s.hand ch) := by
  unfold State.hand
  split
  · exact keeps_setLamp (takeDemand_kept _ _ _ _ _)
  · exact .refl s

theorem handAll_keeps (s : State) : SettleKeeps s s.handAll := keeps_foldl _ hand_keeps _ _

theorem takeStep_settings (f : Fan) (step : Nat) (hold : Bool) :
    (f.takeStep step hold).settings = f.settings ∧ (f.takeStep step hold).retriesUsed = f.retriesUsed ∧
      (f.takeStep step hold).step = step := by
  unfold Fan.takeStep
  simp only []
  split <;> (try split) <;> (try split) <;> simp [Fan.stop, Fan.startWaiting]

theorem fanFollow_keeps (s : State) : SettleKeeps s s.fanFollow := by
  unfold State.fanFollow
  split
  · exact .refl s
  · exact keeps_fan (takeStep_settings _ _ _).1 (takeStep_settings _ _ _).2.1

theorem fanStart_keeps (s : State) : SettleKeeps s s.fanStart := by
  unfold State.fanStart
  split
  · exact keeps_fan rfl rfl
  · exact .refl s

theorem enterRamping_settings (f : Fan) (d : Nat) :
    (f.enterRamping d).settings = f.settings ∧ (f.enterRamping d).retriesUsed = f.retriesUsed ∧
      (f.enterRamping d).step = f.step := by
  unfold Fan.enterRamping
  split <;> simp

theorem takeGrant_settings (f : Fan) :
    f.takeGrant.settings = f.settings ∧ f.takeGrant.retriesUsed = f.retriesUsed ∧ f.takeGrant.step = f.step := by
  unfold Fan.takeGrant
  split
  · exact enterRamping_settings _ _
  · exact ⟨rfl, rfl, rfl⟩

/-- The entries of a queue name channels that may be granted: no lamp channel among them is faulted. -/
def State.Grantable (s : State) (q : List QEntry) : Prop :=
  ∀ e ∈ q, ∀ h : e.ch.val < 14, (s.lamp ⟨e.ch.val, h⟩).state ≠ .tripped ∧ (s.lamp ⟨e.ch.val, h⟩).state ≠ .lockedOut

theorem grant_keeps {s : State} {ch : Fin 15}
    (h : ∀ h : ch.val < 14, (s.lamp ⟨ch.val, h⟩).state ≠ .tripped ∧ (s.lamp ⟨ch.val, h⟩).state ≠ .lockedOut) :
    SettleKeeps s (s.grant ch) := by
  unfold State.grant
  split
  · rename_i l
    apply keeps_setLamp
    constructor <;> simp [LampRec.enterInrush, h l]
  · exact keeps_fan (takeGrant_settings _).1 (takeGrant_settings _).2.1

theorem grantPass_keeps (q : List QEntry) (s : State) (h : s.Grantable q) : SettleKeeps s (State.grantPass q s) := by
  induction q generalizing s with
  | nil => exact keeps_queue s []
  | cons e q ih =>
    unfold State.grantPass
    split
    · have k := grant_keeps (s := s) (ch := e.ch) (fun l => h e (by simp) l)
      refine k.trans (ih _ fun d hd l => ?_)
      have kl := k.lamps ⟨d.ch.val, l⟩
      have := h d (by simp [hd]) l
      exact ⟨fun e => this.1 (kl.tripped.mp e), fun e => this.2 (kl.lockedOut.mp e)⟩
    · exact keeps_queue s _

theorem waits_not_faulted {s : State} {ch : Fin 15} (w : s.waits ch = true) (l : ch.val < 14) :
    (s.lamp ⟨ch.val, l⟩).state = .queued := by
  simpa [State.waits, l] using w

theorem mem_joinedQueue {s : State} {e : QEntry} (h : e ∈ s.joinedQueue) : s.waits e.ch = true := by
  simp only [State.joinedQueue, List.mem_append, List.mem_filter, State.stillQueued, State.newEntries, List.mem_map] at h
  rcases h with (⟨⟨_, h⟩, _⟩ | ⟨⟨c, ⟨_, h⟩, rfl⟩, _⟩) | (⟨⟨_, h⟩, _⟩ | ⟨⟨c, ⟨_, h⟩, rfl⟩, _⟩)
  · exact h
  · simp at h; exact h.1
  · exact h
  · simp at h; exact h.1

theorem mem_stillQueued {s : State} {e : QEntry} (h : e ∈ s.stillQueued) : s.waits e.ch = true :=
  (List.mem_filter.mp h).2

/-- Channels that wait may be granted. -/
theorem grantable_of_waits {s : State} {q : List QEntry} (h : ∀ e ∈ q, s.waits e.ch = true) : s.Grantable q :=
  fun e he l => by simp [waits_not_faulted (h e he) l]

theorem removalPass_keeps (s : State) : SettleKeeps s s.removalPass :=
  grantPass_keeps _ _ (grantable_of_waits fun _ => mem_stillQueued)

theorem joinPass_keeps (s : State) : SettleKeeps s s.joinPass :=
  grantPass_keeps _ _ (grantable_of_waits fun _ => mem_joinedQueue)

theorem arbitrate_keeps (s : State) : SettleKeeps s s.arbitrate := (removalPass_keeps s).trans (joinPass_keeps _)

/-- What settling a cause keeps. -/
theorem settle_keeps (s : State) : SettleKeeps s s.settle :=
  (flashPoke_keeps s).trans <| (gaugePoke_keeps _).trans <| (resolveAll_keeps _).trans <| (handAll_keeps _).trans <|
    (fanFollow_keeps _).trans <| (fanStart_keeps _).trans (arbitrate_keeps _)

end Sys2Proof.Machine
end

