-- ==== Sys2Proof/Laws/Arbiter.lean ====
section
/-! SUPPORT. What the start arbiter may do: a pass over a queue as `PassGrants` says it, the removals and the join with their
passes as `GrantPass` says them (R31 to R35). -/

namespace Sys2Proof.Machine

theorem enterInrush_twice (c : LampRec) : (c.enterInrush true).enterInrush true = c.enterInrush true := rfl

theorem takeGrant_twice (f : Fan) : f.takeGrant.takeGrant = f.takeGrant := by
  by_cases h : f.settings.kickTime = 0
  · unfold Fan.takeGrant Fan.enterRamping
    by_cases k : 0 = f.target <;> simp [h, k]
  · simp [Fan.takeGrant, h]

/-- A granted fan waits no longer. -/
theorem takeGrant_not_waiting (f : Fan) : f.takeGrant.state ≠ .waiting := by
  by_cases h : f.settings.kickTime = 0
  · unfold Fan.takeGrant Fan.enterRamping
    by_cases k : 0 = f.target <;> simp [h, k]
  · simp [Fan.takeGrant, h]

/-! ### The allowance -/

/-- A sum over distinct members rises by no more than the one member that changes. -/
theorem sum_le_of_one {α : Type} [DecidableEq α] (l : List α) (f g : α → Nat) (a : α) (w : Nat) (h : l.Nodup)
    (other : ∀ c, c ≠ a → g c = f c) (one : g a ≤ f a + w) : (l.map g).sum ≤ (l.map f).sum + w := by
  induction l with
  | nil => simp
  | cons b l ih =>
    have hn := List.nodup_cons.mp h
    simp only [List.map_cons, List.sum_cons]
    by_cases e : b = a
    · subst e
      have : l.map g = l.map f := List.map_congr_left fun c hc => other c fun e => hn.1 (e ▸ hc)
      rw [this]; omega
    · have := ih hn.2
      rw [other b e]; omega

/-- A grant adds no more than its channel's weight (R30). -/
theorem grant_allowance (s : State) (ch : Fin 15) : (s.grant ch).allowanceInUse ≤ s.allowanceInUse + startWeight ch := by
  unfold State.grant
  split
  · rename_i l
    have := sum_le_of_one allLamps s.lampGrantWeight
      (s.setLamp ⟨ch.val, l⟩ ((s.lamp ⟨ch.val, l⟩).enterInrush true)).lampGrantWeight ⟨ch.val, l⟩ (startWeight ch)
      (by decide)
      (fun c h => by simp [State.lampGrantWeight, State.lamp_setLamp, h])
      (by
        simp only [State.lampGrantWeight, State.lamp_setLamp_same]
        split <;> simp)
    exact (Nat.add_le_add_right this (if s.fan.granted then startWeight 14 else 0)).trans
      (by simp only [State.allowanceInUse]; omega)
  · rename_i l
    have e : ch = 14 := Fin.ext (by have := ch.isLt; simp at this ⊢; omega)
    subst e
    have : ∀ c, ({ s with fan := s.fan.takeGrant } : State).lampGrantWeight c = s.lampGrantWeight c := fun _ => rfl
    simp only [State.allowanceInUse, List.map_congr_left fun c _ => this c]
    split <;> split <;> omega

/-! ### One pass -/

theorem grant_lamp (s : State) (e : Fin 15) (ch : LampId) :
    (s.grant e).lamp ch = if e.val = ch.val then (s.lamp ch).enterInrush true else s.lamp ch := by
  unfold State.grant
  split
  · rename_i l
    rw [State.lamp_setLamp]
    by_cases h : e.val = ch.val
    · have : ch = ⟨e.val, l⟩ := Fin.ext h.symm
      subst this; simp
    · have : ch ≠ ⟨e.val, l⟩ := fun q => h (by rw [q])
      simp [this, h]
  · have : e.val ≠ ch.val := by have := ch.isLt; omega
    simp only [this, if_false]; rfl

theorem grant_fan (s : State) (e : Fin 15) : (s.grant e).fan = if e.val = 14 then s.fan.takeGrant else s.fan := by
  unfold State.grant
  split
  · have : e.val ≠ 14 := by omega
    simp [this]
  · have : e.val = 14 := by have := e.isLt; omega
    simp [this]

theorem grant_rest (s : State) (e : Fin 15) :
    s.grant e =
      { s with bank := { s.bank with lamps := (s.grant e).bank.lamps }, queue := (s.grant e).queue, fan := (s.grant e).fan } := by
  unfold State.grant
  split <;> rfl

/-- Changes of the lamp channels, the queue and the fan alone compose. -/
theorem rest_trans {s u t : State} (h : u = { s with bank := { s.bank with lamps := u.bank.lamps }, queue := u.queue, fan := u.fan })
    (k : t = { u with bank := { u.bank with lamps := t.bank.lamps }, queue := t.queue, fan := t.fan }) :
    t = { s with bank := { s.bank with lamps := t.bank.lamps }, queue := t.queue, fan := t.fan } :=
  k.trans (by rw [h])

/-- The allowance in use is read from the lamp channels and the fan. -/
theorem allowance_congr {s t : State} (hl : ∀ ch, t.lamp ch = s.lamp ch) (hf : t.fan = s.fan) :
    t.allowanceInUse = s.allowanceInUse := by
  have : t.lampGrantWeight = s.lampGrantWeight := funext fun ch => by simp [State.lampGrantWeight, hl]
  simp [State.allowanceInUse, this, hf]

/-- What a pass over a queue does. -/
theorem grantPass_one (q : List QEntry) (s : State) : OnePass q s (State.grantPass q s) := by
  induction q generalizing s with
  | nil => exact ⟨0, by simp, rfl, rfl, by simp [State.grantPass, State.lamp], by simp [State.grantPass], by simp,
      by simp [State.grantPass]⟩
  | cons e q ih =>
    unfold State.grantPass
    split
    · rename_i fit
      obtain ⟨n, hn, p⟩ := ih (s.grant e.ch)
      refine ⟨n + 1, by simpa using hn, ?_, by simpa using p.queue, fun ch => ?_, ?_, fun _ => ?_, p.ended⟩
      · exact rest_trans (grant_rest s e.ch) p.rest
      · rw [p.lamps, grant_lamp]
        by_cases h : e.ch.val = ch.val <;> simp [h, enterInrush_twice]
      · rw [p.fan, grant_fan]
        by_cases h : e.ch.val = 14 <;> simp [h, takeGrant_twice]
      · by_cases z : n = 0
        · subst z
          have a := grant_allowance s e.ch
          have b : (State.grantPass q (s.grant e.ch)).allowanceInUse = (s.grant e.ch).allowanceInUse :=
            allowance_congr (fun ch => by simpa using p.lamps ch) (by simpa using p.fan)
          have wt : 1 ≤ startWeight e.ch := by unfold startWeight; split <;> (try split) <;> omega
          rw [b]; omega
        · exact p.fits z
    · rename_i fit
      refine ⟨0, by simp, rfl, rfl, by simp [State.lamp], by simp, by simp, fun d r hd => ?_⟩
      obtain ⟨rfl, rfl⟩ := List.cons.inj hd
      have hu : ({ s with queue := e :: q } : State).allowanceInUse = s.allowanceInUse := rfl
      have wt : 1 ≤ startWeight e.ch := by unfold startWeight; split <;> (try split) <;> omega
      rw [hu]; omega

/-- A pass over a queue of channels that wait grants waiting channels alone. -/
theorem OnePass.waiting {q : List QEntry} {s t : State} (p : OnePass q s t) (h : ∀ e ∈ q, s.waits e.ch = true) :
    (∀ ch, t.lamp ch = s.lamp ch ∨ ((s.lamp ch).state = .queued ∧ t.lamp ch = (s.lamp ch).enterInrush true)) ∧
      (t.fan = s.fan ∨ (s.fan.state = .waiting ∧ t.fan = s.fan.takeGrant)) := by
  obtain ⟨n, _, p⟩ := p
  constructor
  · intro ch
    rw [p.lamps]
    split
    · rename_i m
      obtain ⟨e, he, hc⟩ := List.any_eq_true.mp m
      have hc : e.ch.val = ch.val := by simpa using hc
      have l : e.ch.val < 14 := hc ▸ ch.isLt
      have := waits_not_faulted (h e (List.mem_of_mem_take he)) l
      have w : (⟨e.ch.val, l⟩ : LampId) = ch := Fin.ext hc
      rw [w] at this
      exact .inr ⟨this, rfl⟩
    · exact .inl rfl
  · rw [p.fan]
    split
    · rename_i m
      obtain ⟨e, he, hc⟩ := List.any_eq_true.mp m
      have hc : e.ch.val = 14 := by simpa using hc
      have := h e (List.mem_of_mem_take he)
      exact .inr ⟨by simpa [State.waits, hc] using this, rfl⟩
    · exact .inl rfl

/-! ### The removals and the join -/

/-- After a pass over a queue without repeats every entry left still waits. -/
theorem OnePass.left_wait {q : List QEntry} {s t : State} (p : OnePass q s t) (nd : (q.map (·.ch)).Nodup)
    (h : ∀ e ∈ q, s.waits e.ch = true) : ∀ e ∈ t.queue, t.waits e.ch = true := by
  obtain ⟨n, _, p⟩ := p
  intro e he
  rw [p.queue] at he
  have fresh : ∀ d ∈ q.take n, d.ch.val ≠ e.ch.val := fun d hd eq => by
    have := List.disjoint_take_drop (m := n) (n := n) nd (Nat.le_refl n)
    rw [← List.map_take, ← List.map_drop] at this
    exact this (List.mem_map_of_mem hd) (Fin.ext eq ▸ List.mem_map_of_mem he)
  have w := h e (List.mem_of_mem_drop he)
  have none : ∀ c, c = e.ch.val → (q.take n).any (fun d => d.ch.val == c) = false := fun c hc => by
    simp only [List.any_eq_false, beq_iff_eq]
    exact fun d hd => hc ▸ fresh d hd
  unfold State.waits at w ⊢
  split
  · rename_i l
    rw [p.lamps, none _ rfl]
    simpa [l] using w
  · rename_i l
    have e14 : e.ch.val = 14 := by have := e.ch.isLt; omega
    rw [p.fan, none _ e14.symm]
    simpa [l] using w

/-- The entries of a join are as R29, R32 and R33 give them. -/
theorem newEntries_join (s : State) : JoinOf s s.newEntries where
  ascending := by
    have : allQueueable.Pairwise (fun a b => a.val < b.val) := by decide
    exact List.pairwise_map.mpr (this.filter _)
  waiting ch := by
    have all : ch ∈ allQueueable := by revert ch; decide
    have still : (∃ e ∈ s.stillQueued, e.ch = ch) ↔ ((∃ e ∈ s.queue, e.ch = ch) ∧ s.waits ch = true) := by
      constructor
      · rintro ⟨e, he, rfl⟩
        exact ⟨⟨e, (List.mem_filter.mp he).1, rfl⟩, mem_stillQueued he⟩
      · rintro ⟨⟨e, he, rfl⟩, w⟩
        exact ⟨e, List.mem_filter.mpr ⟨he, w⟩, rfl⟩
    simp only [State.newEntries, List.mem_map, List.mem_filter, Bool.and_eq_true, Bool.not_eq_true', List.any_eq_false,
      beq_iff_eq]
    constructor
    · rintro ⟨_, ⟨c, ⟨_, w, fresh⟩, rfl⟩, rfl⟩
      refine ⟨w, fun e he eq => ?_⟩
      obtain ⟨d, hd, hc⟩ := still.mpr ⟨⟨e, he, eq⟩, w⟩
      exact fresh d hd hc
    · rintro ⟨w, fresh⟩
      exact ⟨_, ⟨ch, ⟨all, w, fun e he eq => fresh e (List.mem_filter.mp he).1 eq⟩, rfl⟩, rfl⟩
  classes e he := by
    simp only [State.newEntries, List.mem_map] at he
    obtain ⟨c, _, rfl⟩ := he
    constructor
    · intro h
      have h : c.val = 14 := h
      simp only [State.joinClass]
      rw [dif_neg (by omega)]
    · intro ch h f hf
      have l : c.val < 14 := h ▸ ch.isLt
      have : (⟨c.val, l⟩ : LampId) = ch := Fin.ext h
      simp only [State.joinClass]
      rw [dif_pos l, this, hf]

/-- What the arbiter does after any change of the queue or the allowance. -/
theorem arbitrate_grantPass (s : State) : GrantPass s s.arbitrate := by
  have p1 : OnePass s.stillQueued s s.removalPass := grantPass_one _ _
  have p2 : OnePass s.removalPass.joinedQueue s.removalPass s.arbitrate := grantPass_one _ _
  obtain ⟨l1, f1⟩ := p1.waiting fun _ => mem_stillQueued
  obtain ⟨l2, f2⟩ := p2.waiting fun _ => mem_joinedQueue
  refine ⟨?_, fun ch => ?_, ?_, ?_, fun nd => ⟨s.removalPass, s.removalPass.newEntries, p1, newEntries_join _, ?_⟩⟩
  · obtain ⟨_, _, q1⟩ := p1
    obtain ⟨_, _, q2⟩ := p2
    exact rest_trans q1.rest q2.rest
  · rcases l1 ch with h | ⟨hq, h⟩
    · rw [← h]; exact l2 ch
    · rcases l2 ch with k | ⟨kq, _⟩
      · exact .inr ⟨hq, k.trans h⟩
      · rw [h] at kq; exact absurd kq (by simp [LampRec.enterInrush])
  · rcases f1 with h | ⟨hw, h⟩
    · rw [← h]; exact f2
    · rcases f2 with k | ⟨kw, _⟩
      · exact .inr ⟨hw, k.trans h⟩
      · rw [h] at kw; exact absurd kw (takeGrant_not_waiting _)
  · obtain ⟨_, _, q2⟩ := p2
    exact q2.ended
  · have nd' : (s.stillQueued.map (·.ch)).Nodup := nd.sublist ((List.filter_sublist).map _)
    have all := p1.left_wait nd' fun _ => mem_stillQueued
    have same : s.removalPass.stillQueued = s.removalPass.queue := List.filter_eq_self.mpr all
    have : s.removalPass.joinedQueue = joinOrder s.removalPass.queue s.removalPass.newEntries := by
      unfold State.joinedQueue joinOrder
      rw [same]
      rfl
    rw [← this]; exact p2

end Sys2Proof.Machine
end

