-- ==== Sys2Proof/Laws/Consistent.lean ====
section
/-! SUPPORT. Settling a cause leaves the part consistent: every function resolved, every channel's demand its function's value,
the fan at the resolved step. -/

namespace Sys2Proof.Machine

/-! ### Resolution reads only what settling keeps -/

theorem level_congr {s t : State} (h : t.inputs = s.inputs) (i : InputId) : t.level i = s.level i := by
  simp [State.level, State.inRec, h]

theorem startValue_congr {s t : State} (k : SettleKeeps s t) (f : Fn) : t.startValue f = s.startValue f := by
  simp [State.startValue, k.op, (k.fns f).2.2]

theorem sceneValue_congr {s t : State} (k : SettleKeeps s t) (f : Fn) : t.sceneValue f = s.sceneValue f := by
  simp [State.sceneValue, startValue_congr k, k.scenes]

theorem openValue_congr {s t : State} (k : SettleKeeps s t) (f : Fn) : t.openValue f = s.openValue f := by
  cases f <;> simp [State.openValue, sceneValue_congr k, k.courtesy, level_congr k.inputs]

theorem ignitionGate_congr {s t : State} (k : SettleKeeps s t) (f : Fn) :
    t.ignitionGateOpen f = s.ignitionGateOpen f := by
  simp [State.ignitionGateOpen, k.op, level_congr k.inputs]

theorem gatedValue_congr {s t : State} (k : SettleKeeps s t) (f : Fn) : t.gatedValue f = s.gatedValue f := by
  simp [State.gatedValue, openValue_congr k, ignitionGate_congr k, (k.fns f).1, (k.fns f).2.1, k.supply]

theorem resolve_congr {s t : State} (k : SettleKeeps s t) (f : Fn) : t.resolve f = s.resolve f := by
  cases f <;> simp [State.resolve, gatedValue_congr k]

theorem resolvedReason_congr {s t : State} (k : SettleKeeps s t) (v : Nat × Reason) :
    t.resolvedReason v = s.resolvedReason v := by
  simp [State.resolvedReason, k.supply]

/-! ### Every function is resolved -/

/-- Resolving a list of functions writes each of them and no other. -/
theorem resolveList_fnRec (l : List Fn) (s : State) (f : Fn) :
    (l.foldl State.resolveFn s).fnRec f =
      if f ∈ l then
        { s.fnRec f with resolved := (s.resolve f).1, reason := s.resolvedReason (s.resolve f) }
      else s.fnRec f := by
  induction l generalizing s with
  | nil => simp
  | cons g l ih =>
    have k := resolveFn_keeps s g
    rw [List.foldl_cons, ih, resolve_congr k, resolvedReason_congr k]
    by_cases e : f = g
    · subst e; simp [State.resolveFn]
    · have : (s.resolveFn g).fnRec f = s.fnRec f := by simp [State.resolveFn, State.fnRec_setFn, e]
      simp [this, e]

theorem resolveAll_fnRec (s : State) (f : Fn) :
    s.resolveAll.fnRec f =
      { s.fnRec f with resolved := (s.resolve f).1, reason := s.resolvedReason (s.resolve f) } := by
  rw [State.resolveAll, resolveList_fnRec, if_pos]
  cases f <;> decide

/-! ### The stages after resolution leave the function records and the flash record alone -/

theorem hand_resolver (s : State) (ch : LampId) :
    (s.hand ch).resolver = s.resolver ∧ (s.hand ch).flash = s.flash ∧ (s.hand ch).fan = s.fan := by
  unfold State.hand
  split <;> exact ⟨rfl, rfl, rfl⟩

theorem handList_resolver (l : List LampId) (s : State) :
    (l.foldl State.hand s).resolver = s.resolver ∧ (l.foldl State.hand s).flash = s.flash ∧
      (l.foldl State.hand s).fan = s.fan := by
  induction l generalizing s with
  | nil => exact ⟨rfl, rfl, rfl⟩
  | cons a l ih =>
    have h := hand_resolver s a
    have i := ih (s.hand a)
    exact ⟨i.1.trans h.1, i.2.1.trans h.2.1, i.2.2.trans h.2.2⟩

theorem fanFollow_resolver (s : State) :
    s.fanFollow.resolver = s.resolver ∧ s.fanFollow.flash = s.flash ∧ s.fanFollow.bank = s.bank := by
  unfold State.fanFollow
  split <;> exact ⟨rfl, rfl, rfl⟩

theorem fanStart_resolver (s : State) :
    s.fanStart.resolver = s.resolver ∧ s.fanStart.flash = s.flash ∧ s.fanStart.bank = s.bank := by
  unfold State.fanStart
  split <;> exact ⟨rfl, rfl, rfl⟩

theorem grant_resolver (s : State) (ch : Fin 15) :
    (s.grant ch).resolver = s.resolver ∧ (s.grant ch).flash = s.flash ∧ (s.grant ch).fan.step = s.fan.step := by
  unfold State.grant
  split
  · exact ⟨rfl, rfl, rfl⟩
  · exact ⟨rfl, rfl, (takeGrant_settings _).2.2⟩

theorem grantPass_resolver (q : List QEntry) (s : State) :
    (State.grantPass q s).resolver = s.resolver ∧ (State.grantPass q s).flash = s.flash ∧
      (State.grantPass q s).fan.step = s.fan.step := by
  induction q generalizing s with
  | nil => exact ⟨rfl, rfl, rfl⟩
  | cons e q ih =>
    unfold State.grantPass
    split
    · have h := grant_resolver s e.ch
      have i := ih (s.grant e.ch)
      exact ⟨i.1.trans h.1, i.2.1.trans h.2.1, i.2.2.trans h.2.2⟩
    · exact ⟨rfl, rfl, rfl⟩

theorem arbitrate_resolver (s : State) :
    s.arbitrate.resolver = s.resolver ∧ s.arbitrate.flash = s.flash ∧ s.arbitrate.fan.step = s.fan.step :=
  have h := grantPass_resolver s.stillQueued s
  have k := grantPass_resolver s.removalPass.joinedQueue s.removalPass
  ⟨k.1.trans h.1, k.2.1.trans h.2.1, k.2.2.trans h.2.2⟩

/-- A grant leaves the demands of the lamp channels alone. -/
theorem grant_demand (s : State) (c : Fin 15) (ch : LampId) :
    ((s.grant c).lamp ch).demand = (s.lamp ch).demand ∧ ((s.grant c).lamp ch).demandReason = (s.lamp ch).demandReason := by
  unfold State.grant
  split
  · rw [State.lamp_setLamp]
    split
    · rename_i e; subst e; exact ⟨rfl, rfl⟩
    · exact ⟨rfl, rfl⟩
  · exact ⟨rfl, rfl⟩

theorem grantPass_demand (q : List QEntry) (s : State) (ch : LampId) :
    ((State.grantPass q s).lamp ch).demand = (s.lamp ch).demand ∧
      ((State.grantPass q s).lamp ch).demandReason = (s.lamp ch).demandReason := by
  induction q generalizing s with
  | nil => exact ⟨rfl, rfl⟩
  | cons e q ih =>
    unfold State.grantPass
    split
    · have h := grant_demand s e.ch ch
      exact ⟨(ih _).1.trans h.1, (ih _).2.trans h.2⟩
    · exact ⟨rfl, rfl⟩

theorem arbitrate_demand (s : State) (ch : LampId) :
    (s.arbitrate.lamp ch).demand = (s.lamp ch).demand ∧
      (s.arbitrate.lamp ch).demandReason = (s.lamp ch).demandReason :=
  have h := grantPass_demand s.stillQueued s ch
  have k := grantPass_demand s.removalPass.joinedQueue s.removalPass ch
  ⟨k.1.trans h.1, k.2.trans h.2⟩

/-! ### Every channel holds its function's value -/

theorem serving_congr {s t : State} (ho : t.op = s.op) (hl : ∀ ch, LampKept (s.lamp ch) (t.lamp ch)) (ch : LampId) :
    t.serving ch = s.serving ch := by
  have h1 := (hl ch).cfg
  have h2 := (hl ch).substituteFor
  simp only [State.serving, Bank.servingIn, ho]
  simp only [State.lamp] at h1 h2
  rw [h1, h2]
  split
  · rfl
  · split
    · rename_i p _
      have h3 := (hl p).cfg
      simp only [State.lamp] at h3
      rw [h3]
    · rfl

theorem wantOf_congr {s t : State} (k : SettleKeeps s t) (hr : t.resolver = s.resolver) (hf : t.flash = s.flash)
    (ch : LampId) : t.wantOf ch = s.wantOf ch := by
  have hs := serving_congr k.op k.lamps ch
  have hc := (k.lamps ch).cfg
  have hfn : ∀ f, t.fnRec f = s.fnRec f := fun f => by simp [State.fnRec, hr]
  have hv : ∀ f, t.flashValue ch f = s.flashValue ch f := fun f => by
    simp [State.flashValue, hf, hfn, State.stopTurnChannel, k.op, hc, hs]
  simp only [State.wantOf, hs, hfn, hv]

theorem takeDemand_demand (c : LampRec) (v : Nat) (r : Reason) (hold signalling : Bool) :
    (c.takeDemand v r hold signalling).demand = v ∧ (c.takeDemand v r hold signalling).demandReason = r := by
  obtain ⟨cfg, sa, sf, st⟩ := c
  cases st <;> by_cases h : v = 0 <;> cases hold <;> cases signalling <;>
    simp [LampRec.takeDemand, LampRec.turnOn, LampRec.turnOff, LampRec.enterInrush, h]

/-- A channel that is handed holds what it is to carry. -/
theorem hand_demand (s : State) (ch : LampId) :
    ((s.hand ch).lamp ch).demand = (s.wantOf ch).1 ∧ ((s.hand ch).lamp ch).demandReason = (s.wantOf ch).2 := by
  unfold State.hand
  split
  · simp [takeDemand_demand]
  · rename_i h
    simp only [State.handDue, Bool.or_eq_true, bne_iff_ne, ne_eq, not_or, not_not] at h
    exact ⟨h.1.1.2.symm, h.1.2.symm⟩

theorem hand_other (s : State) {ch c : LampId} (h : c ≠ ch) : (s.hand ch).lamp c = s.lamp c := by
  unfold State.hand
  split
  · exact State.lamp_setLamp_other _ _ h
  · rfl

theorem handList_demand (l : List LampId) (s : State) (ch : LampId)
    (h : ch ∈ l ∨ ((s.lamp ch).demand = (s.wantOf ch).1 ∧ (s.lamp ch).demandReason = (s.wantOf ch).2)) :
    ((l.foldl State.hand s).lamp ch).demand = (s.wantOf ch).1 ∧
      ((l.foldl State.hand s).lamp ch).demandReason = (s.wantOf ch).2 := by
  induction l generalizing s with
  | nil => simpa using h
  | cons a l ih =>
    have kw : (s.hand a).wantOf ch = s.wantOf ch :=
      wantOf_congr (hand_keeps s a) (hand_resolver s a).1 (hand_resolver s a).2.1 ch
    rw [List.foldl_cons, ← kw]
    apply ih
    by_cases e : ch = a
    · subst e; rw [kw]; exact .inr (hand_demand s ch)
    · rw [hand_other s e, kw]
      rcases h with h | h
      · exact .inl (by simpa [e] using h)
      · exact .inr h

theorem handAll_demand (s : State) (ch : LampId) :
    (s.handAll.lamp ch).demand = (s.wantOf ch).1 ∧ (s.handAll.lamp ch).demandReason = (s.wantOf ch).2 :=
  handList_demand _ _ _ (.inl (by fin_cases ch <;> decide))

theorem fanFollow_step (s : State) : s.fanFollow.fan.step = (s.fnRec .fan).resolved := by
  unfold State.fanFollow
  split
  · rename_i h; exact h.symm
  · exact (takeStep_settings _ _ _).2.2

theorem fanStart_step (s : State) : s.fanStart.fan.step = s.fan.step := by
  unfold State.fanStart
  split <;> rfl

/-! ### The whole -/

theorem settle_resolver (s : State) : s.settle.resolver = s.flashPoke.gaugePoke.resolveAll.resolver := by
  rw [State.settle, (arbitrate_resolver _).1, (fanStart_resolver _).1, (fanFollow_resolver _).1, State.handAll,
    (handList_resolver _ _).1]

/-- Settling a cause resolves every function (R48). -/
theorem settle_fnRec (s : State) (f : Fn) :
    s.settle.fnRec f =
      { s.flashPoke.gaugePoke.fnRec f with
        resolved := (s.resolve f).1, reason := s.resolvedReason (s.resolve f) } := by
  have k := (flashPoke_keeps s).trans (gaugePoke_keeps _)
  rw [State.fnRec, settle_resolver, ← resolve_congr k, ← resolvedReason_congr k]
  exact resolveAll_fnRec _ f

/-- Settling a cause leaves the part consistent. -/
theorem settle_consistent (s : State) : Consistent s.settle where
  resolved f := by
    have k := settle_keeps s
    rw [settle_fnRec, resolve_congr k, resolvedReason_congr k]
    exact ⟨rfl, rfl⟩
  demands ch := by
    let u := s.flashPoke.gaugePoke.resolveAll
    have k3 := (fanFollow_keeps u.handAll).trans ((fanStart_keeps _).trans (arbitrate_keeps _))
    have hr : s.settle.resolver = u.handAll.resolver := by
      rw [settle_resolver, State.handAll, (handList_resolver _ _).1]
    have hf : s.settle.flash = u.handAll.flash := by
      rw [State.settle, (arbitrate_resolver _).2.1, (fanStart_resolver _).2.1, (fanFollow_resolver _).2.1]
    have w1 : s.settle.wantOf ch = u.handAll.wantOf ch := wantOf_congr k3 hr hf ch
    have w2 : u.handAll.wantOf ch = u.wantOf ch :=
      wantOf_congr (handAll_keeps u) (handList_resolver _ _).1 (handList_resolver _ _).2.1 ch
    have d : (s.settle.lamp ch).demand = (u.handAll.lamp ch).demand ∧
        (s.settle.lamp ch).demandReason = (u.handAll.lamp ch).demandReason := by
      have g := arbitrate_demand u.handAll.fanFollow.fanStart ch
      have b : u.handAll.fanFollow.fanStart.bank = u.handAll.bank :=
        (fanStart_resolver _).2.2.trans (fanFollow_resolver _).2.2
      have l : u.handAll.fanFollow.fanStart.lamp ch = u.handAll.lamp ch := by simp [State.lamp, b]
      rw [l] at g
      exact g
    rw [w1, w2, d.1, d.2]
    exact handAll_demand u ch
  fanStep := by
    have h : s.settle.resolver = s.flashPoke.gaugePoke.resolveAll.handAll.resolver := by
      rw [settle_resolver, State.handAll, (handList_resolver _ _).1]
    have e : s.settle.fan.step = (s.flashPoke.gaugePoke.resolveAll.handAll.fnRec .fan).resolved := by
      rw [State.settle, (arbitrate_resolver _).2.2, fanStart_step, fanFollow_step]
    rw [e, State.fnRec, State.fnRec, h]

end Sys2Proof.Machine
end

