-- ==== Sys2Proof/Laws/Events.lean ====
section
/-! SUPPORT. Raising an event changes the report block alone (R173). -/

namespace Sys2Proof.Machine

/-- Everything that raising an event can do: only the queue and the overflow flag may change. -/
theorem raise_rest (s : State) (k : EventKind) (subject detail : Nat) :
    s.raise k subject detail =
      { s with report := { s.report with events := (s.raise k subject detail).report.events
                                         overflow := (s.raise k subject detail).report.overflow } } := by
  unfold State.raise
  split <;> rfl

@[simp] theorem raise_bank (s : State) (k : EventKind) (a d : Nat) : (s.raise k a d).bank = s.bank := by rw [raise_rest]
@[simp] theorem raise_queue (s : State) (k : EventKind) (a d : Nat) : (s.raise k a d).queue = s.queue := by rw [raise_rest]
@[simp] theorem raise_resolver (s : State) (k : EventKind) (a d : Nat) : (s.raise k a d).resolver = s.resolver := by
  rw [raise_rest]
@[simp] theorem raise_flash (s : State) (k : EventKind) (a d : Nat) : (s.raise k a d).flash = s.flash := by rw [raise_rest]
@[simp] theorem raise_fan (s : State) (k : EventKind) (a d : Nat) : (s.raise k a d).fan = s.fan := by rw [raise_rest]
@[simp] theorem raise_gauges (s : State) (k : EventKind) (a d : Nat) : (s.raise k a d).gauges = s.gauges := by rw [raise_rest]
@[simp] theorem raise_supply (s : State) (k : EventKind) (a d : Nat) : (s.raise k a d).supply = s.supply := by rw [raise_rest]
@[simp] theorem raise_inputs (s : State) (k : EventKind) (a d : Nat) : (s.raise k a d).inputs = s.inputs := by rw [raise_rest]
@[simp] theorem raise_op (s : State) (k : EventKind) (a d : Nat) : (s.raise k a d).op = s.op := by rw [raise_rest]
@[simp] theorem raise_link (s : State) (k : EventKind) (a d : Nat) : (s.raise k a d).link = s.link := by rw [raise_rest]
@[simp] theorem raise_freeCount (s : State) (k : EventKind) (a d : Nat) : (s.raise k a d).freeCount = s.freeCount := by
  rw [raise_rest]
@[simp] theorem raise_pending (s : State) (k : EventKind) (a d : Nat) : (s.raise k a d).pending = s.pending := by rw [raise_rest]
@[simp] theorem raise_mask (s : State) (k : EventKind) (a d : Nat) : (s.raise k a d).report.mask = s.report.mask := by
  rw [raise_rest]
@[simp] theorem raise_causes (s : State) (k : EventKind) (a d : Nat) : (s.raise k a d).report.causes = s.report.causes := by
  rw [raise_rest]
@[simp] theorem raise_timeCount (s : State) (k : EventKind) (a d : Nat) :
    (s.raise k a d).report.timeCount = s.report.timeCount := by rw [raise_rest]

/-- An event of a kind that the mask disables changes nothing (R173 step 1). -/
theorem raise_masked {s : State} {k : EventKind} (h : s.eventEnabled k = false) (a d : Nat) : s.raise k a d = s := by
  simp [State.raise, h]

end Sys2Proof.Machine
end

