-- ==== Sys2Proof/Laws/Requests.lean ====
section
/-! SUPPORT. The spec lemmas of taking a request: what every request does that is taken, refused for its length, or not taken;
and what placing a reply leaves alone. -/

namespace Sys2Proof.Machine

/-! ### While no reset holds the part -/

theorem live_run {s : State} (h : s.op.resetHeld = false) (k : State → State) : s.live k = .next (k s) := by
  simp [State.live, h]

theorem live_held {s : State} (h : s.op.resetHeld = true) (k : State → State) : s.live k = .next s := by
  simp [State.live, h]

/-! ### The body link after a reply -/

theorem send_inbound (l : Link) (q : List Frame) (f : Frame) :
    { l.send f with inbound := q } = { l with inbound := q }.send f := by
  cases l with
  | mk a i sh w => cases sh <;> rfl

/-- The frame at the head leaves the queue before its owner acts. -/
@[simp] theorem popInbound_op (s : State) (rest : List Frame) : (s.popInbound rest).op = s.op := rfl
@[simp] theorem popInbound_bank (s : State) (rest : List Frame) : (s.popInbound rest).bank = s.bank := rfl
@[simp] theorem popInbound_queue (s : State) (rest : List Frame) : (s.popInbound rest).queue = s.queue := rfl
@[simp] theorem popInbound_resolver (s : State) (rest : List Frame) : (s.popInbound rest).resolver = s.resolver := rfl
@[simp] theorem popInbound_flash (s : State) (rest : List Frame) : (s.popInbound rest).flash = s.flash := rfl
@[simp] theorem popInbound_fan (s : State) (rest : List Frame) : (s.popInbound rest).fan = s.fan := rfl
@[simp] theorem popInbound_gauges (s : State) (rest : List Frame) : (s.popInbound rest).gauges = s.gauges := rfl
@[simp] theorem popInbound_supply (s : State) (rest : List Frame) : (s.popInbound rest).supply = s.supply := rfl
@[simp] theorem popInbound_inputs (s : State) (rest : List Frame) : (s.popInbound rest).inputs = s.inputs := rfl
@[simp] theorem popInbound_report (s : State) (rest : List Frame) : (s.popInbound rest).report = s.report := rfl
@[simp] theorem popInbound_freeCount (s : State) (rest : List Frame) : (s.popInbound rest).freeCount = s.freeCount := rfl
@[simp] theorem popInbound_pending (s : State) (rest : List Frame) : (s.popInbound rest).pending = s.pending := rfl
@[simp] theorem popInbound_link (s : State) (rest : List Frame) :
    (s.popInbound rest).link = { s.link with inbound := rest } := rfl

/-! ### Taking -/

/-- The bytes of kinds are those of Table 9-3, one kind to a byte. -/
theorem ofCode_code (k : ReqKind) : ReqKind.ofCode k.code = some k := by cases k <;> decide

theorem code_of_ofCode {b : Byte} {k : ReqKind} (h : ReqKind.ofCode b = some k) : k.code = b := by
  have := List.find?_some h
  simpa using this

/-- A request whose payload has a length its kind allows is taken: its owner answers, and the answer's frame enters the
transmitter (R166, R168). -/
theorem request_taken {k : ReqKind} {owner : List Byte → State → Answer} {s : State} {p : List Byte} {rest : List Frame}
    (h : Takes s k.code p rest) (hl : k.lengthOk p.length = true) :
    s.live (State.request k owner) = .next
      { (owner p (s.popInbound rest)).state with
        link := (owner p (s.popInbound rest)).state.link.send ((owner p (s.popInbound rest)).frame k.code) } := by
  obtain ⟨h1, h2, h3, h4, h5⟩ := h
  simp [State.live, h1, State.request, h5, State.mayTake, h2, h3, h4, answerOf, hl]

/-- A request whose payload has another length is refused BAD_LENGTH (R166). -/
theorem request_badLength {k : ReqKind} {owner : List Byte → State → Answer} {s : State} {p : List Byte}
    {rest : List Frame} (h : Takes s k.code p rest) (hl : k.lengthOk p.length = false) :
    s.live (State.request k owner) = .next { s with link := linkAfter s rest k.code .badLength [] } := by
  obtain ⟨h1, h2, h3, h4, h5⟩ := h
  simp [State.live, h1, State.request, h5, State.mayTake, h2, h3, h4, answerOf, hl, refuse, linkAfter, Answer.frame,
    State.popInbound]

/-- While the waiting stage is full, or a RESTART stands taken, no request is taken (R166, R150). -/
theorem request_waits {k : ReqKind} {owner : List Byte → State → Answer} {s : State}
    (h : s.link.waiting ≠ none ∨ s.link.restartTaken = true) : s.live (State.request k owner) = .next s := by
  have m : s.mayTake = false := by
    rcases h with h | h
    · simp [State.mayTake, Option.isNone_iff_eq_none, h]
    · simp [State.mayTake, h]
  unfold State.live
  split
  · rfl
  · simp only [State.request, m]
    split <;> simp

/-- A reply alone: the owner leaves the state as it was. -/
theorem request_reply {k : ReqKind} {owner : List Byte → State → Answer} {s : State} {p : List Byte} {rest : List Frame}
    {c : ResultCode} {data : List Byte} (h : Takes s k.code p rest) (hl : k.lengthOk p.length = true)
    (ha : owner p (s.popInbound rest) = { state := s.popInbound rest, code := c, data := data }) :
    s.live (State.request k owner) = .next { s with link := linkAfter s rest k.code c data } := by
  rw [request_taken h hl, ha]
  rfl

/-! ### What is read does not depend on the link -/

theorem consistent_link {s : State} (h : Consistent s) (l : Link) : Consistent { s with link := l } := by
  constructor
  · intro f
    have := h.resolved f
    cases f <;> exact this
  · intro ch
    exact h.demands ch
  · exact h.fanStep

theorem settleKeeps_link {s t : State} (k : SettleKeeps s t) (l : Link) :
    SettleKeeps { s with link := l } { t with link := l } := by
  obtain ⟨a1, a2, a3, a4, a5, a6, a7, a8, a9, a10, a11, a12, a13, a14, a15, a16, a17, a18, a19, a20, a21, a22, a23⟩ := k
  exact ⟨a1, a2, a3, rfl, a5, a6, a7, a8, a9, a10, a11, a12, a13, a14, a15, a16, a17, a18, a19, a20, a21, a22, a23⟩

end Sys2Proof.Machine
end

