-- ==== Sys2Proof/Laws/Samples.lean ====
section
/-! SUPPORT. What a sampling moment takes on each kind of channel, and a moment with one reading (R3, R31). -/

namespace Sys2Proof.Machine

/-- What a sampling moment takes on a lamp channel (R3). -/
theorem State.takenOn_lamp (s : State) (ch : LampId) :
    s.takenOn (lampChan ch) =
      if (s.lamp ch).state.conducts then .current (10 * s.appliedDuty ch)
      else if s.readBackTaken ch then .line else .nothing := by
  simp [State.takenOn, lampChan]; rfl

/-- What a sampling moment takes on channel 14 (R3, R90). -/
theorem State.takenOn_fan (s : State) :
    s.takenOn fanChan = if s.fan.driven then .current s.fan.applied else .nothing := rfl

/-- What a sampling moment takes on a gauge channel (R3, R116). -/
theorem State.takenOn_gauge (s : State) (g : GaugeId) :
    s.takenOn (gaugeChan g) = if s.gaugeSampled g then .current (s.gauge g).d else .nothing := by
  fin_cases g <;> rfl

/-- A current sample of a lamp channel reaches the trip and lamp-out rules. -/
@[simp] theorem State.sampleActs_lamp (s : State) (ch : LampId) (v : Nat) :
    s.sampleActs (lampChan ch) v = s.lampActs ch v := by
  simp [State.sampleActs, lampChan]

/-- A current sample of channel 14 reaches the stall rules. -/
@[simp] theorem State.sampleActs_fan (s : State) (v : Nat) : s.sampleActs fanChan v = s.fanActs v := rfl

/-- A current sample of a gauge channel reaches the short rule. -/
@[simp] theorem State.sampleActs_gauge (s : State) (g : GaugeId) (v : Nat) :
    s.sampleActs (gaugeChan g) v = s.gaugeActs g v := by
  fin_cases g <;> rfl

/-- A read-back reaches the fed rule of its lamp channel. -/
@[simp] theorem State.readingActs_line (s : State) (ch : LampId) (v : Nat) :
    s.readingActs (lampChan ch) .line v = s.readBack ch v := by
  simp [State.readingActs, lampChan]

/-- The reading due at a moment at which one falls due on one channel alone. -/
theorem due_only (ch : ChanId) (v : Nat) :
    allChans.filterMap (fun c => (only ch v)[c].map (fun x => (c, x))) = [(ch, v)] := by
  fin_cases ch <;> rfl

/-- A sampling moment with one reading: it is stored, reaches its channel's rules, and is settled (R3, R31). -/
theorem State.currentSample_only (s : State) (ch : ChanId) (v : Nat) (h : s.op.state ≠ .sleep) :
    s.currentSample (only ch v) =
      ((s.storeTaken ch (s.takenOn ch) v).readingActs ch (s.takenOn ch) v).settle := by
  simp only [State.currentSample, due_only, if_neg h, List.foldl_cons, List.foldl_nil]
end Sys2Proof.Machine
end

