-- ==== Sys2Proof/Laws/Substitution.lean ====
section
/-! SUPPORT. What a change of serving function and an examination of the substitution table can do (R21, R23), and what a byte in error
does to the seen flags (R161, R163). -/

namespace Sys2Proof.Machine

/-! ### A change of serving function (R21) -/

/-- A change of serving function touches the lamp channels and the start queue alone. -/
theorem functionChanged_rest (s : State) (ch : LampId) :
    s.functionChanged ch =
      { s with bank := { s.bank with lamps := (s.functionChanged ch).bank.lamps }, queue := (s.functionChanged ch).queue } := by
  unfold State.functionChanged
  dsimp only
  split <;> rfl

@[simp] theorem functionChanged_subEntry (s : State) (ch : LampId) (e : Fin 3) :
    (s.functionChanged ch).subEntry e = s.subEntry e := by rw [functionChanged_rest]; rfl

/-- A change of serving function leaves the record of every other lamp channel. -/
theorem functionChanged_lamp_other (s : State) {ch c : LampId} (h : c ≠ ch) : (s.functionChanged ch).lamp c = s.lamp c := by
  unfold State.functionChanged
  dsimp only
  split
  · exact State.lamp_setLamp_other s _ h
  · exact State.lamp_setLamp_other s _ h

/-! ### Engagement (R23) -/

/-- Nothing but the lamp channels, the substitution table, the start queue and the report block differs between two states. -/
def Examined (s t : State) : Prop :=
  t = { s with
    bank := { s.bank with lamps := t.bank.lamps, subs := t.bank.subs }
    queue := t.queue
    report := t.report }

theorem Examined.refl (s : State) : Examined s s := rfl

theorem Examined.trans {s t u : State} (h : Examined s t) (k : Examined t u) : Examined s u := by
  unfold Examined at h k ⊢
  rw [k, h]

/-- Everything that an engagement can touch. -/
theorem engage_examined (s : State) (e : Fin 3) (p q : LampId) : Examined s (s.engage e p q) := by
  unfold Examined State.engage
  dsimp only
  rw [raise_rest, functionChanged_rest]
  rfl

theorem examineEntry_examined (s : State) (e : Fin 3) : Examined s (s.examineEntry e) := by
  unfold State.examineEntry
  split
  · split
    · exact engage_examined s e _ _
    · exact Examined.refl s
  · exact Examined.refl s

/-- Everything that an examination of the table can touch (R23). -/
theorem examine_examined (s : State) (occasion : LampId × LampId → Bool) : Examined s (s.examine occasion) := by
  unfold State.examine
  generalize allSubs = l
  induction l generalizing s with
  | nil => exact Examined.refl s
  | cons e l ih =>
    rw [List.foldl_cons]
    refine Examined.trans ?_ (ih _)
    split
    · exact examineEntry_examined s e
    · exact Examined.refl s

/-- An engagement leaves the record of every lamp channel but its spare. -/
theorem engage_lamp_other (s : State) (e : Fin 3) (p : LampId) {q c : LampId} (h : c ≠ q) :
    (s.engage e p q).lamp c = s.lamp c := by
  have raised (u : State) : (u.raise .subst p.val q.val).lamp c = u.lamp c := by rw [raise_rest]; rfl
  unfold State.engage
  dsimp only
  rw [raised, functionChanged_lamp_other _ h]
  exact State.lamp_setLamp_other s _ h

/-! ### A byte in error (R161, R163, R165) -/

/-- A byte in error in HUNT sets line_error, also while a RESTART stands taken. -/
theorem lineErrored_hunt {s : State} (h : s.link.assembler = .hunt) :
    s.lineErrored = { s with link := { s.link with lineError := true } } := by
  simp only [State.lineErrored, h]
  rw [if_pos trivial, ← h]

/-- A byte in error within a frame discards it, and sets line_error unless a RESTART stands taken. -/
theorem lineErrored_frame {s : State} (h : s.link.assembler ≠ .hunt) :
    s.lineErrored =
      { s with link := { s.link with assembler := .hunt, lineError := s.link.lineError || !s.link.restartTaken } } := by
  simp only [State.lineErrored, if_neg h, Link.flagAfter]

end Sys2Proof.Machine
end

