-- ==== Sys2Proof/WellFormed.lean ====
section
/-! DEFINITION. Which commands are well formed: every measured value lies within the range the spec gives its field. -/

namespace Sys2Proof

/-- Why a command is not well formed. -/
inductive IllFormed where
  /-- A sense code above 1023 (R107: a 10-bit code). -/
  | senseCodeTooWide
  /-- A sample on BAT above 65,535 mV (Table 7-1). -/
  | batAboveField
  /-- A sample on CHG above 65,535 mV (Table 7-1). -/
  | chgAboveField
  /-- A scene id of 0 (Table 3-5: ids are 1–255). -/
  | sceneIdZero
  deriving DecidableEq, Repr

/-- The fault of a supply sample, if it has one (Table 7-1). -/
def supplyIllFormed (bat chg : Nat) : Option IllFormed :=
  if 65535 < bat then some .batAboveField
  else if 65535 < chg then some .chgAboveField
  else none

/-- The fault of a command, if it has one. -/
def Instr.illFormed : Instr → Option IllFormed
  | .senseSample _ code => if 1023 < code then some .senseCodeTooWide else none
  | .supplySample bat chg => supplyIllFormed bat chg
  | .holdEnd bat chg => supplyIllFormed bat chg
  | .sceneExpiry id => if id = 0 then some .sceneIdZero else none
  | _ => none

/-- A command is well formed when no check refuses it. -/
abbrev Instr.WellFormed (i : Instr) : Prop := i.illFormed = none

end Sys2Proof
end

