-- ==== Sys2Proof/Tests/Slice0.lean ====
section
/-! SUPPORT. The model's own tests: the checks of WellFormed, worked examples and tables of the manual, and for every statement
with hypotheses a state that meets them. -/

namespace Sys2Proof.Tests

/- The tests are checked one after another: checked at once, each on a thread of its own, they ask for more memory than a check has. -/
set_option Elab.async false

open Sys2Proof Sys2Proof.Machine

/-! ### WellFormed refuses what it should -/

theorem test_senseCodeTooWide : Instr.illFormed (.senseSample 0 1024) = some .senseCodeTooWide := by decide
theorem test_senseCode_top : Instr.illFormed (.senseSample 0 1023) = none := by decide
theorem test_batAboveField : Instr.illFormed (.supplySample 65536 0) = some .batAboveField := by decide
theorem test_chgAboveField : Instr.illFormed (.holdEnd 65535 65536) = some .chgAboveField := by decide
theorem test_sceneIdZero : Instr.illFormed (.sceneExpiry 0) = some .sceneIdZero := by decide

/-- No row of the opcode table gives bits, so no word spells a command. -/
theorem test_no_word_decodes : decodeTableWord 8 0x01 = none := by decide

/-! ### States for the tests -/

/-- The part after reset, in a given operating state. -/
def inState (o : OpState) : State :=
  { State.reset with op := { State.reset.op with state := o, configured := o != .limp } }

/-- A request waits at the head of the inbound queue. -/
def asked (s : State) (kind : Byte) (payload : List Byte) : State :=
  { s with link := { s.link with inbound := [{ kind := kind, payload := payload }] } }

/-- The frame in the transmitter's shifting stage after a command. -/
def replyOf (c : Instr) (s : State) : Option Frame :=
  match exec c s with
  | .next t => t.link.shifting
  | _ => none

/-- A field of the state after a command. -/
def after {α : Type} (c : Instr) (s : State) (read : State → α) : Option α :=
  match exec c s with
  | .next t => some (read t)
  | _ => none

/-- A lamp channel in a given state. -/
def withLamp (s : State) (ch : LampId) (x : LampState) : State := s.setLamp ch { s.lamp ch with state := x }

/-- The fan in a given state. -/
def withFan (s : State) (x : FanState) : State := { s with fan := { s.fan with state := x } }

/-- A gauge in a given state, with ten samples of one code. -/
def withGauge (s : State) (g : GaugeId) (x : GaugeState) (code : Nat) : State :=
  s.setGauge g { s.gauge g with state := x, samples := List.replicate 10 code }

/-- HOLD stands. -/
def held (s : State) : State := { s with supply := { s.supply with hold := true } }

/-- Every input is low. -/
def low : PinLevels := { ign := false, brake := false, haz := false, door := false, sw0 := false, sw1 := false }

/-- A confirmation window in which IGN, HAZ and DOOR have each given three asserted samples. -/
def ripeWindow : Window := { State.reset.openWindow with ignRun := 3, hazRun := 3, doorRun := 3 }

/-! ### Witnesses: the whole machine -/

theorem witness_resets_held : (held State.reset).op.resetHeld = false ∧
    ({ State.reset with op := { State.reset.op with resetHeld := true } } : State).op.resetHeld = true ∧
    isReset .timeCountTick = false := by decide

theorem witness_restart_reset :
    let s := { State.reset with link := { State.reset.link with restartTaken := true } }
    s.op.resetHeld = false ∧ s.link.restartTaken = true ∧ s.link.shifting = none ∧ s.link.waiting = none := by decide

/-- A RESTART stands taken while its reply is still in the transmitter, then in both states of the reset it causes. -/
def restarting : State :=
  { State.reset with
    link := { State.reset.link with restartTaken := true, shifting := some { kind := 0x94, payload := [0] } } }

theorem witness_restarting : restarting.link.restartTaken = true ∧ restarting.link.shifting ≠ none ∧
    (∀ polOpen, Instr.timeCountTick ≠ .resetRelease polOpen) ∧ (∃ t, exec .timeCountTick restarting = .next t) :=
  ⟨by decide, by decide, by decide, _, rfl⟩

theorem witness_release : ({ State.reset with op := { State.reset.op with resetHeld := true } } : State).op.resetHeld = true ∧
    (∀ polOpen, Instr.gapTimeout ≠ .resetRelease polOpen) ∧ (∃ t, exec .gapTimeout State.reset = .next t) ∧
    (withLamp (State.reset.setLamp 4 { State.reset.lamp 4 with demand := 100 }) 4 .on).output (lampChan 4) =
      some (.positive, 1000) := ⟨by decide, by decide, ⟨_, rfl⟩, by decide⟩

/-- Channels 0 and 1 in INRUSH with their grants hold the whole allowance. -/
def fullAllowance : State :=
  let grantOf (s : State) (ch : LampId) : State := s.setLamp ch { s.lamp ch with state := .inrush, granted := true }
  { grantOf (grantOf State.reset 0) 1 with pending := [.timeCountTick] }

theorem witness_allowance : fullAllowance.allowanceInUse = 4 ∧ AllowanceOk fullAllowance ∧
    ∃ t, step fullAllowance = .next t := ⟨by decide, by unfold AllowanceOk; decide, _, rfl⟩

/-- Two records, an urgent one before an ordinary one, and one scene. -/
def someQueued : State :=
  { State.reset with
    report :=
      { State.reset.report with
        events := [{ kind := .chTrip, subject := 3, detail := 15000, count := 255, time := 7 },
          { kind := .input, subject := 0, detail := 1, count := 1, time := 2 }] }
    resolver := { State.reset.resolver with scenes := [{ id := 1, entries := [(.panel, 40)], life := none }] }
    pending := [.evfetch] }

theorem witness_queues : EventsOk someQueued ∧ BoundsOk someQueued ∧ ∃ t, step someQueued = .next t :=
  ⟨by unfold EventsOk; decide, by unfold BoundsOk; decide, _, rfl⟩

/-- Channels 0 and 1 hold the whole allowance while channel 4 waits behind channel 10, of class 0 both, and the fan behind them. -/
def waiting : State :=
  let s := withFan (withLamp (withLamp fullAllowance 10 .queued) 4 .queued) .waiting
  { s with queue := [⟨10, 0⟩, ⟨4, 0⟩, ⟨14, 2⟩], pending := [.inrushEnd 0] }

theorem witness_start_queue : QueueOk waiting ∧ waiting.queue.length = 3 ∧ oneCause (.inrushEnd 0) = true ∧
    ∃ t, step waiting = .next t := by
  refine ⟨⟨by decide, by decide, by decide, by decide, ?_⟩, by decide, by decide, _, rfl⟩
  intro e rest h
  cases h
  decide

/-- The fan waits before and after the end of the window of channel 0, and keeps its entry; several changes of level meet a queue in a
part that agrees with itself. -/
theorem witness_keeps_place : after (.inrushEnd 0) waiting (fun t => t.queue) = some [⟨14, 2⟩] ∧
    oneCause (.inputSample low) = false ∧ Consistent waiting.settle ∧ QueueOk waiting.settle ∧
    waiting.settle.op.state ≠ .sleep ∧ waiting.settle.queue = waiting.queue ∧
    after (.inputSample low) waiting.settle (fun t => t.queue) = some waiting.queue := by
  refine ⟨by decide +kernel, by decide, settle_consistent _, ⟨?_, ?_, ?_, ?_, ?_⟩, ?_, ?_, ?_⟩
  · decide +kernel
  · decide +kernel
  · decide +kernel
  · decide +kernel
  · intro e rest h
    have w : waiting.settle.queue = ⟨10, 0⟩ :: [⟨4, 0⟩, ⟨14, 2⟩] := by decide +kernel
    cases w.symm.trans h
    decide +kernel
  · decide +kernel
  · decide +kernel
  · decide +kernel

/-- DRIVE with the fan in its kick and gauge A in RUN, driven. -/
def driving : State :=
  let s := withFan (inState .drive) .kick
  let s := { s with fan := { s.fan with step := 2, applied := 1000, kickTimer := some 300, granted := true } }
  { s.setGauge 0 { s.gauge 0 with state := .run, d := 250 } with pending := [.kickEnd] }

theorem witness_units : UnitsOk driving ∧ (driving.gauge 0).d ≠ 0 ∧ ∃ t, step driving = .next t :=
  ⟨⟨⟨by decide, by decide, by decide, by decide, by decide⟩, by unfold GaugesOk; decide, ⟨by decide, by decide, by decide⟩⟩,
    by decide, _, rfl⟩

theorem witness_units_parked : UnitsOk (inState .park) ∧ (inState .park).op.state ≠ .drive :=
  ⟨⟨⟨by decide, by decide, by decide, by decide, by decide⟩, by unfold GaugesOk; decide, ⟨by decide, by decide, by decide⟩⟩,
    by decide⟩

/-- WATCH, with its flags. -/
def watching : State :=
  { inState .watch with op := { (inState .watch).op with sleepRequested := true }, pending := [.timeCountTick] }

theorem witness_flags : FlagsOk watching ∧ ∃ t, step watching = .next t :=
  ⟨⟨by decide, by decide, by decide, by decide⟩, _, rfl⟩

/-- HOLD stands over a channel that waits for its retry. -/
def holding : State := { held (withLamp (inState .drive) 4 .tripped) with pending := [.retryExpiry 4] }

theorem witness_hold : holding.supply.hold = true ∧ HoldOk holding ∧ ∃ t, step holding = .next t :=
  ⟨by decide, by unfold HoldOk; decide, _, rfl⟩

/-- PARK, with channel 12 standing in for channel 4, which serves BRAKE. -/
def substituted : State :=
  let s := (inState .park).setSub 0 { pair := some (4, 12), engaged := true }
  let s := withLamp s 4 .lockedOut
  let c := s.lamp 12
  { s.setLamp 12 { c with setAside := some c.cfg, substituteFor := some 4 } with pending := [.timeCountTick] }

theorem witness_substitution : SubstitutionOk substituted ∧ SignallingOk substituted ∧
    substituted.signalling 12 = true ∧ ∃ t, step substituted = .next t := by
  refine ⟨⟨by decide, by decide, by decide, by decide, ?_, by decide⟩, by unfold SignallingOk; decide, by decide, _, rfl⟩
  intro q c h
  by_cases e : q = 12
  · subst e
    have : (substituted.lamp 12).setAside = some (substituted.lamp 12).cfg := by decide
    rw [this] at h
    cases h
    rfl
  · have : ∀ q : LampId, q ≠ 12 → (substituted.lamp q).setAside = none := by decide
    simp [this q e] at h

theorem witness_consistent : Consistent (inState .drive).settle ∧ (inState .drive).settle.op.state ≠ .limp ∧
    ∃ t, step (inState .drive).settle = .next t := by
  have k := settle_keeps (inState .drive)
  refine ⟨settle_consistent _, by rw [k.op]; decide, (inState .drive).settle, ?_⟩
  unfold step
  rw [k.pending]
  rfl

/-- A part whose ON phase ends next. -/
def phaseEnds (s : State) : State := { s with pending := [.onPhaseEnd] }

theorem phaseEnds_consistent {s : State} (h : Consistent s) : Consistent (phaseEnds s) := ⟨h.resolved, h.demands, h.fanStep⟩

/-- DRIVE with the dipped beam in its inrush, the brakes on, a left flash in its ON phase beside a stop/turn channel on the right, and
the fan waiting for its grant. -/
def lit : State :=
  let s := (inState .drive).setInRec .brake { (inState .drive).inRec .brake with level := true }
  let s := (s.setFn .dip { s.fnRec .dip with base := 100 }).setFn .fan { s.fnRec .fan with base := 2 }
  let s := s.setLamp 8 { s.lamp 8 with cfg := { (s.lamp 8).cfg with stopTurn := true } }
  phaseEnds ({ s with flash := { s.flash with hostSide := .left } } : State).settle

theorem lit_consistent : Consistent lit := phaseEnds_consistent (settle_consistent _)

theorem lit_lamps : LampsOk lit := by
  constructor <;> decide +kernel

theorem lit_follows : FollowsOk lit := by
  constructor <;> decide +kernel

theorem lit_flash : FlashOk lit := by
  constructor <;> decide +kernel

theorem witness_follows : UnitsOk lit ∧ (lit.lamp 0).state = .inrush ∧ (lit.lamp 0).granted = true ∧ lit.fan.state = .waiting ∧
    lit.fan.target = 550 ∧ step lit = exec .onPhaseEnd { lit with pending := [] } ∧
    after .onPhaseEnd { lit with pending := [] } (fun t => (t.flash.phase, (t.lamp 6).state)) = some (.off, .off) := by
  refine ⟨⟨?_, by unfold GaugesOk; decide +kernel, ?_⟩, by decide +kernel, by decide +kernel, by decide +kernel, by decide +kernel,
    rfl, by decide +kernel⟩ <;> constructor <;> decide +kernel

theorem witness_received : Listens State.reset ∧ State.reset.link.assembler = .hunt ∧
    State.reset.link.inbound.length < 4 ∧ (List.replicate 24 (0xC3 : Byte)).length ≤ 24 := by decide

/-! ### Witnesses: events and resolution -/

/-- A full event queue of one lane. -/
def fullQueue (k : EventKind) : State :=
  { State.reset with
    report :=
      { State.reset.report with
        events := (List.range 16).map (fun i => { kind := k, subject := i, detail := 0, count := 1, time := 0 }) } }

theorem witness_events_known : EventsOk someQueued ∧ someQueued.eventEnabled .chTrip = true ∧
    (∃ x ∈ someQueued.report.events, x.kind = .chTrip ∧ x.subject = 3) := ⟨by unfold EventsOk; decide, by decide, by decide⟩

theorem witness_events_new : EventsOk someQueued ∧ someQueued.report.events.length < 16 ∧
    ¬ (∃ x ∈ someQueued.report.events, x.kind = .chTrip ∧ x.subject = 4) ∧
    ¬ (∃ x ∈ someQueued.report.events, x.kind = .input ∧ x.subject = 1) ∧ EventKind.urgent .chTrip = true ∧
    EventKind.urgent .input = false := ⟨by unfold EventsOk; decide, by decide, by decide, by decide, by decide, by decide⟩

theorem witness_events_full :
    EventsOk (fullQueue .input) ∧ (fullQueue .input).report.events.length = 16 ∧
      (∃ x ∈ (fullQueue .input).report.events, x.kind.urgent = false) ∧ EventsOk (fullQueue .chTrip) ∧
      (∀ x ∈ (fullQueue .chTrip).report.events, x.kind.urgent = true) ∧
      ¬ (∃ x ∈ (fullQueue .input).report.events, x.kind = .chTrip ∧ x.subject = 0) ∧
      ¬ (∃ x ∈ (fullQueue .chTrip).report.events, x.kind = .chTrip ∧ x.subject = 16) :=
  ⟨by unfold EventsOk; decide, by decide, by decide, by unfold EventsOk; decide, by decide, by decide, by decide⟩

theorem witness_events_masked :
    ({ State.reset with report := { State.reset.report with mask := 0 } } : State).eventEnabled .woken = false := by decide

/-- The gates' cases: FAN is ignition-fed and shut in PARK; PANEL (class 2) and AUX1 (class 3) are affected at level 2. -/
theorem witness_gates : ((inState .park).fnRec .fan).ignitionFed = true ∧ (inState .park).op.state ≠ .drive ∧
    1 ≤ ((inState .park).fnRec .panel).cls ∧ 4 ≤ ((inState .park).fnRec .panel).cls + 2 ∧
    ¬ 4 ≤ ((inState .park).fnRec .panel).cls + 1 ∧ someQueued.resolver.scenes = [] ++ someQueued.resolver.scenes ∧
    Fn.sceneProtected .panel = false ∧ Fn.sceneProtected .brake = true := by decide

/-- Table 4-4 in the ON phase of a left flash with the brakes on: a driven channel, a stop/turn channel of the other side and one that is
none, a channel of BRAKE, and one that serves no function. -/
theorem witness_driven_values : lit.flash.phase = .on ∧ lit.flash.active = .left ∧
    [6, 8, 9, 4, 2].map (fun ch => (lit.serving ch, (lit.lamp ch).demand)) =
      [(some .indL, 100), (some .indR, 100), (some .indR, 0), (some .brake, 100), (none, 0)] := by decide +kernel

/-! ### Witnesses: requests -/

theorem witness_ident : Takes (asked State.reset 0x01 []) 0x01 [] [] := by decide
theorem witness_status : Takes (asked State.reset 0x02 []) 0x02 [] [] := by decide
theorem witness_cause : Takes (asked State.reset 0x03 []) 0x03 [] [] := by decide
theorem witness_evfetch : Takes (asked (fullQueue .input) 0x04 []) 0x04 [] [] ∧
    (asked (fullQueue .input) 0x04 []).report.events.length ≤ 16 ∧ someQueued.report.events.length ≤ 4 := by decide

/-- R184: four slots, SCENE_END with its id as detail, a count of 20 saturated at 15, the overflow flag in the first tag, one record
left. -/
theorem test_evfetch_slots :
    { Report.reset with
        overflow := true
        events := [⟨.subst, 4, 12, 1, 1⟩, ⟨.sceneEnd, 7, 0, 20, 258⟩, ⟨.input, 5, 1, 2, 3⟩, ⟨.woken, 0, 4, 1, 4⟩,
          ⟨.state, 0, 2, 1, 5⟩] }.fetchData =
      [129, 218, 112, 118, 123, 0x1F, 0x21, 0, 12, 0, 7, 0, 1, 0, 4, 0, 1, 1, 2, 0, 3, 0, 4] := by decide
theorem witness_evmask : Takes (asked State.reset 0x05 [0x0F, 0xFF, 0xFE]) 0x05 [0x0F, 0xFF, 0xFE] [] ∧
    (0x0F : Byte).toNat < 16 ∧ Takes (asked State.reset 0x05 [0x10, 0, 0]) 0x05 [0x10, 0, 0] [] ∧
    16 ≤ (0x10 : Byte).toNat := by decide

/-- A part whose configured map and settings pass every check of START. -/
def ready : State := (([(4, Fn.brake), (6, Fn.indL), (8, Fn.indR)] : List (LampId × Fn))).foldl
  (fun s x => s.setLamp x.1 { s.lamp x.1 with cfg := { (s.lamp x.1).cfg with fn := some x.2 } }) State.reset

theorem ready_checks : ∀ n ∈ [1, 2, 3, 4, 5], StartCheck ready n := by
  intro n hn
  simp only [List.mem_cons, List.not_mem_nil, or_false] at hn
  rcases hn with rfl | rfl | rfl | rfl | rfl
  · intro f hf
    simp only [List.mem_cons, List.not_mem_nil, or_false] at hf
    rcases hf with rfl | rfl | rfl
    exacts [⟨4, by decide⟩, ⟨6, by decide⟩, ⟨8, by decide⟩]
  · intro e p q h
    have : ∀ e, (ready.subEntry e).pair = none := by decide
    simp [this e] at h
  all_goals simp only [StartCheck]; decide

theorem witness_start : Takes (asked ready 0x10 []) 0x10 [] [] ∧ (asked ready 0x10 []).op.state = .limp ∧
    StartReady (asked ready 0x10 []) := ⟨by decide, by decide, ready_checks⟩

/-- Channel 12 is the spare of channel 4, which is locked out. -/
def spared : State := withLamp (ready.setSub 0 { pair := some (4, 12), engaged := false }) 4 .lockedOut

theorem witness_start_engages : SubstitutionOk (asked spared 0x10 []) ∧ ((asked spared 0x10 []).lamp 4).state = .lockedOut ∧
    ((asked spared 0x10 []).lamp 12).state ≠ .lockedOut ∧
    after .start (asked spared 0x10 []) (fun t => ((t.subEntry 0).engaged, (t.lamp 12).substituteFor)) =
      some (true, some 4) :=
  ⟨⟨by decide, by decide, by decide, by decide, by
      intro q c h
      have : ∀ q, ((asked spared 0x10 []).lamp q).setAside = none := by decide
      exact absurd ((this q).symm.trans h) (by simp), by decide⟩,
    by decide, by decide, by decide +kernel⟩

/-- A part of which each check of START fails alone: no channel serves IND_R; the spare of an entry is configured; T1 is not below
T2; gauge A is enabled on a pin in SWITCH mode; the fan's duties 1 and 2 are equal. -/
def unready : Nat → State
  | 1 => (([8, 9] : List LampId)).foldl (fun s ch => s.setLamp ch { s.lamp ch with cfg := { (s.lamp ch).cfg with fn := none } }) ready
  | 2 => ready.setSub 0 { pair := some (4, 10), engaged := false }
  | 3 => { ready with supply := { ready.supply with settings := { ready.supply.settings with t1 := 100 } } }
  | 4 => { ready.setGauge 0 { ready.gauge 0 with cfg := { (ready.gauge 0).cfg with enabled := true } } with
           inputs := { ready.inputs with senseMode := #v[.switch, .sender] } }
  | _ => { ready with fan := { ready.fan with settings := { ready.fan.settings with duty1 := 550 } } }

theorem witness_start_refused :
    (∀ n ∈ [1, 2, 3, 4, 5], Takes (asked (unready n) 0x10 []) 0x10 [] [] ∧ (asked (unready n) 0x10 []).op.state = .limp) ∧
    (∀ n ∈ [1, 2, 3, 4, 5],
      after .start (asked (unready n) 0x10 []) (fun t => t.link.shifting.map (·.payload)) = some (some [5, BitVec.ofNat 8 n])) ∧
    ¬ StartCheck (unready 1) 1 ∧ ¬ StartCheck (unready 2) 2 ∧ ¬ StartCheck (unready 3) 3 ∧ ¬ StartCheck (unready 4) 4 ∧
    ¬ StartCheck (unready 5) 5 := by
  refine ⟨by decide, by decide +kernel, ?_, ?_, by simp only [StartCheck]; decide, ?_, by simp only [StartCheck]; decide⟩
  · intro h
    obtain ⟨ch, e⟩ := h .indR (by decide)
    revert ch
    decide
  · intro h
    exact absurd (h 0 4 10 (by decide)).1 (by decide)
  · intro h
    exact absurd (h 0 (by decide)).1 (by decide)

/-- The checks before the one that fails pass (a configured spare leaves check 1 as it is, and so on). -/
theorem witness_start_earlier : StartCheck (unready 5) 3 ∧ StartCheck (unready 5) 4 ∧ StartCheck (unready 4) 3 := by
  refine ⟨?_, ?_, ?_⟩ <;> simp only [StartCheck] <;> decide

theorem witness_start_elsewhere : Takes (asked (inState .drive) 0x10 []) 0x10 [] [] ∧
    (asked (inState .drive) 0x10 []).op.state ≠ .limp := by decide

theorem witness_stop : Takes (asked (inState .park) 0x11 []) 0x11 [] [] ∧ (asked (inState .park) 0x11 []).op.state = .park ∧
    Takes (asked (inState .watch) 0x11 []) 0x11 [] [] ∧ (asked (inState .watch) 0x11 []).op.state = .watch ∧
    Takes (asked (withLamp State.reset 4 .lockedOut) 0x11 []) 0x11 [] [] ∧
    ((asked (withLamp State.reset 4 .lockedOut) 0x11 []).lamp 4).state = .lockedOut ∧
    Takes (asked (inState .drive) 0x11 []) 0x11 [] [] := by decide

theorem witness_stop_substituted : SubstitutionOk (asked substituted 0x11 []) ∧ Takes (asked substituted 0x11 []) 0x11 [] [] ∧
    (asked substituted 0x11 []).op.state = .park ∧ ((asked substituted 0x11 []).lamp 12).setAside ≠ none := by
  let h := witness_substitution.1
  exact ⟨⟨h.engaged, h.paired, h.single, h.setAside, h.function, h.limp⟩, by decide, by decide, by decide⟩

/-- STOP keeps lamp_out on channel 4, which serves BRAKE before and after, and clears it on a channel whose function changes and on
a released spare. The retry count of a lifted channel and of a released spare is 0, that of channel 6 is kept. -/
theorem test_stop_lamp_out :
    let s := asked substituted 0x11 []
    let s := s.setLamp 6 { s.lamp 6 with cfg := { (s.lamp 6).cfg with fn := some .side } }
    let s := ([4, 6, 12] : List LampId).foldl (fun s ch => s.setLamp ch { s.lamp ch with lampOut := true, retriesUsed := 2 }) s
    after .stop s (fun t => [4, 6, 12].map (fun ch => ((t.lamp ch).lampOut, (t.lamp ch).retriesUsed))) =
      some [(true, 0), (false, 2), (false, 0)] := by decide +kernel

theorem witness_sleep : Takes (asked (inState .park) 0x12 []) 0x12 [] [] ∧ (asked (inState .park) 0x12 []).op.state = .park ∧
    Takes (asked (inState .drive) 0x12 []) 0x12 [] [] ∧ Takes (asked (inState .watch) 0x12 []) 0x12 [] [] := by decide

theorem witness_wake : Takes (asked watching 0x13 []) 0x13 [] [] ∧ (asked watching 0x13 []).op.state = .watch ∧
    Takes (asked (inState .drive) 0x13 []) 0x13 [] [] ∧ Takes (asked (inState .park) 0x13 []) 0x13 [] [] := by decide

theorem witness_rxWake : (inState .sleep).op.resetHeld = false ∧ (inState .sleep).op.state = .sleep ∧
    (inState .sleep).op.window = none := by decide

theorem witness_restart : Takes (asked State.reset 0x14 []) 0x14 [] [] := by decide

theorem witness_fnset :
    (Takes (asked (inState .park) 0x20 [10, 101]) 0x20 [10, 101] [] ∧ (inState .park).op.state ≠ .limp ∧
      Fn.ofCode (10 : Byte).toNat = some .panel ∧ Fn.hostProtected .panel = false) ∧
    (Takes (asked (inState .park) 0x20 [16, 0]) 0x20 [16, 0] [] ∧ Fn.ofCode (16 : Byte).toNat = none) ∧
    (Takes (asked (inState .park) 0x20 [6, 0]) 0x20 [6, 0] [] ∧ Fn.ofCode (6 : Byte).toNat = some .indL ∧
      Fn.hostProtected .indL = true) := by decide

/-- The flash report of a left flash in its OFF phase under a host hazard flag, at 90 flashes per minute (Tables 11-2 and 11-4). -/
theorem test_flash_report : ({ State.reset.flash with phase := .off, active := .left, hostSide := .right, hostHazard := true } : Flash).report =
    [2, 1, 2, 1, 90] := by decide

theorem witness_fnmulti :
    let ps : List (Fn × Byte) := [(.dip, 100), (.fan, 5)]
    let p := ps.flatMap (fun x => [BitVec.ofNat 8 x.1.code.val, x.2])
    Takes (asked (inState .drive) 0x21 p) 0x21 p [] ∧ ps ≠ [] ∧ ps.length ≤ 6 ∧ (ps.map (·.1)).Nodup ∧
      (∀ x ∈ ps, x.1.hostProtected = false) := by decide

theorem witness_fnmulti_refused :
    let list (c : Byte) : List (Byte × Byte) := [(1, 100), (15, 5)] ++ (c, 0) :: [(6, 0)]
    let p (c : Byte) : List Byte := (list c).flatMap (fun x => [x.1, x.2])
    (∀ c ∈ [(6 : Byte), 16, 1], Takes (asked (inState .drive) 0x21 (p c)) 0x21 (p c) [] ∧ (list c).length ≤ 6) ∧
      (inState .drive).op.state ≠ .limp := by decide

theorem witness_turn_refused : Takes (asked (inState .park) 0x22 [3]) 0x22 [3] [] ∧ 2 < (3 : Byte).toNat ∧
    Takes (asked (inState .park) 0x23 [2]) 0x23 [2] [] ∧ 1 < (2 : Byte).toNat ∧ (inState .park).op.state ≠ .limp := by decide

theorem witness_turn : Takes (asked (inState .drive) 0x22 [1]) 0x22 [1] [] ∧ (inState .drive).op.state ≠ .limp ∧
    hostSideOf (1 : Byte).toNat = some .left ∧ (inState .drive).flash.phase = .idle ∧
    (inState .drive).flash.hazard = false := by decide

/-- R73: a side stored in PARK, and the flag taken back there, leave an IDLE engine in IDLE. -/
theorem witness_turn_stored : Takes (asked (inState .park) 0x22 [1]) 0x22 [1] [] ∧ (inState .park).flash.phase = .idle ∧
    (inState .park).flash.hazard = false ∧
    Takes (asked (inState .park) 0x23 [if false then 1 else 0]) 0x23 [if false then 1 else 0] [] ∧
    after .turn (asked (inState .park) 0x22 [1]) (fun t => (t.flash.phase, t.flash.hostSide)) = some (.idle, .left) := by
  decide +kernel

theorem witness_haz : Takes (asked (inState .park) 0x23 [if true then 1 else 0]) 0x23 [if true then 1 else 0] [] ∧
    (inState .park).op.state ≠ .limp ∧ (inState .park).flash.phase = .idle := by decide

/-- A flash under way: the clauses of TURN and HAZ outside IDLE. -/
def flashing (p : FlashPhase) : State :=
  { inState .drive with flash := { (inState .drive).flash with phase := p, active := .left, timer := some 5, half := 330 } }

theorem witness_flashing : (flashing .on).flash.phase = .on ∧ (flashing .off).flash.phase = .off ∧
    (flashing .on).op.resetHeld = false ∧ (flashing .on).flash.phase ≠ .idle := by decide

theorem witness_sceneadd :
    let ps : List (Fn × Byte) := [(.fog, 100), (.panel, 40)]
    let p := (7 : Byte) :: 255 :: ps.flatMap (fun x => [BitVec.ofNat 8 x.1.code.val, x.2])
    Takes (asked (inState .park) 0x24 p) 0x24 p [] ∧ (inState .park).resolver.scenes.length < 4 ∧
      (∀ sc ∈ (inState .park).resolver.scenes, sc.id ≠ 7) ∧ (7 : Byte) ≠ 0 ∧ ps ≠ [] ∧ ps.length ≤ 6 ∧
      (ps.map (·.1)).Nodup ∧ (∀ x ∈ ps, x.1.sceneProtected = false ∧ x.2.toNat ≤ 100) := by decide

/-- A list of four scenes, and one of a single scene. -/
def fourScenes (n : Nat) : State :=
  { inState .park with
    resolver :=
      { (inState .park).resolver with
        scenes := (([1, 2, 3, 4] : List Byte).take n).map (fun i => { id := i, entries := [(.aux1, 100)], life := none }) } }

theorem witness_sceneadd_refused :
    let p (id c v : Byte) : List Byte := id :: 0 :: [(c, v)].flatMap (fun x : Byte × Byte => [x.1, x.2])
    (Takes (asked (fourScenes 4) 0x24 (p 5 3 100)) 0x24 (p 5 3 100) [] ∧ 4 ≤ (fourScenes 4).resolver.scenes.length) ∧
    (Takes (asked (fourScenes 3) 0x24 (p 2 5 200)) 0x24 (p 2 5 200) [] ∧ (fourScenes 3).resolver.scenes.length < 4 ∧
      ∃ sc ∈ (fourScenes 3).resolver.scenes, sc.id = 2) ∧
    (Takes (asked (fourScenes 3) 0x24 (p 0 5 200)) 0x24 (p 0 5 200) [] ∧
      ¬ (∃ sc ∈ (fourScenes 3).resolver.scenes, sc.id = 0) ∧ (5 : Byte).toNat = 5) ∧
    (Takes (asked (fourScenes 3) 0x24 (p 0 3 100)) 0x24 (p 0 3 100) [] ∧ (3 : Byte).toNat < 5) ∧
    (Takes (asked (fourScenes 3) 0x24 (p 4 3 101)) 0x24 (p 4 3 101) [] ∧ 100 < (101 : Byte).toNat) := by decide

/-- One scene, with a lifetime. -/
def withScene (o : OpState) : State :=
  { inState o with
    resolver := { (inState o).resolver with scenes := [{ id := 7, entries := [(.aux1, 40)], life := some 100 }] } }

theorem witness_scenes_leave : Takes (asked (withScene .park) 0x25 [7]) 0x25 [7] [] ∧
    hasScene (withScene .park).resolver.scenes 7 = true ∧ hasScene (withScene .park).resolver.scenes 8 = false ∧
    expiringScene (withScene .sleep).resolver.scenes 7 = true ∧ (withScene .sleep).op.state = .sleep ∧
    (withScene .sleep).op.window = none ∧ (withScene .sleep).op.resetHeld = false := by decide

/-- SLEEP with a scene about to expire over a base demand, of 40 that lights channel 12 or of none. -/
def overBase (base : Nat) : State :=
  let s := (withScene .sleep).setLamp 12 { (withScene .sleep).lamp 12 with cfg := { (LampCfg.reset 12) with fn := some .aux1 } }
  s.setFn .aux1 { s.fnRec .aux1 with base := base }

theorem witness_scene_asleep : expiringScene (overBase 40).resolver.scenes 7 = true ∧ (overBase 40).op.state = .sleep ∧
    (overBase 40).op.window = none ∧
    after (.sceneExpiry 7) (overBase 40) (fun t => (t.op.state, t.report.events.map (fun r => (r.kind, r.subject, r.detail)))) =
      some (.watch, [(.sceneEnd, 7, 0), (.state, 0, 3)]) ∧
    after (.sceneExpiry 7) (overBase 0) (fun t => (t.op.state, t.report.events.map (·.kind))) = some (.sleep, [.sceneEnd]) := by
  decide +kernel

theorem witness_faultclr :
    (Takes (asked (withLamp (inState .park) 4 .lockedOut) 0x26 [4]) 0x26 [4] [] ∧
      ((withLamp (inState .park) 4 .lockedOut).lamp 4).state = .lockedOut) ∧
    (Takes (asked (inState .park) 0x26 [17]) 0x26 [17] [] ∧ 16 < (17 : Byte).toNat ∧ (17 : Byte).toNat ≠ 255) ∧
    Takes (asked (withFan (inState .park) .lockedOut) 0x26 [255]) 0x26 [255] [] := by decide

/-- PARK: channel 12 stands in for channel 4, and channel 5, locked out too, has it as its spare in entry 1. -/
def contested : State := withLamp (substituted.setSub 1 { pair := some (5, 12), engaged := false }) 5 .lockedOut

theorem witness_faultclr_engages :
    let s := asked contested 0x26 [4]
    Takes s 0x26 [4] [] ∧ s.op.state ≠ .limp ∧ (s.subEntry 0).engaged = true ∧ (s.subEntry 0).pair = some (4, 12) ∧
      (s.lamp 4).state = .lockedOut ∧
      after .faultclr s (fun t => ((t.subEntry 0).engaged, (t.subEntry 1).engaged, (t.lamp 12).substituteFor)) =
        some (false, true, some 5) := by decide +kernel

theorem witness_faultclr_substitution : SubstitutionOk (asked substituted 0x26 [4]) := by
  let h := witness_substitution.1
  exact ⟨h.engaged, h.paired, h.single, h.setAside, h.function, h.limp⟩

theorem witness_faultclr_units : Takes (asked (withGauge (inState .drive) 1 .outputFault 0) 0x26 [16]) 0x26 [16] [] ∧
    ((withGauge (inState .drive) 1 .outputFault 0).gauge 1).state = .outputFault ∧ (16 : Byte).toNat = 15 + (1 : GaugeId).val ∧
    (withFan (inState .park) .lockedOut).fan.state = .lockedOut ∧ (inState .park).fan.state ≠ .lockedOut := by decide

/-- FAULTCLR is asked for everything in a part whose fan is locked out. -/
def askedOut (s : State) : State := asked { s with fan := { s.fan with state := .lockedOut, retriesUsed := 3 } } 0x26 [255]

theorem askedOut_consistent {s : State} (h : Consistent s) : Consistent (askedOut s) := ⟨h.resolved, h.demands, h.fanStep⟩

theorem askedOut_lamps {s : State} (h : LampsOk s) : LampsOk (askedOut s) :=
  ⟨h.dark, h.heldOff, h.off, h.lit, h.tripped, h.lockedOut, h.granted, h.handed⟩

theorem askedOut_flash {s : State} (h : FlashOk s) : FlashOk (askedOut s) := ⟨h.idle, h.flashing, h.wants⟩

/-- A locked-out fan in a part that meets what FAULTCLR's last clause asks. -/
def stalledOut : State := askedOut lit

theorem witness_faultclr_whole : Consistent stalledOut ∧ Takes stalledOut 0x26 [255] [] ∧ stalledOut.fan.state = .lockedOut ∧
    stalledOut.fan.step ≠ 0 ∧ stalledOut.supply.hold = false ∧
    after .faultclr stalledOut (fun t => (t.fan.state, t.fan.retriesUsed, decide (t.lamp 0 = stalledOut.lamp 0))) =
      some (.waiting, 0, true) :=
  ⟨askedOut_consistent lit_consistent, by decide +kernel⟩

theorem witness_faultclr_agreeing : LampsOk stalledOut ∧ FollowsOk stalledOut ∧ FlashOk stalledOut ∧ SubstitutionOk stalledOut := by
  refine ⟨askedOut_lamps lit_lamps, ?_, askedOut_flash lit_flash, ?_⟩
  · constructor <;> decide +kernel
  · have none : ∀ q : LampId, (stalledOut.lamp q).setAside = none := by decide +kernel
    refine ⟨by decide +kernel, by decide +kernel, by decide +kernel, by decide +kernel, ?_, by decide +kernel⟩
    intro q c h
    simp [none q] at h

theorem witness_gaugetest :
    (Takes (asked (withGauge (inState .drive) 0 .run 500) 0x27 []) 0x27 [] [] ∧
      ((withGauge (inState .drive) 0 .run 500).gauge 0).state = .run ∧
      ∀ g, ((withGauge (inState .drive) 0 .run 500).gauge g).state ≠ .test) ∧
    (Takes (asked (withGauge (inState .drive) 0 .test 500) 0x27 []) 0x27 [] [] ∧
      ((withGauge (inState .drive) 0 .test 500).gauge 0).state = .test) ∧
    (Takes (asked (inState .drive) 0x27 []) 0x27 [] [] ∧ ∀ g, ((inState .drive).gauge g).state ≠ .run) ∧
    Takes (asked (inState .park) 0x27 []) 0x27 [] [] := by decide

theorem witness_reads : (∀ b ∈ [(13 : Byte), 14, 15, 16, 17], Takes (asked State.reset 0x30 [b]) 0x30 [b] []) ∧
    (13 : Byte).toNat = (13 : LampId).val ∧ 16 < (17 : Byte).toNat ∧
    Takes (asked State.reset 0x31 [15]) 0x31 [15] [] ∧ Fn.ofCode (15 : Byte).toNat = some .fan ∧
    Takes (asked State.reset 0x31 [16]) 0x31 [16] [] ∧ 15 < (16 : Byte).toNat ∧
    Takes (asked someQueued 0x32 [0]) 0x32 [0] [] ∧ (someQueued.resolver.scenes[(0 : Byte).toNat]?).isSome = true ∧
    Takes (asked someQueued 0x32 [1]) 0x32 [1] [] ∧ someQueued.resolver.scenes.length ≤ (1 : Byte).toNat := by decide

theorem witness_reads_views : (∀ b ∈ [(0 : Byte), 1, 2], Takes (asked State.reset 0x33 [b]) 0x33 [b] [] ∧
      Takes (asked State.reset 0x34 [b]) 0x34 [b] []) ∧
    (∀ v ∈ [(0 : Byte), 1, 2, 3, 4], Takes (asked State.reset 0x35 [1, v]) 0x35 [1, v] []) ∧
    (1 : Byte).toNat = (1 : GaugeId).val ∧ Takes (asked State.reset 0x35 [2, 0]) 0x35 [2, 0] [] ∧
    1 < (2 : Byte).toNat ∧ 3 < (4 : Byte).toNat := by decide

/-! ### Witnesses: configuration -/

theorem witness_chcfg :
    let p : List Byte := [13, 6, 1, 0, 100, 80, 1, 44, 1, 245, 8]
    let q : List Byte := [13, 1, 0, 0, 100, 80, 1, 44, 1, 245, 8]
    Takes (asked State.reset 0x40 p) 0x40 p [] ∧ p.length = 11 ∧ State.reset.op.state = .limp ∧ u8 p 0 = (13 : LampId).val ∧
      Takes (asked State.reset 0x40 q) 0x40 q [] ∧ u8 q 1 = 1 ∧ 4 ≤ (13 : LampId).val := by decide

theorem witness_chcfg_refused :
    let p : List Byte := [14, 0, 0, 0, 100, 80, 1, 44, 1, 245, 8]
    Takes (asked State.reset 0x40 p) 0x40 p [] ∧ p.length = 11 ∧ 13 < u8 p 0 := by decide

theorem witness_subcfg_refused : Takes (asked State.reset 0x41 [3, 4, 12]) 0x41 [3, 4, 12] [] ∧ 2 < (3 : Byte).toNat ∧
    Takes (asked State.reset 0x41 [2, 12, 4]) 0x41 [2, 12, 4] [] ∧ (State.reset.lamp 4).cfg.fn ≠ none ∧
    State.reset.op.state = .limp := by decide

theorem witness_subcfg : Takes (asked State.reset 0x41 [2, 255, 0]) 0x41 [2, 255, 0] [] ∧
    Takes (asked State.reset 0x41 [2, 4, 12]) 0x41 [2, 4, 12] [] ∧ (State.reset.lamp 12).cfg.fn = none ∧
    Takes (asked State.reset 0x41 [2, 4, 14]) 0x41 [2, 4, 14] [] ∧ 13 < (14 : Byte).toNat := by decide

theorem witness_fncfg :
    let p : List Byte := [11, 4, 0, 1, 60]
    Takes (asked State.reset 0x42 p) 0x42 p [] ∧ p.length = 5 ∧ State.reset.op.state = .limp ∧
      Fn.ofCode (u8 p 0) = some .interior ∧ Fn.ofCode 0 = some .side ∧
      Takes (asked State.reset 0x42 [16, 0, 0, 0, 0]) 0x42 [16, 0, 0, 0, 0] [] := by decide

theorem witness_flashcfg_linkcfg : Takes (asked State.reset 0x43 [59]) 0x43 [59] [] ∧
    Takes (asked State.reset 0x49 [101]) 0x49 [101] [] ∧ Takes (asked (inState .park) 0x43 [59]) 0x43 [59] [] ∧
    Takes (asked (inState .park) 0x49 [4]) 0x49 [4] [] ∧ State.reset.op.state = .limp ∧
    (∃ t, exec .gapTimeout State.reset = .next t) := ⟨by decide, by decide, by decide, by decide, by decide, _, rfl⟩

theorem witness_fancfg :
    let p : List Byte := b2 300 ++ b2 500 ++ b2 700 ++ b2 1000 ++ b2 400 ++ b2 50 ++ b2 9000 ++ b2 500 ++ [8]
    Takes (asked State.reset 0x44 p) 0x44 p [] ∧ p.length = 17 ∧ State.reset.op.state = .limp := by decide

theorem witness_gaugecfg :
    let p : List Byte := [1, 1, 1, 244, 0, 0, 3, 232, 39, 16, 1]
    Takes (asked State.reset 0x45 p) 0x45 p [] ∧ p.length = 11 ∧ u8 p 0 = (1 : GaugeId).val ∧
      faultActionOf (u8 p 10) = some .keep ∧
      Takes (asked State.reset 0x45 (2 :: p.tail)) 0x45 (2 :: p.tail) [] := by decide

/-- Points 1 to 4 of a curve, and point 5. -/
def fourPoints : List Point := [⟨0, 0⟩, ⟨10, 500⟩, ⟨20, 1000⟩, ⟨30, 1001⟩]
def fifthPoint : List Point := [⟨31, 0⟩]

/-- A curve of five points of which the first part is held. -/
def halfCurve : State := State.reset.setGauge 0 { State.reset.gauge 0 with pendingCurve := some (5, fourPoints) }

theorem witness_curvecfg :
    let p : List Byte := 0 :: 4 :: 1 :: fourPoints.flatMap pointField
    let q : List Byte := 0 :: 5 :: 5 :: fifthPoint.flatMap pointField
    Takes (asked State.reset 0x46 p) 0x46 p [] ∧ (fourPoints.flatMap pointField).length = 4 * fourPoints.length ∧
      pointsOf (fourPoints.flatMap pointField) = fourPoints ∧ State.reset.op.state = .limp ∧
      Takes (asked halfCurve 0x46 q) 0x46 q [] ∧ (halfCurve.gauge 0).pendingCurve = some (5, fourPoints.dropLast ++ [⟨30, 1001⟩]) ∧
      pointsOf (fifthPoint.flatMap pointField) = fifthPoint ∧
      (fourPoints.map (fun x => { ohms := min 9999 x.ohms, position := min 1000 x.position : Point })).Pairwise
        (fun a b => a.ohms < b.ohms) ∧
      ¬ (fourPoints.reverse.map (fun x => { ohms := min 9999 x.ohms, position := min 1000 x.position : Point })).Pairwise
        (fun a b => a.ohms < b.ohms) := by decide

/-- The curve's form: gauge 2, counts 1 and 9, first index 2, a first part of two points for a curve of four, and a second part
where none is held. -/
theorem witness_curvecfg_refused :
    let pts (n : Nat) : List Byte := (fourPoints.take n).flatMap pointField
    (∀ p ∈ [(2 : Byte) :: 4 :: 1 :: pts 4, 0 :: 1 :: 1 :: pts 1, 0 :: 9 :: 1 :: pts 4, 0 :: 4 :: 2 :: pts 4, 0 :: 4 :: 1 :: pts 2,
        0 :: 6 :: 5 :: pts 1, 0 :: 5 :: 5 :: pts 1],
      Takes (asked State.reset 0x46 p) 0x46 p [] ∧ p.length ∈ [7, 11, 15, 19]) ∧ State.reset.op.state = .limp ∧
      (∀ g : GaugeId, ((State.reset.gauge g).pendingCurve.map (·.1)) ≠ some 5) := by decide

/-- Settings in 12 V and in 6 V that are in order, and two with a pair out of order. -/
theorem witness_supplycfg :
    let q (sys : Byte) (vlow1 vover : Nat) : List Byte :=
      [sys] ++ b2 20000 ++ b2 50 ++ b2 100 ++ b2 0 ++ [5] ++ b2 vlow1 ++ b2 0 ++ b2 vover ++ b2 0 ++ b2 0
    (∀ p ∈ [q 12 0 0, q 6 0 0, q 12 4000 0, q 12 0 15000, q 7 0 0], Takes (asked State.reset 0x47 p) 0x47 p [] ∧ p.length = 20) ∧
      State.reset.op.state = .limp ∧ u8 (q 12 0 0) 0 = 12 ∧ u8 (q 6 0 0) 0 = 6 ∧
      after .supplycfg (asked State.reset 0x47 (q 6 0 0)) (fun t => t.supply.settings.vlow1) = some 5800 ∧
      (∀ p ∈ [q 12 4000 0, q 12 0 15000, q 7 0 0],
        (replyOf .supplycfg (asked State.reset 0x47 p)).map (·.payload) = some [5]) := by decide +kernel

theorem witness_inputcfg :
    let p : List Byte := [0, 1, 2, 0, 1, 2, 1, 0]
    Takes (asked State.reset 0x48 p) 0x48 p [] ∧ p.length = 8 ∧ (polaritiesOf p).isSome ∧
      senseModeOfCode (u8 p 6) = some .switch ∧ senseModeOfCode (u8 p 7) = some .sender ∧
      polaritiesOf [3, 0, 0, 0, 0, 0, 0, 0] = none := by decide

/-- LIMP with SW0 in SWITCH mode and SW1 in SENDER mode, both asserted with a count of 2. -/
def switchesCounting : State :=
  let r : InRec := { State.reset.inRec .sw0 with level := true, count := 2 }
  let s := (State.reset.setInRec .sw0 r).setInRec .sw1 r
  { s with inputs := { s.inputs with senseMode := #v[.switch, .sender] } }

/-- R145: the modes kept, with SW0's polarity changed; both modes changed. -/
theorem witness_inputcfg_switches :
    let kept : List Byte := [0, 0, 0, 0, 1, 0, 1, 0]
    let changed : List Byte := [0, 0, 0, 0, 0, 0, 0, 1]
    let read (t : State) := ([InputId.sw0, .sw1].map (fun i => ((t.inRec i).level, (t.inRec i).count)))
    Takes (asked switchesCounting 0x48 kept) 0x48 kept [] ∧ Takes (asked switchesCounting 0x48 changed) 0x48 changed [] ∧
      switchesCounting.op.state = .limp ∧
      after .inputcfg (asked switchesCounting 0x48 kept) read = some [(true, 0), (true, 2)] ∧
      after .inputcfg (asked switchesCounting 0x48 changed) read = some [(false, 2), (false, 0)] := by decide +kernel

theorem witness_refusals :
    (Takes (asked State.reset (ReqKind.code .ident) [0]) (ReqKind.code .ident) [0] [] ∧ ReqKind.lengthOk .ident 1 = false) ∧
    (Takes (asked (inState .park) (ReqKind.code .linkcfg) [5]) (ReqKind.code .linkcfg) [5] [] ∧
      ReqKind.lengthOk .linkcfg 1 = true ∧ ReqKind.linkcfg ∈ configKinds ∧ (inState .park).op.state ≠ .limp) ∧
    (Takes (asked State.reset (ReqKind.code .wake) []) (ReqKind.code .wake) [] [] ∧ ReqKind.wake ∈ notReadyKinds ∧
      State.reset.op.state = .limp) ∧
    Takes (asked State.reset 0x80 []) 0x80 [] [] ∧
    ({ State.reset with link := { State.reset.link with waiting := some { kind := 0x81, payload := [0] } } } : State).link.waiting
      ≠ none := by decide

theorem witness_unknown_kind : ∀ k : ReqKind, k.code ≠ 0x80 := by
  intro k
  cases k <;> decide

/-! ### Witnesses: the body link -/

/-- The assembler in a given state. -/
def assembling (a : Assembler) : State := { State.reset with link := { State.reset.link with assembler := a } }

theorem witness_assembler : Listens (assembling .length) ∧ (24 : Byte).toNat ≤ 24 ∧ 24 < (25 : Byte).toNat ∧
    (assembling (.kind 0)).link.assembler = .kind 0 ∧
    (assembling (.payload 2 0x20 [4])).link.assembler = .payload 2 0x20 [4] ∧
    byteSum (BitVec.ofNat 8 0 :: 0x01 :: [] ++ [(0xFE : Byte)]) ≠ 0 ∧
    byteSum (BitVec.ofNat 8 0 :: 0x02 :: [] ++ [(0xFE : Byte)]) = 0 ∧
    (assembling (.check 0 0x02 [])).link.assembler = .check 0 0x02 [] ∧ parityBit 1 ≠ false := by decide

/-- R150, R161, R165: while a RESTART stands taken a byte in error within a frame sets no flag; in HUNT it sets line_error, as it
does without a RESTART. -/
theorem witness_errors_after_restart : Listens restarting ∧ restarting.link.restartTaken = true ∧
    restarting.link.assembler = .hunt ∧
    after (.rxByte 1 false true) restarting (fun t => t.link.lineError) = some true ∧
    after (.rxByte 1 false true) { restarting with link := { restarting.link with assembler := .length } }
      (fun t => t.link.lineError) = some false ∧
    after (.rxByte 1 false true) (assembling .length) (fun t => t.link.lineError) = some true := by decide

/-- R161: the bits of the STATUS request's check byte 0xFE, and those of a shifting reply before one that waits. -/
theorem test_line_bits : lineBits 0xFE = [false, false, true, true, true, true, true, true, true, true, true] ∧
    restarting.txLine.length = 55 ∧ restarting.txLine.take 11 = [false, true, true, false, false, false, false, true, true, false, true] ∧
    after .replySent restarting State.txLine = some [] ∧ restarting.link.shifting ≠ none := by decide

/-- DRIVE or another state, silent for so long. -/
def silent (o : OpState) (ms : Nat) : State := { inState o with op := { (inState o).op with silenceTimer := ms } }

theorem witness_silence : (silent .drive 2000).op.resetHeld = false ∧ (silent .drive 2000).op.state = .drive ∧
    (silent .drive 2000).op.linkSilent = false ∧ (silent .drive 2000).op.linkTimeout ≠ 0 ∧
    100 * (silent .drive 2000).op.linkTimeout ≤ (silent .drive 2000).op.silenceTimer ∧
    (silent .drive 1990).op.silenceTimer < 100 * (silent .drive 1990).op.linkTimeout := by decide

theorem witness_silence_none :
    ({ silent .drive 9000 with op := { (silent .drive 9000).op with linkTimeout := 0 } } : State).op.linkTimeout = 0 ∧
    ({ silent .drive 9000 with op := { (silent .drive 9000).op with linkSilent := true } } : State).op.linkSilent = true ∧
    (silent .watch 9000).op.state ≠ .drive ∧ (silent .watch 9000).op.state ≠ .park := by decide

theorem witness_receiver :
    ({ State.reset with link := { State.reset.link with receiverPaused := true } } : State).link.receiverPaused = true := by
  decide

/-! ### Witnesses: sleep and its window -/

theorem witness_enterSleep : watching.op.resetHeld = false ∧ watching.op.state = .watch ∧
    (∀ ch, (watching.lamp ch).state = .off ∧ (watching.lamp ch).demand = 0) ∧ watching.flash.phase = .idle ∧
    watching.resolver.courtesy.phase ≠ .dwell ∧ watching.resolver.courtesy.phase ≠ .fade ∧ watching.link.inbound = [] ∧
    watching.link.assembler = .hunt ∧ watching.link.shifting = none ∧ watching.link.waiting = none := by decide

/-- SLEEP with a window in which every watched input has three asserted samples. -/
def confirming : State := { inState .sleep with op := { (inState .sleep).op with window := some ripeWindow } }

/-- IGN high, HAZ low, DOOR high: with negative earth IGN alone is asserted (R143). -/
def ignHigh : PinLevels := { low with ign := true, door := true }

theorem witness_window : confirming.op.resetHeld = false ∧ confirming.op.state = .sleep ∧
    confirming.op.window = some ripeWindow ∧ ripeWindow.ignRun = 3 ∧ ripeWindow.hazRun = 3 ∧ ripeWindow.doorRun = 3 ∧
    confirming.assertedAt .ign true = true ∧ confirming.eventEnabled .woken = true ∧
    confirming.report.events.length < 16 ∧ (inState .sleep).op.window = none := by decide

theorem witness_window_one : (confirming.windowSample ignHigh ripeWindow).candidates = [.ign] := by decide

theorem witness_window_tie : 2 ≤ (confirming.windowSample { ignHigh with haz := true } ripeWindow).candidates.length := by
  decide

/-- SLEEP with a window that holds the change of the DOOR input, and a scene about to expire: with a base demand under it that lights
channel 12, or with none. -/
def heldBack (base : Nat) : State :=
  let s := (withScene .sleep).setLamp 12 { (withScene .sleep).lamp 12 with cfg := { (LampCfg.reset 12) with fn := some .aux1 } }
  { s.setFn .aux1 { s.fnRec .aux1 with base := base } with
    op := { s.op with window := some { s.openWindow with doorRun := 2, held := [(.door, true), (.sw0, true)] } } }

theorem witness_window_unripe : (heldBack 0).op.resetHeld = false ∧ (heldBack 0).op.state = .sleep ∧
    ((heldBack 0).op.window.map (fun w =>
      let v := (heldBack 0).windowSample low w
      (v.ignRun, v.hazRun, v.doorRun, w.held.map (·.1)))) = some (0, 0, 3, [.door, .sw0]) := by decide

theorem witness_window_scene : expiringScene (heldBack 0).resolver.scenes 7 = true ∧
    (heldBack 0).eventEnabled .input = true ∧ (heldBack 0).report.events.length ≤ 4 ∧
    after (.sceneExpiry 7) (heldBack 40) (fun t => (t.op.state, t.level .door)) = some (.park, true) ∧
    after (.sceneExpiry 7) (heldBack 0) (fun t => (t.op.state, t.level .door)) = some (.sleep, false) := by decide +kernel

/-- The events of that window's end: SCENE_END, STATE, then the held changes with the wake that DOOR brings (log entry 37). -/
theorem witness_window_events : (∀ g, ((heldBack 40).gauge g).state ≠ .test) ∧ (∀ g, (confirming.gauge g).state ≠ .test) ∧
    after (.sceneExpiry 7) (heldBack 40) (fun t => t.report.events.map (fun r => (r.kind, r.subject, r.detail, r.count))) =
      some [(.sceneEnd, 7, 0, 1), (.state, 0, 2, 2), (.input, 3, 1, 1), (.woken, 0, 2, 1), (.input, 4, 1, 1)] := by
  decide +kernel

/-- The same window is ended by an edge of RX, which makes the state PARK. -/
theorem witness_window_rx : (heldBack 0).op.state = .sleep ∧
    after .rxWake (heldBack 0) (fun t => (t.op.state, t.level .door, t.level .sw0)) = some (.park, true, true) := by decide +kernel

/-! ### Witnesses: the channel bank and the flash engine -/

theorem witness_samples : (inState .drive).op.resetHeld = false ∧ (inState .drive).op.state ≠ .sleep ∧
    (inState .sleep).op.state = .sleep ∧ (inState .drive).bank.intervalOpen = true ∧
    (inState .sleep).bank.intervalOpen = true ∧ (∀ ch : ChanId, (Vector.replicate 17 (none : Option Nat))[ch] = none) ∧
    (∃ ch : ChanId, (only 3 100)[ch] ≠ none) := by decide

/-- PANEL at 40 on the LIGHT channel 10 in ON, HEAVY channel 0 in ON, the fan at 550 and gauge A in RUN at 250. -/
def sampled : State :=
  let s := (inState .drive).setFn .panel { (inState .drive).fnRec .panel with base := 40 }
  let s := s.setLamp 10 { s.lamp 10 with cfg := { (s.lamp 10).cfg with fn := some .panel }, state := .on, demand := 40 }
  let s := (s.setLamp 0 { s.lamp 0 with state := .on, demand := 100 }).setGauge 0 { s.gauge 0 with state := .run, d := 250 }
  { s with fan := { s.fan with state := .running, applied := 550 } }

/-- R4: a slot value is the sample times the applied duty, rounded down. -/
theorem test_slot_values : sampled.op.resetHeld = false ∧ sampled.bank.intervalOpen = true ∧ sampled.gaugeSampled 0 = true ∧
    [(lampChan 10, 999), (lampChan 0, 999), (fanChan, 999), (gaugeChan 0, 999)].map (fun x =>
      after (.currentSample (only x.1 x.2)) sampled (fun t => ((t.measOf x.1).slotLast, (t.measOf x.1).slotSum))) =
      [some (399, 399), some (999, 999), some (549, 549), some (249, 249)] := by decide +kernel

theorem witness_mark : (inState .drive).bank.intervalOpen = true ∧
    ({ inState .park with bank := { (inState .park).bank with intervalOpen := false } } : State).bank.intervalOpen = false ∧
    (inState .park).op.resetHeld = false ∧ (inState .park).op.state ≠ .sleep := by decide

/-- A LIGHT channel in INRUSH or ON, with two samples above its threshold behind it. -/
def loaded (x : LampState) : State :=
  let s := withLamp (inState .drive) 4 x
  s.setLamp 4 { s.lamp 4 with overCount := 2, lampRun := { verdict := true, count := 2 } }

theorem witness_trip : (loaded .inrush).op.resetHeld = false ∧ ((loaded .inrush).lamp 4).state = .inrush ∧ hardLimit 4 ≤ 12000 ∧
    ((loaded .on).lamp 4).state = .on ∧
    min (((loaded .on).lamp 4).cfg.nominal * ((loaded .on).lamp 4).cfg.tripPct / 100) (maxContinuous 4) < 2881 ∧
    2 ≤ ((loaded .on).lamp 4).overCount ∧ ((loaded .on).lamp 4).retriesUsed < ((loaded .on).lamp 4).cfg.retryLimit ∧
    (loaded .on).eventEnabled .chTrip = true ∧ (loaded .on).report.events.length < 16 := by decide

theorem witness_trip_events : EventsOk (loaded .on) := by unfold EventsOk; decide

theorem witness_lampOut : ((loaded .on).lamp 4).state = .on ∧ (loaded .on).flashDriven 4 = false ∧ 899 < hardLimit 4 ∧
    899 ≤ min (((loaded .on).lamp 4).cfg.nominal * ((loaded .on).lamp 4).cfg.tripPct / 100) (maxContinuous 4) ∧
    ((loaded .on).lamp 4).lampRun.verdict =
      decide (899 < ((loaded .on).lamp 4).cfg.nominal * ((loaded .on).lamp 4).cfg.lampOutPct / 100) ∧
    2 ≤ ((loaded .on).lamp 4).lampRun.count ∧ ((loaded .on).lamp 4).lampOut ≠ true := by decide

/-- The single readings of a lamp channel: one that trips, one that decides lamp_out, one that does neither, in a steady channel and
in one driven by a flash under way; a read-back in QUEUED, and one while HOLD stands. -/
theorem witness_single_readings :
    (hardLimit 4 ≤ 12000 ∧ ¬ hardLimit 4 ≤ 899 ∧ ((loaded .on).lamp 4).state = .on) ∧
    (let s := flashing .on
     let t := withLamp s 6 .on
     t.flashDriven 6 = true ∧ t.flash.phase = .on ∧ (t.lamp 6).state = .on ∧ t.op.state ≠ .sleep) ∧
    ((inState .drive).wanted = .none ∧ (inState .drive).flash.phase = .idle) ∧
    ((withLamp (inState .drive) 4 .queued).lamp 4).state = .queued ∧
    (let s := held (inState .drive)
     s.supply.hold = true ∧ (s.lamp 4).state = .off ∧ s.op.state ≠ .sleep ∧ s.op.resetHeld = false) := by decide

/-- DRIVE with DIP wanted from channels 0 and 1, whose retries are spent, whose spares are 3 and 2, and beside whose starts the fan's
kick holds half the allowance. -/
def twoSpares : State :=
  let s := withFan (inState .drive) .kick
  let s := { s.setFn .dip { s.fnRec .dip with base := 100 } with
    fan := { s.fan with step := 2, applied := 1000, kickTimer := some 300, granted := true } }
  let s := s.setFn .fan { s.fnRec .fan with base := 2 }
  let lamp (s : State) (ch : LampId) (f : Option Fn) : State :=
    s.setLamp ch { s.lamp ch with cfg := { (s.lamp ch).cfg with fn := f, retryLimit := 0 } }
  let s := lamp (lamp (lamp (lamp s 0 (some .dip)) 1 (some .dip)) 2 none) 3 none
  let s := withLamp (withLamp s 0 .on) 1 .on
  (s.setSub 0 { pair := some (0, 3), engaged := false }).setSub 1 { pair := some (1, 2), engaged := false }

/-- R12, R23: channel 0 locks out, and the entry of it that fits engages: CH_TRIP, CH_LOCKOUT and SUBST stand in this order. -/
theorem witness_lockout : SubstitutionOk twoSpares ∧ EntryFits twoSpares 0 0 3 ∧ hardLimit 0 ≤ 70000 ∧
    (twoSpares.lamp 0).cfg.retryLimit ≤ (twoSpares.lamp 0).retriesUsed ∧
    after (.trip 0 70000) twoSpares (fun t => (t.report.events.map (fun r => (r.kind, r.subject, r.detail)),
        (t.subEntry 0).engaged, (t.lamp 3).substituteFor)) =
      some ([(.chTrip, 0, 65535), (.chLockout, 0, 0), (.subst, 0, 3)], true, some 0) := by
  refine ⟨⟨by decide, by decide, by decide, by decide, ?_, by decide⟩, ⟨by decide, by decide, by decide, by decide, by decide,
    by decide⟩, by decide, by decide, by decide +kernel⟩
  intro q c h
  have : ∀ q, (twoSpares.lamp q).setAside = none := by decide
  exact absurd ((this q).symm.trans h) (by simp)

/-- R23: where the spare is locked out itself, no entry engages and no SUBST is raised; a sample that trips may clear lamp_out too. -/
theorem witness_lockout_alone : ¬ EntryFits (withLamp twoSpares 3 .lockedOut) 0 0 3 ∧
    after (.trip 0 70000) (withLamp twoSpares 3 .lockedOut) (fun t => (t.report.events.map (·.kind), (t.subEntry 0).engaged)) =
      some ([.chTrip, .chLockout], false) ∧
    (let s := loaded .on
     let s := s.setLamp 4 { s.lamp 4 with lampRun := { verdict := false, count := 2 }, lampOut := true }
     (s.lamp 4).state = .on ∧ s.flashDriven 4 = false ∧
       after (.trip 4 12000) s (fun t => (t.report.events.map (·.kind), (t.lamp 4).lampOut)) =
         some ([.chTrip, .chLampOk], false)) := by
  refine ⟨fun h => h.available (by decide), by decide +kernel, by decide +kernel⟩

/-- R31, R32: two lock-outs on one sampling moment are two causes: channel 3, spare of channel 0, joins and is granted before channel 2,
spare of channel 1, joins, which then waits. -/
theorem test_two_lockouts :
    after (.currentSample ((only (lampChan 0) 70000).set 1 (some 70000))) twoSpares
      (fun t => ([0, 1, 2, 3].map (fun ch : LampId => (t.lamp ch).state), t.queue.map (fun e => e.ch.val))) =
      some ([.lockedOut, .lockedOut, .queued, .inrush], [2]) := by decide +kernel

/-- Two channels that trip on one moment, in a part that agrees with itself and in which the second is no spare. -/
theorem witness_two_trips :
    let s := twoSpares.settle
    Consistent s ∧ s.op.resetHeld = false ∧ s.op.state ≠ .sleep ∧ hardLimit 0 ≤ 70000 ∧ hardLimit 1 ≤ 70000 ∧
      (s.flash.phase ≠ .idle ∨ s.wanted = .none) ∧ (s.lamp 0).state = .on ∧ (s.lamp 1).state = .on ∧ (s.lamp 1).demand ≠ 0 ∧
      (∀ e p, (s.subEntry e).pair ≠ some (p, 1)) := by
  refine ⟨settle_consistent _, ?_⟩
  decide +kernel

/-- A channel in OFF with two read-backs of a fed line behind it. -/
def fedTwice : State :=
  let s := inState .drive
  { s.setLamp 5 { s.lamp 5 with fedRun := { verdict := true, count := 2 } } with supply := { s.supply with latest := 12000 } }

theorem witness_fed : fedTwice.op.resetHeld = false ∧ fedTwice.op.state ≠ .sleep ∧ (fedTwice.lamp 5).state = .off ∧
    fedTwice.supply.hold = false ∧
    (fedTwice.lamp 5).fedRun.verdict = decide (fedTwice.supply.latest < 2 * 6001) ∧ 2 ≤ (fedTwice.lamp 5).fedRun.count ∧
    (fedTwice.lamp 5).fed ≠ decide (fedTwice.supply.latest < 2 * 6001) := by decide

/-- The end of an ON phase in which channel 6 was found out and channel 7, out before, well again (R18). -/
def phaseJudged : State :=
  let s := flashing .on
  let s := s.setLamp 6 { s.lamp 6 with phaseSample := some 100 }
  s.setLamp 7 { s.lamp 7 with phaseSample := some 2000, lampOut := true }

theorem witness_phase_end : phaseJudged.flash.phase = .on ∧ phaseJudged.op.resetHeld = false ∧
    phaseJudged.flashDriven 6 = true ∧ phaseJudged.flashDriven 7 = true ∧
    after .onPhaseEnd phaseJudged (fun t => t.report.events.map (fun r => (r.kind, r.subject, r.detail))) =
      some [(.chLampOut, 6, 100), (.chLampOk, 7, 2000)] := by decide +kernel

/-- The end of an OFF phase after which the left side goes on, and one after which the engine falls idle: channel 6 has a sample of the
ON phase before and a run of two (R17, R18). -/
def offPhase (side : Sides) : State :=
  let s := flashing .off
  let s := s.setLamp 6 { s.lamp 6 with phaseSample := some 100, lampRun := { verdict := true, count := 2 } }
  { s with flash := { s.flash with hostSide := side } }

theorem witness_off_end : (offPhase .left).flash.phase = .off ∧ (offPhase .left).op.resetHeld = false ∧
    (offPhase .none).flashDriven 6 = true ∧
    after .offPhaseEnd (offPhase .left) (fun t => ((t.lamp 6).phaseSample, (t.lamp 6).lampRun.count)) = some (none, 2) ∧
    after .offPhaseEnd (offPhase .none) (fun t => (t.flashDriven 6, (t.lamp 6).lampRun.count)) = some (false, 0) := by
  decide +kernel

theorem witness_lampTimers : (loaded .inrush).op.resetHeld = false ∧ ((loaded .inrush).lamp 4).state = .inrush ∧
    ((withLamp (inState .drive) 4 .tripped).lamp 4).state = .tripped ∧ ((loaded .on).lamp 4).state = .on := by decide

/-! ### Witnesses: the fan and the gauges -/

/-- The fan in a given state at an applied duty. -/
def blowing (x : FanState) (duty : Nat) : State :=
  { inState .drive with fan := { (inState .drive).fan with state := x, applied := duty } }

theorem witness_fan : (blowing .kick 1000).op.resetHeld = false ∧ (blowing .kick 1000).fan.state = .kick ∧
    (blowing .kick 1000).fan.applied ≠ 0 ∧ (blowing .ramping 300).fan.state = .ramping ∧ (blowing .running 500).fan.state = .running ∧
    (blowing .stallWait 0).fan.state = .stallWait ∧ (30000 : Nat) ≤ 30000 ∧
    (blowing .kick 1000).fan.retriesUsed < (blowing .kick 1000).fan.settings.retryLimit ∧
    (let f := { (blowing .running 500).fan with stallTimer := 490, retriesUsed := 3 }
     f.settings.stallCurrent ≤ 9000 ∧ f.settings.stallTime ≤ f.stallTimer + 10 ∧ f.settings.retryLimit ≤ f.retriesUsed) := by decide

/-- The fan waits out a stall at step 2, with nothing queued and a kick time. -/
def stalled (kick : Nat) : State :=
  let s := blowing .stallWait 0
  { s with fan := { s.fan with step := 2, target := 550, settings := { s.fan.settings with kickTime := kick } } }

theorem witness_fan_grant : (∀ k : Fin 2, let s := stalled k.val
      s.op.resetHeld = false ∧ s.fan.state = .stallWait ∧ s.fan.step ≠ 0 ∧ s.supply.hold = false ∧ s.queue = [] ∧
        (∀ ch, (s.lamp ch).state ≠ .queued) ∧ s.allowanceInUse ≤ 2 ∧ s.fan.target ≠ 0) ∧
    after .stallWaitEnd (stalled 1) (fun t => (t.fan.state, t.fan.applied, t.fan.granted)) = some (.kick, 1000, true) ∧
    after .stallWaitEnd (stalled 0) (fun t => (t.fan.state, t.fan.applied, t.fan.granted)) = some (.ramping, 0, false) := by
  decide +kernel

/-- The fan runs, close to its stall time. -/
def runFan (s : State) : State := { s with fan := { s.fan with state := .running, applied := 550, stallTimer := 490 } }

theorem runFan_consistent {s : State} (h : Consistent s) : Consistent (runFan s) := ⟨h.resolved, h.demands, h.fanStep⟩

/-- A consistent part whose fan runs at step 2. -/
def fanRuns : State := runFan ((inState .drive).setFn .fan { (inState .drive).fnRec .fan with base := 2 }).settle

theorem witness_fan_consistent : Consistent fanRuns := runFan_consistent (settle_consistent _)

theorem witness_fan_sample : fanRuns.op.resetHeld = false ∧ fanRuns.op.state ≠ .sleep ∧
    fanRuns.fan.state.conducts = true ∧ fanRuns.fan.applied ≠ 0 ∧
    after (.currentSample (only 14 9000)) fanRuns (fun t => (t.fan.state, t.fan.retriesUsed)) = some (.stallWait, 1) ∧
    after (.currentSample (only 14 8999)) fanRuns (fun t => (t.fan.state, t.fan.stallTimer)) = some (.running, 0) := by
  decide +kernel

theorem witness_gauge_update : (withGauge (inState .drive) 1 .run 1014).op.resetHeld = false ∧
    ((withGauge (inState .drive) 1 .run 1014).gauge 1).state = .run ∧
    ((withGauge (inState .drive) 1 .run 1014).gauge 1).samples.length = 10 ∧
    (withGauge (inState .drive) 1 .run 1014).supply.hold = false ∧
    (withGauge (inState .drive) 1 .run 1014).senseModeOf 1 = .sender := by decide

/-- The last tested gauge at a step, with so many samples, and HOLD or not. -/
def testing (step n : Nat) (hold : Bool) : State :=
  let s := withGauge (inState .drive) 1 .test 500
  let s := s.setGauge 1 { s.gauge 1 with samples := List.replicate n 500, fresh := true }
  { s with gauges := { s.gauges with testStep := step }, supply := { s.supply with hold := hold } }

theorem witness_gauge_tested : ((testing 58 10 false).gauge 1).state = .test ∧ ((testing 58 10 false).gauge 1).samples.length = 10 ∧
    ((testing 58 10 false).gauge 1).fresh = true ∧ ((testing 59 3 true).gauge 1).samples.length ≠ 10 ∧
    (testing 59 3 true).supply.hold = true ∧ ((testing 59 3 true).gauge 0).state ≠ .test ∧
    (testing 59 3 true).op.resetHeld = false ∧ (withGauge (inState .drive) 1 .outputFault 500).op.resetHeld = false := by decide

/-- A gauge on whose output one sample above 1,000 mA was seen, and whose sender has been open twice. -/
def troubled (x : GaugeState) : State :=
  let s := withGauge (inState .drive) 0 x 1015
  s.setGauge 0 { s.gauge 0 with d := 5, shortCount := 1, runClass := .opened, runCount := 2 }

theorem witness_gauge_status : (troubled .run).op.resetHeld = false ∧ ((troubled .run).gauge 0).state = .run ∧
    ((troubled .run).gauge 0).samples.length = 10 ∧ 1015 ≤ (((troubled .run).gauge 0).samples.sum + 5) / 10 ∧
    SenderStatus.opened ≠ ((troubled .run).gauge 0).sender ∧ ((troubled .run).gauge 0).runClass = .opened ∧
    2 ≤ ((troubled .run).gauge 0).runCount ∧ (troubled .run).report.events.length ≤ 8 := by decide

theorem witness_gauge_short : ((troubled .test).gauge 0).state = .test ∧ ((troubled .test).gauge 0).d ≠ 0 ∧
    (troubled .test).supply.hold = false ∧ ((troubled .test).gauge 0).shortCount ≠ 0 ∧
    (∀ h : GaugeId, h ≠ 0 → ((troubled .test).gauge h).state ≠ .test) := by decide

theorem witness_gauge_reading : ((troubled .run).gauge 0).state = .run ∧ ((troubled .run).gauge 0).d ≠ 0 ∧
    (troubled .run).op.state ≠ .sleep ∧
    after (.currentSample (only (gaugeChan 0) 1001)) (troubled .run) (fun t => (t.gauge 0).state) = some .outputFault ∧
    after (.currentSample (only (gaugeChan 0) 1000)) (troubled .run) (fun t => (t.gauge 0).shortCount) = some 0 := by
  decide +kernel

/-- R116: a gauge leaves RUN with its count at 0. -/
theorem test_gaugetest_short : after .gaugetest (asked (troubled .run) 0x27 []) (fun t => ((t.gauge 0).state, (t.gauge 0).shortCount)) =
    some (.test, 0) := by decide +kernel

theorem witness_test_end :
    let s := { troubled .test with gauges := { (troubled .test).gauges with testStep := 59 } }
    s.op.resetHeld = false ∧ (s.gauge 0).state = .test ∧ s.gauges.testStep = 59 := by decide

theorem witness_curve : ([⟨10, 0⟩, ⟨40, 1000⟩, ⟨90, 500⟩] : List Point).Pairwise (fun a b => a.ohms < b.ohms) ∧
    ([⟨10, 0⟩, ⟨40, 1000⟩, ⟨90, 500⟩] : List Point) = [⟨10, 0⟩] ++ ⟨40, 1000⟩ :: ⟨90, 500⟩ :: [] ∧ 1 ≤ 256 := by decide

/-! ### Witnesses: the supply, the inputs and the timers -/

/-- HOLD stands, after so many samples below Vrelease. -/
def releasing (n : Nat) : State := { inState .drive with supply := { (inState .drive).supply with hold := true, releaseCount := n } }

theorem witness_supply : (inState .drive).op.resetHeld = false ∧ (inState .drive).op.state ≠ .sleep ∧
    (inState .drive).supply.hold = false ∧ (inState .drive).supply.settings.vover = 16000 ∧
    (releasing 48).supply.hold = true ∧ (releasing 48).supply.releaseCount < 49 ∧ 49 ≤ (releasing 49).supply.releaseCount ∧
    (releasing 49).supply.settings.vrelease = 15000 := by decide

/-- HOLD declared while a gauge is tested: HOLD_ON with its sample, TEST_END with 1 behind it. -/
theorem witness_hold_aborts_test : (testing 5 10 false).op.resetHeld = false ∧ (testing 5 10 false).op.state ≠ .sleep ∧
    (testing 5 10 false).supply.hold = false ∧ ((testing 5 10 false).gauge 1).state = .test ∧
    after (.supplySample 17200 0) (testing 5 10 false) (fun t => t.report.events.map (fun e => (e.kind, e.detail))) =
      some [(.holdOn, 17200), (.testEnd, 1)] := by decide +kernel

/-- An interval of ten samples, closed by the bank's averages. -/
def dueEvaluation : State :=
  { inState .drive with
    bank := { (inState .drive).bank with averagesReady := true }
    supply := { (inState .drive).supply with samples := List.replicate 10 (12100, 13000), chargeCount := 9, below2 := 19 } }

theorem witness_evaluation : dueEvaluation.op.resetHeld = false ∧ dueEvaluation.op.state ≠ .sleep ∧
    dueEvaluation.bank.averagesReady = true ∧ dueEvaluation.supply.samples.length = 10 ∧
    dueEvaluation.supply.hold = false ∧ dueEvaluation.supply.la ≤ 3 := by decide

theorem witness_evaluation_short :
    let s := { dueEvaluation with supply := { dueEvaluation.supply with samples := List.replicate 9 (12100, 13000) } }
    s.op.resetHeld = false ∧ s.op.state ≠ .sleep ∧ s.supply.samples.length < 10 ∧ s.bank.averagesReady = true ∧
      (inState .drive).bank.averagesReady = false := by decide

theorem witness_evaluation_held :
    let s := { dueEvaluation with supply := { dueEvaluation.supply with hold := true, account := 5000000 } }
    s.supply.hold = true ∧ s.supply.la < 3 ∧ s.supply.samples.length = 10 ∧ s.op.state ≠ .sleep ∧
      after .supplyEvaluation s (fun t => (t.supply.lv, t.supply.below2, t.supply.la, t.supply.l)) = some (0, 19, 2, 2) := by
  decide +kernel

/-- An input that has disagreed three times. -/
def disagreeing (o : OpState) (i : InputId) : State := (inState o).setInRec i { (inState o).inRec i with count := 3 }

/-- The pins at rest in a negative-earth car but for IGN, which is switched on. -/
def ignOn : PinLevels := { ign := true, brake := false, haz := false, door := true, sw0 := true, sw1 := true }

/-- One input changes its level on the sample, the counts of the others are what the sample leaves, and the sample is that change. -/
theorem witness_level_change : let s := disagreeing .park .ign
    s.op.resetHeld = false ∧ s.op.state ≠ .sleep ∧ (s.inRec .ign).count = 3 ∧ s.assertedAt .ign (ignOn.get .ign) = true ∧
      ([.brake, .haz, .door, .sw0, .sw1] : List InputId).all
        (fun i => !s.inputSampled i || (s.assertedAt i (ignOn.get i) == (s.inRec i).level && (s.inRec i).count == 0)) = true ∧
      after (.inputSample ignOn) s (fun t => (t.op.state, t.report.events.map (·.kind))) = some (.drive, [.input, .state]) ∧
      after (.inputSample ignOn) s (fun t => decide (some t = after (.inputLevelChange .ign) s id)) = some true := by
  decide +kernel

theorem witness_inputs : (disagreeing .park .ign).op.resetHeld = false ∧ (disagreeing .park .ign).op.state ≠ .sleep ∧
    3 ≤ ((disagreeing .park .ign).inRec .ign).count ∧ 3 ≤ ((disagreeing .watch .door).inRec .door).count ∧
    ((inState .park).senseModeOf 0 = .sender) ∧ (inState .sleep).op.window = none := by decide

/-- SLEEP with the door input asserted three times, and channel 12 serving INTERIOR. -/
def doorAsleep : State :=
  let s := disagreeing .sleep .door
  s.setLamp 12 { s.lamp 12 with cfg := { (s.lamp 12).cfg with fn := some .interior } }

/-- SLEEP was entered first: the input has disagreed three times there, with no window open. -/
theorem witness_slept_first : (disagreeing .sleep .haz).op.resetHeld = false ∧ (disagreeing .sleep .haz).op.state = .sleep ∧
    (disagreeing .sleep .haz).op.window = none ∧ ((disagreeing .sleep .haz).inRec WakeInput.haz.input).level = false ∧
    3 ≤ ((disagreeing .sleep .haz).inRec WakeInput.haz.input).count ∧
    after (.inputLevelChange .ign) (disagreeing .sleep .ign) (fun t => (t.op.state, t.level .ign)) = some (.sleep, true) ∧
    after (.inputLevelChange .door) doorAsleep (fun t => (t.op.state, (t.lamp 12).demand)) = some (.watch, 100) ∧
    after (.inputLevelChange .brake) (disagreeing .watch .brake) (fun t => t.op.state) = some .watch ∧
    ¬ ((InputId.sw0 = .sw0) ∧ ({ disagreeing .park .sw0 with
        inputs := { (disagreeing .park .sw0).inputs with senseMode := #v[.switch, .sender] } } : State).senseModeOf 0 = .sender) := by
  decide +kernel

/-- The courtesy lamp in a phase. -/
def courtesyIn (p : CourtesyPhase) : State :=
  { inState .park with resolver := { (inState .park).resolver with courtesy := { (inState .park).resolver.courtesy with phase := p, level := 100 } } }

/-- LIMP with IGN asserted, silent for so long. -/
def limpIgn (ms : Nat) : State :=
  let s := State.reset.setInRec .ign { State.reset.inRec .ign with level := true }
  { s with op := { s.op with silenceCount := ms } }

theorem witness_courtesy : (courtesyIn .dwell).op.resetHeld = false ∧ (courtesyIn .dwell).resolver.courtesy.phase = .dwell ∧
    (courtesyIn .fade).resolver.courtesy.phase = .fade ∧ (limpIgn 2000).op.state = .limp ∧ (limpIgn 2000).level .ign = true ∧
    (limpIgn 2000).op.limpLighting = false ∧ (limpIgn 2000).resolver.scenes = [] ∧ ((limpIgn 2000).fnRec .dip).cls = 0 ∧
    ((limpIgn 2000).fnRec .side).cls = 0 ∧ 2000 ≤ (limpIgn 2000).op.silenceCount ∧
    (limpIgn 1990).op.silenceCount < 2000 ∧ (∀ ch : LampId, (courtesyIn .dwell).serving ch = some .interior → ch.val < 4) := by decide

/-- PARK with the door open and about to close, in a courtesy phase with a hold time, channel 12 serving INTERIOR or none. -/
def doorCloses (p : CourtesyPhase) (hold : Nat) (light : Bool) : State :=
  let s := courtesyIn p
  let s := s.setInRec .door { s.inRec .door with level := true, count := 3 }
  let s := s.setLamp 12 { s.lamp 12 with cfg := { (s.lamp 12).cfg with fn := if light then some .interior else none } }
  { s with resolver := { s.resolver with courtesy := { s.resolver.courtesy with enable := true, holdS := hold } } }

/-- R62, R63: the door closed in OPEN with a hold of 0, over a LIGHT channel or none, and closed in FADE. -/
theorem witness_door_closes :
    (∀ hold, 3 ≤ ((doorCloses .opened hold true).inRec .door).count) ∧ (doorCloses .opened 0 true).op.state ≠ .sleep ∧
      (doorCloses .opened 0 true).serving 12 = some .interior ∧
      (∀ ch : LampId, (doorCloses .opened 0 false).serving ch = some .interior → ch.val < 4) ∧
      [doorCloses .opened 0 true, doorCloses .opened 0 false, doorCloses .fade 0 true, doorCloses .opened 2 true].map
        (fun s => after (.inputLevelChange .door) s (fun t =>
          (t.resolver.courtesy.phase, t.resolver.courtesy.level, t.resolver.courtesy.timer))) =
        [some (.fade, 100, 100), some (.quiet, 0, 0), some (.fade, 100, 0), some (.dwell, 100, 2000)] := by
  refine ⟨fun hold => ?_, ?_⟩
  · show 3 ≤ 3
    decide
  · decide +kernel

/-! ### The tables and worked examples of the manual -/

/-- The check byte of an empty STATUS request (R162). -/
theorem test_check_byte : Frame.checkByte { kind := 0x02, payload := [] } = 0xFE := by decide

/-- Even parity (R161). -/
theorem test_parity : parityBit 0xC3 = false ∧ parityBit 0x01 = true := by decide

/-- Table 3-3. -/
theorem test_panel_under_shedding : [100, 60, 19, 15, 10, 4, 0].map panelShed = [50, 30, 10, 10, 10, 4, 0] := by decide

/-- Table 4-2. -/
theorem test_half_periods : [60, 75, 80, 90, 100, 120].map (fun r => (halfNormal r, halfFast r)) =
    [(500, 250), (400, 200), (370, 180), (330, 160), (300, 150), (250, 120)] := by decide

/-- Table 7-3. -/
theorem test_account_deltas : ([13450, 11200, 5, 4, -11, -12, -7800, -19000] : List Int).map accountDelta =
    [1345, 1120, 1, 0, 0, -1, -682, -1662] := by decide

/-- Section 12.1: the credit of the net current −8,600 mA. -/
theorem test_credit : accountDelta (-8600) = -752 := by decide

/-- R5: the default thresholds of a LIGHT and of a HEAVY channel. -/
theorem test_thresholds : (lampOutThreshold (LampCfg.reset 4), tripThreshold 4 (LampCfg.reset 4),
    inrushTripThreshold 4 (LampCfg.reset 4)) = (900, 2880, 12000) ∧
    (lampOutThreshold (LampCfg.reset 0), tripThreshold 0 (LampCfg.reset 0), inrushTripThreshold 0 (LampCfg.reset 0)) =
      (2250, 7200, 36000) := by decide

/-- R5: a nominal of 12,000 mA at 160 percent is clamped to 15,000 mA. -/
theorem test_threshold_clamped : tripThreshold 0 { LampCfg.reset 0 with nominal := 12000 } = 15000 := by decide

/-- R12: the delays of successive trips. -/
theorem test_retry_delays : (List.range 7).map retryDelay = [100, 200, 400, 800, 1600, 3200, 6400] := by decide

/-- Table 3-4: base step 3 by class and shed level. -/
theorem test_fan_shedding : [0, 1, 2, 3].map (fun c => [0, 1, 2, 3].map (fun l =>
    if shedAffects c l then shedValue .fan c l 3 else 3)) =
    [[3, 3, 3, 3], [3, 3, 3, 2], [3, 3, 2, 1], [3, 2, 1, 0]] := by decide

/-- Table 6-4. -/
theorem test_test_ramp : [1, 2, 3, 15, 29, 30, 31, 45, 59, 60].map rampPosition =
    [33, 67, 100, 500, 967, 1000, 967, 500, 33, 0] := by decide

/-- Section 6.9: resistance and target of the worked update. -/
theorem test_fuel_gauge : resistanceOf 220 296 = 90 ∧
    curveAt [⟨30, 1000⟩, ⟨70, 750⟩, ⟨110, 500⟩, ⟨170, 250⟩, ⟨240, 0⟩] 90 = 625 := by decide

/-- Section 6.9: the four damping steps, the fourth a half that rounds away from zero. -/
theorem test_damping : [10400, 10350, 10306, 10268].map (fun f => damp 32 f 625) = [10350, 10306, 10268, 10234] := by decide

/-- Section 6.9: D at four supply voltages. -/
theorem test_compensation : [12400, 6800, 6000, 4900].map (compensate 647 600 10000) =
    [(252, .none), (840, .none), (1000, .saturated), (0, .undervolt)] := by decide

/-- R184: the worked EVFETCH reply. -/
theorem test_evfetch_layout :
    { Report.reset with events := [⟨.chTrip, 9, 41200, 4, 3210⟩] }.fetchData =
      [32, 10, 0, 0, 0, 0x40, 0, 0xA0, 0xF0, 0, 0, 0, 0, 0, 0, 0x0C, 0x8A, 0, 0, 0, 0, 0, 0] := by decide

/-! ### Single commands -/

/-- R167: the reply to IDENT (R170). -/
theorem test_ident_reply : replyOf .ident (asked State.reset 0x01 []) =
    some { kind := 0x81, payload := [0, 0x48, 0x26, 0x40, 3, 1] } := by decide

/-- R167: a kind of 0x80 or above is refused with the kind byte 0xFF. -/
theorem test_bad_kind_high : replyOf .unknownKind (asked State.reset 0x90 []) =
    some { kind := 0xFF, payload := [3, 0x90] } := by decide

/-- R70: a rate of 59 is stored as 60 with half-periods of 500 and 250 ms. -/
theorem test_flashcfg_clamps : replyOf .flashcfg (asked State.reset 0x43 [59]) =
    some { kind := 0xC3, payload := [1, 60, 0x01, 0xF4, 0, 250] } := by decide

/-- R158: a link timeout of 4 is stored as 5. -/
theorem test_linkcfg_clamps : replyOf .linkcfg (asked State.reset 0x49 [4]) = some { kind := 0xC9, payload := [1, 5] } := by
  decide

/-- Table 10-2: CAUSE answers the causes in their priority. -/
theorem test_cause_priority :
    let s := { State.reset with report := { Report.reset with causes := ⟨false, true, false, true⟩ } }
    replyOf .cause (asked s 0x03 []) = some { kind := 0x83, payload := [0, 2] } := by decide

/-- R148: START after reset passes its checks and gives PARK with IGN deasserted. -/
theorem test_start_parks : after .start (asked State.reset 0x10 []) (fun t => t.op.state) = some .park := by decide +kernel

/-- R85: TURN LEFT in DRIVE begins an ON phase of 330 ms, and channels 6 and 7 turn on exempt (R80). -/
theorem test_turn_flashes : after .turn (asked (inState .drive) 0x22 [1])
    (fun t => (t.flash.phase, t.flash.timer, (t.lamp 6).state, (t.lamp 7).granted)) = some (.on, some 330, .inrush, false) := by
  decide +kernel

/-- Table 2-3: limp lighting grants channels 0 and 1 and leaves 10 and 11 in the queue, in that order. -/
theorem test_limp_lighting_queue : after .limpLightingBegin (limpIgn 2000)
    (fun t => (t.queue.map (fun e => e.ch.val), t.allowanceInUse, (t.lamp 1).state)) = some ([10, 11], 4, .inrush) := by decide +kernel

/-- Table 1-8 step 1: a sample above the hard limit trips channel 0 with a delay of 100 ms. -/
theorem test_trip_on_hard_limit : after (.trip 0 41200) (withLamp (inState .drive) 0 .on)
    (fun t => ((t.lamp 0).state, (t.lamp 0).retryTimer, (t.lamp 0).retriesUsed)) = some (.tripped, 100, 1) := by decide +kernel

/-- Table 12-4: a sample of 17,200 mV declares HOLD in a 12 V system and is the detail of HOLD_ON. -/
theorem test_hold_declared : after (.supplySample 17200 0) (inState .drive)
    (fun t => (t.supply.hold, t.report.events.map (fun r => (r.kind, r.detail)))) = some (true, [(.holdOn, 17200)]) := by decide +kernel

/-- R95: a fan below its target by more than the slew moves by the slew. -/
theorem test_ramp_up :
    let s := { State.reset with fan := { Fan.reset with state := .ramping, target := 750, applied := 550 } }
    after .rampTimerExpiry s (fun t => (t.fan.state, t.fan.applied)) = some (.ramping, 600) := by decide

end Sys2Proof.Tests
end

section
/-! PROOF. O4, the allowance in use (R30): one lemma per operation says that it keeps the allowance within 4 units.
Outside the arbiter no operation makes a grant holder, and a pass of the arbiter grants only what fits. -/

namespace Sys2Proof.Machine

/-! ### Grant holders -/

/-- A lamp channel holds a grant: it is in INRUSH and was granted (R30). -/
abbrev LampRec.HoldsGrant (c : LampRec) : Prop := c.state = .inrush ∧ c.granted = true

theorem not_holdsGrant_of_state {c : LampRec} (h : c.state ≠ .inrush) : ¬ c.HoldsGrant := fun g => h g.1

theorem not_holdsGrant_of_granted {c : LampRec} (h : c.granted = false) :
    ¬ c.HoldsGrant := by
  simp [LampRec.HoldsGrant, h]

theorem lampGrantWeight_eq (s : State) (ch : LampId) :
    s.lampGrantWeight ch = if (s.lamp ch).HoldsGrant then (if ch.val < 4 then 2 else 1) else 0 := by
  simp [State.lampGrantWeight, startWeight]

/-- Every grant holder of a state held its grant in an earlier one. -/
structure NoNewHolder (s t : State) : Prop where
  lamps : ∀ ch, (t.lamp ch).HoldsGrant → (s.lamp ch).HoldsGrant
  fan : t.fan.granted = true → s.fan.granted = true

/-- With no new grant holder the allowance in use does not rise. -/
theorem NoNewHolder.allowance_le {s t : State} (k : NoNewHolder s t) : t.allowanceInUse ≤ s.allowanceInUse := by
  have lampPart : (allLamps.map t.lampGrantWeight).sum ≤ (allLamps.map s.lampGrantWeight).sum := by
    refine List.sum_le_sum fun ch _ => ?_
    rw [lampGrantWeight_eq, lampGrantWeight_eq]
    by_cases g : (t.lamp ch).HoldsGrant
    · rw [if_pos g, if_pos (k.lamps ch g)]
    · rw [if_neg g]; exact Nat.zero_le _
  have fanPart : (if t.fan.granted then startWeight 14 else 0) ≤ (if s.fan.granted then startWeight 14 else 0) := by
    by_cases g : t.fan.granted = true
    · rw [if_pos g, if_pos (k.fan g)]
    · rw [if_neg g]; exact Nat.zero_le _
  exact Nat.add_le_add lampPart fanPart

/-- The sum of the weights of the lamp channels that hold a grant, counted by kind (R30). -/
theorem lampGrantWeight_sum (s : State) (l : List LampId) :
    (l.map s.lampGrantWeight).sum =
      2 * (l.filter (fun ch => ch.val < 4 ∧ (s.lamp ch).state = .inrush ∧ (s.lamp ch).granted = true)).length +
        (l.filter (fun ch => 4 ≤ ch.val ∧ (s.lamp ch).state = .inrush ∧ (s.lamp ch).granted = true)).length := by
  induction l with
  | nil => rfl
  | cons ch l ih =>
    rw [List.map_cons, List.sum_cons, ih, lampGrantWeight_eq]
    simp only [List.filter_cons]
    by_cases g : (s.lamp ch).HoldsGrant
    · obtain ⟨inrush, granted⟩ := g
      rw [if_pos ⟨inrush, granted⟩]
      by_cases heavy : ch.val < 4
      · have light : ¬ 4 ≤ ch.val := by omega
        simp [inrush, granted, heavy, light]
        omega
      · have light : 4 ≤ ch.val := by omega
        simp [inrush, granted, heavy, light]
        omega
    · simp [g]

/-! ### What a record becomes: no operation on a lamp channel or on the fan but the arbiter's takes a grant -/

theorem turnOn_holdsGrant {c : LampRec} {hold signalling : Bool} (g : (c.turnOn hold signalling).HoldsGrant) :
    c.HoldsGrant := by
  unfold LampRec.turnOn at g
  split at g
  · exact g
  · split at g
    · exact absurd g (not_holdsGrant_of_granted rfl)
    · exact absurd g (not_holdsGrant_of_state (by simp))

theorem turnOff_holdsNone (c : LampRec) (r : Reason) : ¬ (c.turnOff r).HoldsGrant :=
  not_holdsGrant_of_granted rfl

theorem takeDemand_holdsGrant {c : LampRec} {v : Nat} {r : Reason} {hold signalling : Bool}
    (g : (c.takeDemand v r hold signalling).HoldsGrant) : c.HoldsGrant := by
  unfold LampRec.takeDemand at g
  dsimp only at g
  split at g
  case h_1 =>
    split at g
    · exact g
    · have off : LampRec.HoldsGrant { c with demand := v, demandReason := r, entered := false } := turnOn_holdsGrant g
      exact off
  case h_5 | h_6 => exact g
  all_goals
    split at g
    · exact absurd g (turnOff_holdsNone _ _)
    · exact g

theorem retryEnds_holdsNone (c : LampRec) (hold signalling : Bool) : ¬ (c.retryEnds hold signalling).HoldsGrant := by
  unfold LampRec.retryEnds
  split
  · exact not_holdsGrant_of_state (by simp)
  · exact fun g => absurd (turnOn_holdsGrant g) (not_holdsGrant_of_state (by simp))

theorem inrushEnds_holdsNone (c : LampRec) : ¬ c.inrushEnds.HoldsGrant := not_holdsGrant_of_granted rfl

theorem onHold_holdsGrant {c : LampRec} (g : c.onHold.HoldsGrant) : c.HoldsGrant := by
  unfold LampRec.onHold at g
  split at g
  case h_4 => split at g <;> exact g
  case h_5 | h_6 => exact g
  all_goals exact absurd g (turnOff_holdsNone _ _)

theorem clearLockout_holdsGrant {c : LampRec} (g : c.clearLockout.HoldsGrant) : c.HoldsGrant := by
  unfold LampRec.clearLockout at g
  split at g
  · exact absurd g (not_holdsGrant_of_state (by simp))
  · exact g

theorem fanStop_granted (f : Fan) : f.stop.granted = false := rfl

theorem enterRamping_granted (f : Fan) (d : Nat) : (f.enterRamping d).granted = f.granted := by
  unfold Fan.enterRamping
  split <;> rfl

theorem takeStep_granted {f : Fan} {step : Nat} {hold : Bool} (g : (f.takeStep step hold).granted = true) :
    f.granted = true := by
  unfold Fan.takeStep at g
  dsimp only at g
  split at g
  case h_1 => split at g <;> exact g
  case h_5 =>
    split at g
    · exact absurd g (by simp [fanStop_granted])
    · split at g <;> exact g
  case h_6 | h_7 => exact g
  all_goals
    split at g
    · exact absurd g (by simp [fanStop_granted])
    · exact g

theorem leaveDrive_granted {f : Fan} (g : f.leaveDrive.granted = true) : f.granted = true := by
  unfold Fan.leaveDrive at g
  split at g
  · exact g
  · exact absurd g (by simp [fanStop_granted])

theorem fanOnHold_granted {f : Fan} (g : f.onHold.granted = true) : f.granted = true := by
  unfold Fan.onHold at g
  split at g
  case h_5 | h_6 | h_7 => exact g
  all_goals exact absurd g (by simp [fanStop_granted])

theorem fanClearLockout_granted {f : Fan} (g : f.clearLockout.granted = true) : f.granted = true := by
  unfold Fan.clearLockout at g
  split at g
  · exact absurd g (by simp [fanStop_granted])
  · exact g

theorem rampExpiry_granted (f : Fan) : f.rampExpiry.granted = f.granted := by
  unfold Fan.rampExpiry
  split <;> rfl

theorem kickEnds_granted (f : Fan) : f.kickEnds.granted = false := enterRamping_granted _ _

theorem waitEnds_granted {f : Fan} {hold : Bool} (g : (f.waitEnds hold).granted = true) : f.granted = true := by
  unfold Fan.waitEnds at g
  split at g
  · exact g
  · exact absurd g (by simp [fanStop_granted])

/-! ### The writes -/

theorem AllowanceOk.of_noNewHolder {s t : State} (h : AllowanceOk s) (k : NoNewHolder s t) : AllowanceOk t :=
  k.allowance_le.trans h

/-- A write that leaves the lamp channels and the fan alone. -/
theorem AllowanceOk.of_same {s t : State} (h : AllowanceOk s) (lamps : t.bank.lamps = s.bank.lamps)
    (fan : t.fan = s.fan) : AllowanceOk t :=
  h.of_noNewHolder ⟨fun ch => by rw [State.lamp, lamps]; exact id, fun g => fan ▸ g⟩

theorem AllowanceOk.setLamp {s : State} (h : AllowanceOk s) {ch : LampId} {r : LampRec}
    (g : r.HoldsGrant → (s.lamp ch).HoldsGrant) : AllowanceOk (s.setLamp ch r) := by
  refine h.of_noNewHolder ⟨fun c => ?_, id⟩
  rw [State.lamp_setLamp]
  split
  · rename_i e; subst e; exact g
  · exact id

theorem AllowanceOk.withBank {s : State} {meas : Vector Meas 17} {subs : Vector SubEntry 3} {opened ready : Bool}
    (h : AllowanceOk s) : AllowanceOk { s with
      bank := { s.bank with meas := meas, subs := subs, intervalOpen := opened, averagesReady := ready } } :=
  h.of_same rfl rfl

theorem AllowanceOk.withQueue {s : State} {x : List QEntry} (h : AllowanceOk s) : AllowanceOk { s with queue := x } :=
  h.of_same rfl rfl

theorem AllowanceOk.withResolver {s : State} {x : Resolver} (h : AllowanceOk s) :
    AllowanceOk { s with resolver := x } :=
  h.of_same rfl rfl

theorem AllowanceOk.withFlash {s : State} {x : Flash} (h : AllowanceOk s) : AllowanceOk { s with flash := x } :=
  h.of_same rfl rfl

theorem AllowanceOk.withGauges {s : State} {x : GaugeUnit} (h : AllowanceOk s) : AllowanceOk { s with gauges := x } :=
  h.of_same rfl rfl

theorem AllowanceOk.withSupply {s : State} {x : Supply} (h : AllowanceOk s) : AllowanceOk { s with supply := x } :=
  h.of_same rfl rfl

theorem AllowanceOk.withInputs {s : State} {x : Inputs} (h : AllowanceOk s) : AllowanceOk { s with inputs := x } :=
  h.of_same rfl rfl

theorem AllowanceOk.withOp {s : State} {x : OpCtl} (h : AllowanceOk s) : AllowanceOk { s with op := x } :=
  h.of_same rfl rfl

theorem AllowanceOk.withLink {s : State} {x : Link} (h : AllowanceOk s) : AllowanceOk { s with link := x } :=
  h.of_same rfl rfl

theorem AllowanceOk.withReport {s : State} {x : Report} (h : AllowanceOk s) : AllowanceOk { s with report := x } :=
  h.of_same rfl rfl

theorem AllowanceOk.withFreeCount {s : State} {x : Nat} (h : AllowanceOk s) : AllowanceOk { s with freeCount := x } :=
  h.of_same rfl rfl

theorem AllowanceOk.withPending {s : State} {x : List Instr} (h : AllowanceOk s) :
    AllowanceOk { s with pending := x } :=
  h.of_same rfl rfl

theorem AllowanceOk.withFan {s : State} (h : AllowanceOk s) {f : Fan} (g : f.granted = true → s.fan.granted = true) :
    AllowanceOk { s with fan := f } :=
  h.of_noNewHolder ⟨fun _ => id, g⟩

theorem AllowanceOk.raise {s : State} (h : AllowanceOk s) {k : EventKind} {subject detail : Nat} :
    AllowanceOk (s.raise k subject detail) :=
  h.of_same (by rw [raise_bank]) (raise_fan s k subject detail)

theorem dropEntry_allowanceOk {s : State} (ch : LampId) (h : AllowanceOk s) :
    AllowanceOk (s.dropEntry ch) :=
  h.withQueue

theorem allowanceOk_foldl {α : Type} {f : State → α → State} (keeps : ∀ s a, AllowanceOk s → AllowanceOk (f s a))
    (l : List α) {s : State} (h : AllowanceOk s) : AllowanceOk (l.foldl f s) := by
  induction l generalizing s with
  | nil => exact h
  | cons a l ih => exact ih (keeps s a h)

theorem allowanceOk_ite {c : Prop} [Decidable c] {a b : State} (ha : AllowanceOk a) (hb : AllowanceOk b) :
    AllowanceOk (if c then a else b) := by
  split
  · exact ha
  · exact hb

/-! ### The arbiter and the settling of a cause -/

/-- A pass grants only what fits (R31). -/
theorem OnePass.allowance {q : List QEntry} {s t : State} (p : OnePass q s t) (h : AllowanceOk s) : AllowanceOk t := by
  obtain ⟨n, _, p⟩ := p
  by_cases none : n = 0
  · subst none
    have same := allowance_congr (fun ch => by simpa using p.lamps ch) (by simpa using p.fan)
    exact same.le.trans h
  · exact p.fits none

theorem arbitrate_allowanceOk {s : State} (h : AllowanceOk s) : AllowanceOk s.arbitrate :=
  (grantPass_one _ _).allowance ((grantPass_one _ _).allowance h)

theorem restartIfCeased_allowanceOk {s : State} (fl : Flash) (ch : LampId) (h : AllowanceOk s) :
    AllowanceOk (s.restartIfCeased fl ch) :=
  allowanceOk_ite (h.setLamp id) h

theorem setFlash_allowanceOk {s : State} (fl : Flash) (h : AllowanceOk s) : AllowanceOk (s.setFlash fl) :=
  AllowanceOk.withFlash (allowanceOk_foldl (fun _ => restartIfCeased_allowanceOk fl) allLamps h)

theorem onStart_allowanceOk {s : State} (set : Sides) (h : AllowanceOk s) : AllowanceOk (s.onStart set) :=
  setFlash_allowanceOk _ (allowanceOk_foldl (f := State.clearPhaseSample) (fun _ _ h => h.setLamp id) allLamps h)

theorem flashPoke_allowanceOk {s : State} (h : AllowanceOk s) : AllowanceOk s.flashPoke :=
  allowanceOk_ite (onStart_allowanceOk _ h) h

theorem gaugePoke_allowanceOk {s : State} (h : AllowanceOk s) : AllowanceOk s.gaugePoke :=
  allowanceOk_foldl (fun _ _ h => allowanceOk_ite h.withGauges h) allGauges h

theorem resolveAll_allowanceOk {s : State} (h : AllowanceOk s) : AllowanceOk s.resolveAll :=
  allowanceOk_foldl (fun _ _ h => h.withResolver) allFns h

theorem hand_allowanceOk {s : State} (ch : LampId) (h : AllowanceOk s) : AllowanceOk (s.hand ch) :=
  allowanceOk_ite (h.setLamp takeDemand_holdsGrant) h

theorem handAll_allowanceOk {s : State} (h : AllowanceOk s) : AllowanceOk s.handAll :=
  allowanceOk_foldl (fun _ => hand_allowanceOk) allLamps h

theorem fanFollow_allowanceOk {s : State} (h : AllowanceOk s) : AllowanceOk s.fanFollow :=
  allowanceOk_ite h (h.withFan takeStep_granted)

theorem fanStart_allowanceOk {s : State} (h : AllowanceOk s) : AllowanceOk s.fanStart :=
  allowanceOk_ite (h.withFan id) h

theorem settle_allowanceOk {s : State} (h : AllowanceOk s) : AllowanceOk s.settle :=
  arbitrate_allowanceOk (fanStart_allowanceOk (fanFollow_allowanceOk (handAll_allowanceOk
    (resolveAll_allowanceOk (gaugePoke_allowanceOk (flashPoke_allowanceOk h))))))

/-! ### Changes of serving function and the substitution table -/

theorem functionChanged_allowanceOk {s : State} (ch : LampId) (h : AllowanceOk s) :
    AllowanceOk (s.functionChanged ch) := by
  unfold State.functionChanged
  dsimp only
  split
  · exact dropEntry_allowanceOk ch (h.setLamp fun g => absurd g (not_holdsGrant_of_state (by simp)))
  · exact h.setLamp id

theorem mapChanged_allowanceOk {s : State} (old : LampId → Option Fn) (h : AllowanceOk s) :
    AllowanceOk (s.mapChanged old) :=
  allowanceOk_foldl (fun _ ch h => allowanceOk_ite h (functionChanged_allowanceOk ch h)) allLamps h

theorem markEntered_allowanceOk {s : State} (ch : LampId) (h : AllowanceOk s) : AllowanceOk (s.markEntered ch) :=
  allowanceOk_ite (h.setLamp id) h

theorem engage_allowanceOk {s : State} (e : Fin 3) (p q : LampId) (h : AllowanceOk s) : AllowanceOk (s.engage e p q) :=
  have taken : AllowanceOk (s.setLamp q { s.lamp q with
      setAside := some (s.lamp q).cfg, cfg := (s.lamp q).cfg.takenFrom (s.lamp p).cfg, substituteFor := some p }) :=
    h.setLamp id
  (functionChanged_allowanceOk q taken.withBank).raise

theorem examineEntry_allowanceOk {s : State} (e : Fin 3) (h : AllowanceOk s) : AllowanceOk (s.examineEntry e) := by
  unfold State.examineEntry
  split
  · split
    · exact engage_allowanceOk e _ _ h
    · exact h
  · exact h

theorem examine_allowanceOk {s : State} (occasion : LampId × LampId → Bool) (h : AllowanceOk s) :
    AllowanceOk (s.examine occasion) :=
  allowanceOk_foldl (fun _ e h => allowanceOk_ite (examineEntry_allowanceOk e h) h) allSubs h

theorem releaseEntry_allowanceOk {s : State} (e : Fin 3) (h : AllowanceOk s) : AllowanceOk (s.releaseEntry e) := by
  unfold State.releaseEntry
  dsimp only
  split
  · rename_i q _
    split
    · have freed : AllowanceOk (s.setSub e { s.subEntry e with engaged := false }) := h.withBank
      exact dropEntry_allowanceOk q (functionChanged_allowanceOk q
        (freed.setLamp fun g => absurd g (not_holdsGrant_of_granted rfl)))
    · exact h
  · exact h

theorem releaseWhere_allowanceOk {s : State} (which : LampId × LampId → Bool) (h : AllowanceOk s) :
    AllowanceOk (s.releaseWhere which) :=
  allowanceOk_foldl (fun _ e h => allowanceOk_ite (releaseEntry_allowanceOk e h) h) allSubs h

theorem clearLamp_allowanceOk {s : State} (ch : LampId) (h : AllowanceOk s) : AllowanceOk (s.clearLamp ch) :=
  h.setLamp clearLockout_holdsGrant

theorem clearAllLamps_allowanceOk {s : State} (h : AllowanceOk s) : AllowanceOk s.clearAllLamps :=
  allowanceOk_foldl (fun _ => clearLamp_allowanceOk) allLamps h

/-! ### Samples -/

theorem lampTrips_allowanceOk {s : State} (ch : LampId) (milliamps : Nat) (h : AllowanceOk s) :
    AllowanceOk (s.lampTrips ch milliamps) :=
  have off {r : LampRec} (g : r.granted = false) : AllowanceOk (s.setLamp ch r) :=
    h.setLamp fun x => absurd x (not_holdsGrant_of_granted g)
  allowanceOk_ite (off rfl).raise (examine_allowanceOk _ (off rfl).raise.raise)

theorem storeSample_allowanceOk {s : State} (ch : ChanId) (sample duty : Nat) (h : AllowanceOk s) :
    AllowanceOk (s.storeSample ch sample duty) :=
  allowanceOk_ite h.withBank h.withBank

theorem setLampOut_allowanceOk {s : State} (ch : LampId) (out : Bool) (milliamps : Nat) (h : AllowanceOk s) :
    AllowanceOk (s.setLampOut ch out milliamps) := by
  have flagged : AllowanceOk (s.setLamp ch { s.lamp ch with lampOut := out }) := h.setLamp id
  unfold State.setLampOut
  exact allowanceOk_ite h flagged.raise

theorem judgeSample_allowanceOk {s : State} (ch : LampId) (milliamps : Nat) (h : AllowanceOk s) :
    AllowanceOk (s.judgeSample ch milliamps) :=
  have counted (r : Run) : AllowanceOk (s.setLamp ch { s.lamp ch with lampRun := r }) := h.setLamp id
  allowanceOk_ite (allowanceOk_ite (h.setLamp id) h)
    (allowanceOk_ite (allowanceOk_ite (setLampOut_allowanceOk ch _ milliamps (counted _)) (counted _)) h)

theorem lampActs_allowanceOk {s : State} (ch : LampId) (milliamps : Nat) (h : AllowanceOk s) :
    AllowanceOk (s.lampActs ch milliamps) :=
  have counted (n : Nat) : AllowanceOk ((s.judgeSample ch milliamps).setLamp ch
      { (s.judgeSample ch milliamps).lamp ch with overCount := n }) :=
    (judgeSample_allowanceOk ch milliamps h).setLamp id
  allowanceOk_ite (lampTrips_allowanceOk ch milliamps (counted _)) (counted _)

theorem lampSample_allowanceOk {s : State} (ch : LampId) (milliamps : Nat) (h : AllowanceOk s) :
    AllowanceOk (s.lampSample ch milliamps) :=
  lampActs_allowanceOk ch milliamps (storeSample_allowanceOk _ _ _ h)

theorem readBack_allowanceOk {s : State} (ch : LampId) (millivolts : Nat) (h : AllowanceOk s) :
    AllowanceOk (s.readBack ch millivolts) :=
  have counted (r : Run) (fed : Bool) : AllowanceOk (s.setLamp ch { s.lamp ch with fedRun := r, fed := fed }) :=
    h.setLamp id
  allowanceOk_ite (counted _ _).raise (counted _ _)

theorem fanStalled_allowanceOk {s : State} (milliamps : Nat) (h : AllowanceOk s) :
    AllowanceOk (s.fanStalled milliamps) := by
  unfold State.fanStalled
  dsimp only
  have stopped : AllowanceOk ({ s with fan := s.fan.stop }.raise .fanStall 14 milliamps) :=
    AllowanceOk.raise (h.withFan fun g => absurd g (by simp [fanStop_granted]))
  split
  · exact stopped.withFan fun g => absurd g (by simp [fanStop_granted])
  · exact AllowanceOk.raise (stopped.withFan fun g => absurd g (by simp [fanStop_granted]))

theorem fanActs_allowanceOk {s : State} (milliamps : Nat) (h : AllowanceOk s) : AllowanceOk (s.fanActs milliamps) :=
  allowanceOk_ite (fanStalled_allowanceOk milliamps h) (allowanceOk_ite h (h.withFan id))

theorem fanSample_allowanceOk {s : State} (milliamps : Nat) (h : AllowanceOk s) : AllowanceOk (s.fanSample milliamps) :=
  allowanceOk_ite (fanActs_allowanceOk milliamps (storeSample_allowanceOk _ _ _ h)) h

theorem abortTest_allowanceOk {s : State} (h : AllowanceOk s) :
    AllowanceOk s.abortTest :=
  AllowanceOk.raise h.withGauges

theorem gaugeActs_allowanceOk {s : State} (g : GaugeId) (milliamps : Nat) (h : AllowanceOk s) :
    AllowanceOk (s.gaugeActs g milliamps) :=
  have shorted : AllowanceOk
      ((s.setGauge g ((s.gauge g).leaveRun .outputFault)).raise .chTrip (gaugeChan g).val milliamps) :=
    AllowanceOk.raise h.withGauges
  allowanceOk_ite (allowanceOk_ite h.withGauges (allowanceOk_ite (abortTest_allowanceOk shorted) shorted)) h.withGauges

theorem gaugeSample_allowanceOk {s : State} (g : GaugeId) (milliamps : Nat) (h : AllowanceOk s) :
    AllowanceOk (s.gaugeSample g milliamps) :=
  allowanceOk_ite (gaugeActs_allowanceOk g milliamps (storeSample_allowanceOk _ _ _ h)) h

theorem storeTaken_allowanceOk {s : State} (ch : ChanId) (taken : Taken) (reading : Nat) (h : AllowanceOk s) :
    AllowanceOk (s.storeTaken ch taken reading) := by
  cases taken with
  | current duty => exact storeSample_allowanceOk ch reading duty h
  | line => exact h
  | nothing => exact h

theorem sampleActs_allowanceOk {s : State} (ch : ChanId) (milliamps : Nat) (h : AllowanceOk s) :
    AllowanceOk (s.sampleActs ch milliamps) := by
  unfold State.sampleActs
  split
  · exact lampActs_allowanceOk _ milliamps h
  · exact allowanceOk_ite (fanActs_allowanceOk milliamps h) (gaugeActs_allowanceOk _ milliamps h)

theorem readingActs_allowanceOk {s : State} (ch : ChanId) (taken : Taken) (reading : Nat) (h : AllowanceOk s) :
    AllowanceOk (s.readingActs ch taken reading) := by
  cases taken with
  | current duty => exact sampleActs_allowanceOk ch reading h
  | line =>
    unfold State.readingActs
    dsimp only
    split
    · exact readBack_allowanceOk _ reading h
    · exact h
  | nothing => exact h

/-- Every reading of a sampling moment is settled with its grant pass before the next (R31). -/
theorem currentSample_allowanceOk {s : State} (readings : Vector (Option Nat) 17) (h : AllowanceOk s) :
    AllowanceOk (s.currentSample readings) := by
  unfold State.currentSample
  dsimp only
  have stored := allowanceOk_foldl (f := fun t (x : ChanId × Nat) => t.storeTaken x.1 (s.takenOn x.1) x.2)
    (fun _ x => storeTaken_allowanceOk x.1 _ x.2) (allChans.filterMap fun ch => readings[ch].map fun v => (ch, v)) h
  refine allowanceOk_ite h (allowanceOk_foldl (fun t x ht => ?_) _ stored)
  exact settle_allowanceOk (readingActs_allowanceOk x.1 _ x.2 ht)

theorem averageMark_allowanceOk {s : State} (h : AllowanceOk s) : AllowanceOk s.averageMark :=
  allowanceOk_ite h (allowanceOk_ite h.withBank h.withBank)

/-! ### The flash engine -/

theorem decidePhase_allowanceOk {s : State} (ch : LampId) (h : AllowanceOk s) : AllowanceOk (s.decidePhase ch) := by
  unfold State.decidePhase
  split
  · split
    · exact setLampOut_allowanceOk ch _ _ h
    · exact h
  · exact h

theorem endOnPhase_allowanceOk {s : State} (h : AllowanceOk s) : AllowanceOk s.endOnPhase :=
  settle_allowanceOk (AllowanceOk.withFlash (allowanceOk_foldl (fun _ => decidePhase_allowanceOk) allLamps h))

theorem endOffPhase_allowanceOk {s : State} (h : AllowanceOk s) : AllowanceOk s.endOffPhase :=
  settle_allowanceOk (allowanceOk_ite (setFlash_allowanceOk _ h) (onStart_allowanceOk _ h))

/-! ### The gauge unit -/

theorem gaugeSense_allowanceOk {s : State} (g : GaugeId) (h : AllowanceOk s) : AllowanceOk (s.gaugeSense g) :=
  allowanceOk_ite (allowanceOk_ite h.withGauges (AllowanceOk.raise h.withGauges)) h

theorem gaugeCompensate_allowanceOk {s : State} (g : GaugeId) (h : AllowanceOk s) : AllowanceOk (s.gaugeCompensate g) :=
  allowanceOk_ite h (allowanceOk_ite h.withGauges (AllowanceOk.raise h.withGauges))

theorem gaugeUpdateOne_allowanceOk {s : State} (n : Nat) (g : GaugeId) (h : AllowanceOk s) :
    AllowanceOk (s.gaugeUpdateOne n g) := by
  unfold State.gaugeUpdateOne
  split
  · exact allowanceOk_ite (gaugeCompensate_allowanceOk g (gaugeSense_allowanceOk g h)) h
  · exact gaugeCompensate_allowanceOk g (gaugeSense_allowanceOk g h).withGauges
  · exact h
  · exact h

theorem clearSamples_allowanceOk {s : State} (g : GaugeId) (h : AllowanceOk s) :
    AllowanceOk (s.clearSamples g) :=
  h.withGauges

theorem finishTest_allowanceOk {s : State} (h : AllowanceOk s) : AllowanceOk s.finishTest := by
  have ended := allowanceOk_foldl (f := fun s g => s.setGauge g (s.gauge g).endTest)
    (fun _ _ h => h.withGauges) allGauges h
  exact ended.withGauges.raise

theorem gaugeMark_allowanceOk {s : State} (h : AllowanceOk s) : AllowanceOk s.gaugeMark :=
  have cleared := allowanceOk_foldl (fun _ => clearSamples_allowanceOk) allGauges
    (allowanceOk_foldl (fun _ => gaugeUpdateOne_allowanceOk (s.gauges.testStep + 1)) allGauges
      (allowanceOk_ite (c := s.testRunning = true)
        (a := { s with gauges := { s.gauges with testStep := s.gauges.testStep + 1 } }) h.withGauges h))
  allowanceOk_ite (finishTest_allowanceOk cleared) cleared

theorem gaugesLeaveDrive_allowanceOk {s : State} (h : AllowanceOk s) : AllowanceOk s.gaugesLeaveDrive :=
  have left := allowanceOk_foldl (f := fun s g => s.setGauge g (s.gauge g).leaveDrive)
    (fun _ _ h => h.withGauges) allGauges h
  allowanceOk_ite (abortTest_allowanceOk left) left

theorem gaugesOnHold_allowanceOk {s : State} (h : AllowanceOk s) : AllowanceOk s.gaugesOnHold :=
  have held := allowanceOk_foldl (f := fun s g => s.setGauge g (s.gauge g).onHold)
    (fun _ _ h => h.withGauges) allGauges h
  allowanceOk_ite (abortTest_allowanceOk held) held

/-! ### The supply monitor -/

theorem declareHold_allowanceOk {s : State} (millivolts : Nat) (h : AllowanceOk s) :
    AllowanceOk (s.declareHold millivolts) :=
  have declared : AllowanceOk
      ({ s with supply := { s.supply with hold := true, releaseCount := 0 } }.raise .holdOn 0 millivolts) :=
    AllowanceOk.raise h.withSupply
  have dark := allowanceOk_foldl (f := fun s ch => s.setLamp ch (s.lamp ch).onHold)
    (fun _ _ h => h.setLamp onHold_holdsGrant) allLamps declared
  settle_allowanceOk (gaugesOnHold_allowanceOk (dark.withFan fanOnHold_granted))

theorem endHold_allowanceOk {s : State} (millivolts : Nat) (h : AllowanceOk s) : AllowanceOk (s.endHold millivolts) :=
  settle_allowanceOk (AllowanceOk.raise h.withSupply)

theorem checkHold_allowanceOk {s : State} (millivolts : Nat) (h : AllowanceOk s) :
    AllowanceOk (s.checkHold millivolts) :=
  allowanceOk_ite
    (allowanceOk_ite (allowanceOk_ite (endHold_allowanceOk millivolts h) h.withSupply) h.withSupply)
    (allowanceOk_ite (declareHold_allowanceOk millivolts h) h)

theorem supplySampled_allowanceOk {s : State} (bat chg : Nat) (h : AllowanceOk s) :
    AllowanceOk (s.supplySampled bat chg) :=
  have stored : AllowanceOk (s.storeSupply bat chg) := h.withSupply
  allowanceOk_ite h (checkHold_allowanceOk bat stored)

theorem evaluate_allowanceOk {s : State} (h : AllowanceOk s) : AllowanceOk s.evaluate := by
  unfold State.evaluate
  dsimp only
  have charged : ∀ y : Supply, AllowanceOk { s with supply := y, bank := { s.bank with averagesReady := false } } :=
    fun _ => h.withSupply.withBank
  refine allowanceOk_ite (allowanceOk_ite (charged _) (charged _).raise) (settle_allowanceOk (AllowanceOk.raise ?_))
  exact allowanceOk_ite (charged _) (charged _).raise

theorem supplyMark_allowanceOk {s : State} (h : AllowanceOk s) : AllowanceOk s.supplyMark :=
  allowanceOk_ite h (allowanceOk_ite (evaluate_allowanceOk h) (allowanceOk_ite h.withSupply.withBank h))

/-! ### The operating states and the inputs -/

theorem enterState_allowanceOk {s : State} (new : OpState) (h : AllowanceOk s) : AllowanceOk (s.enterState new) :=
  have entered : AllowanceOk ({ s with op := { s.op with state := new } }.raise .state 0 new.code) :=
    AllowanceOk.raise h.withOp
  allowanceOk_ite (gaugesLeaveDrive_allowanceOk (entered.withFan leaveDrive_granted)) entered

theorem wakeTo_allowanceOk {s : State} (new : OpState) (cause : WakeCause) (h : AllowanceOk s) :
    AllowanceOk (s.wakeTo new cause) :=
  have resumed : AllowanceOk (if s.op.state = .sleep then s.resumeSampling else s) := allowanceOk_ite h.withBank.withOp h
  enterState_allowanceOk new (AllowanceOk.raise resumed.withOp)

theorem courtesyDoor_allowanceOk {s : State} (asserted : Bool) (h : AllowanceOk s) :
    AllowanceOk (s.courtesyDoor asserted) :=
  allowanceOk_ite h (allowanceOk_ite h.withResolver (allowanceOk_ite h.withResolver h))

theorem ignLevel_allowanceOk {s : State} (asserted : Bool) (h : AllowanceOk s) : AllowanceOk (s.ignLevel asserted) := by
  unfold State.ignLevel
  split
  · exact allowanceOk_ite (allowanceOk_ite h.withOp h) h.withOp
  · exact allowanceOk_ite h (enterState_allowanceOk .park h)
  · exact allowanceOk_ite (enterState_allowanceOk .drive h) h
  · exact allowanceOk_ite (wakeTo_allowanceOk .drive .ign h) h
  · exact h

theorem watchWake_allowanceOk {s : State} (asserted : Bool) (cause : WakeCause) (h : AllowanceOk s) :
    AllowanceOk (s.watchWake asserted cause) :=
  allowanceOk_ite (wakeTo_allowanceOk .park cause h) h

theorem storeLevel_allowanceOk {s : State} (i : InputId) (asserted : Bool) (h : AllowanceOk s) :
    AllowanceOk (s.storeLevel i asserted) :=
  AllowanceOk.raise h.withInputs

theorem handLevel_allowanceOk {s : State} (i : InputId) (asserted : Bool) (h : AllowanceOk s) :
    AllowanceOk (s.handLevel i asserted) := by
  cases i with
  | ign => exact ignLevel_allowanceOk asserted h
  | haz => exact watchWake_allowanceOk asserted .haz h.withFlash
  | door => exact watchWake_allowanceOk asserted .door (courtesyDoor_allowanceOk asserted h)
  | brake | sw0 | sw1 => exact h

theorem deliverLevel_allowanceOk {s : State} (i : InputId) (asserted : Bool) (h : AllowanceOk s) :
    AllowanceOk (s.deliverLevel i asserted) :=
  have handed := handLevel_allowanceOk i asserted (storeLevel_allowanceOk i asserted h)
  allowanceOk_ite handed (settle_allowanceOk handed)

theorem sampleInput_allowanceOk {s : State} (pins : PinLevels) (i : InputId) (h : AllowanceOk s) :
    AllowanceOk (s.sampleInput pins i) :=
  allowanceOk_ite (allowanceOk_ite h.withInputs (allowanceOk_ite (deliverLevel_allowanceOk i _ h) h.withInputs)) h

theorem takeWindowCounts_allowanceOk {s : State} (w : Window) (h : AllowanceOk s) :
    AllowanceOk (s.takeWindowCounts w) :=
  allowanceOk_foldl (fun _ _ h => h.withInputs) allInputs h

theorem deliverHeld_allowanceOk {s : State} (held : List (InputId × Bool)) (h : AllowanceOk s) :
    AllowanceOk (s.deliverHeld held) := by
  unfold State.deliverHeld
  exact allowanceOk_foldl (f := fun s (x : InputId × Bool) => s.deliverLevel x.1 x.2)
    (fun _ x => deliverLevel_allowanceOk x.1 x.2) held h

theorem closeWindow_allowanceOk {s : State} (w : Option Window) (h : AllowanceOk s) :
    AllowanceOk (s.closeWindow w) := by
  cases w with
  | none => exact h
  | some w => exact takeWindowCounts_allowanceOk w (deliverHeld_allowanceOk w.held h)

theorem confirmWake_allowanceOk {s : State} (i : WakeInput) (w : Window) (h : AllowanceOk s) :
    AllowanceOk (s.confirmWake i w) :=
  closeWindow_allowanceOk (some w) (settle_allowanceOk (wakeTo_allowanceOk _ _ h))

theorem sampleInWindow_allowanceOk {s : State} (pins : PinLevels) (w : Window) (h : AllowanceOk s) :
    AllowanceOk (s.sampleInWindow pins w) := by
  unfold State.sampleInWindow
  dsimp only
  split
  · exact h.withOp
  · exact confirmWake_allowanceOk _ _ h
  · exact confirmWake_allowanceOk _ _ h.withFreeCount

theorem sampleInputs_allowanceOk {s : State} (pins : PinLevels) (h : AllowanceOk s) :
    AllowanceOk (s.sampleInputs pins) := by
  unfold State.sampleInputs
  split
  · split
    · exact sampleInWindow_allowanceOk pins _ h
    · exact h
  · exact allowanceOk_foldl (fun _ => sampleInput_allowanceOk pins) allInputs h

theorem goToSleep_allowanceOk {s : State} (h : AllowanceOk s) : AllowanceOk s.goToSleep :=
  have discarded (u : State) (hu : AllowanceOk u) : AllowanceOk { u with
      bank := { u.bank with intervalOpen := false, averagesReady := false }
      supply := { u.supply with samples := [] }
      op := { u.op with window := none } } := hu.withBank.withSupply.withOp
  discarded _ (allowanceOk_foldl (fun _ => clearSamples_allowanceOk) allGauges
    (allowanceOk_foldl (f := State.clearMeas) (fun _ _ h => h.withBank) allChans (enterState_allowanceOk .sleep h)))

theorem backToWatch_allowanceOk {s : State} (h : AllowanceOk s) : AllowanceOk s.backToWatch :=
  have resumed : AllowanceOk s.resumeSampling := h.withBank.withOp
  settle_allowanceOk (enterState_allowanceOk .watch resumed)

theorem deliverAsleep_allowanceOk {s : State} (i : InputId) (h : AllowanceOk s) : AllowanceOk (s.deliverAsleep i) :=
  have handed := handLevel_allowanceOk i true (storeLevel_allowanceOk i true h)
  allowanceOk_ite (backToWatch_allowanceOk handed) (settle_allowanceOk handed)

theorem confirmBy_allowanceOk {s : State} (i : WakeInput) (pins : PinLevels) (w : Window) (h : AllowanceOk s) :
    AllowanceOk (s.confirmBy i pins w) :=
  allowanceOk_ite (confirmWake_allowanceOk _ _ h) h

theorem expireScene_allowanceOk {s : State} (id : Byte) (h : AllowanceOk s) : AllowanceOk (s.expireScene id) :=
  have dropped : AllowanceOk
      ((s.setScenes (withoutScene s.resolver.scenes id)).raise .sceneEnd id.toNat 0) := AllowanceOk.raise h.withResolver
  allowanceOk_ite (closeWindow_allowanceOk _ (backToWatch_allowanceOk dropped)) (settle_allowanceOk dropped)

theorem tick_allowanceOk {s : State} (h : AllowanceOk s) : AllowanceOk s.tick :=
  h.of_noNewHolder ⟨fun ch => by simp [State.lamp, State.tick, LampRec.tick], id⟩

/-! ### The body link -/

theorem frameHeard_allowanceOk {s : State} (h : AllowanceOk s) : AllowanceOk s.frameHeard :=
  have heard : AllowanceOk { s with op :=
      { s.op with silenceTimer := 0, linkSilent := false, silenceCount := 0, limpLighting := false } } := h.withOp
  allowanceOk_ite (settle_allowanceOk heard) heard

theorem assemble_allowanceOk {s : State} (b : Byte) (h : AllowanceOk s) : AllowanceOk (s.assemble b) := by
  unfold State.assemble
  split
  · exact allowanceOk_ite h.withLink h
  · exact allowanceOk_ite h.withLink h.withLink
  · exact h.withLink
  · exact allowanceOk_ite h.withLink h.withLink
  · have hunting : AllowanceOk (s.setAssembler .hunt) := h.withLink
    exact allowanceOk_ite (frameHeard_allowanceOk hunting).withLink h.withLink

theorem receive_allowanceOk {s : State} (b : Byte) (parity stop : Bool) (h : AllowanceOk s) :
    AllowanceOk (s.receive b parity stop) :=
  allowanceOk_ite h (allowanceOk_ite (assemble_allowanceOk b h) h.withLink)

theorem takeUnknown_allowanceOk {s : State} (h : AllowanceOk s) : AllowanceOk s.takeUnknown := by
  unfold State.takeUnknown
  split
  · exact h
  · exact allowanceOk_ite h.withLink h

theorem rxWakes_allowanceOk {s : State} (h : AllowanceOk s) : AllowanceOk s.rxWakes :=
  closeWindow_allowanceOk _ (settle_allowanceOk (wakeTo_allowanceOk .park .rx h.withLink))

theorem goSilent_allowanceOk {s : State} (h : AllowanceOk s) :
    AllowanceOk s.goSilent :=
  AllowanceOk.raise h.withOp.withFlash

/-! ### START, STOP and FAULTCLR -/

theorem startPart_allowanceOk {s : State} (h : AllowanceOk s) : AllowanceOk s.startPart :=
  have fields : AllowanceOk s.startFields := h.of_same rfl rfl
  settle_allowanceOk (examine_allowanceOk _ (allowanceOk_foldl (fun _ => markEntered_allowanceOk) allLamps
    (mapChanged_allowanceOk s.serving (enterState_allowanceOk s.startState fields))))

theorem stopFields_allowanceOk {s : State} (h : AllowanceOk s) : AllowanceOk s.stopFields :=
  h.of_noNewHolder ⟨fun _ => id, fanClearLockout_granted⟩

theorem stopPart_allowanceOk {s : State} (h : AllowanceOk s) : AllowanceOk s.stopPart :=
  have cleared := clearAllLamps_allowanceOk (releaseWhere_allowanceOk (fun _ => true) h)
  settle_allowanceOk (mapChanged_allowanceOk s.serving (enterState_allowanceOk .limp (stopFields_allowanceOk cleared)))

theorem stopInLimp_allowanceOk {s : State} (h : AllowanceOk s) : AllowanceOk s.stopInLimp :=
  settle_allowanceOk (clearAllLamps_allowanceOk h).withOp

theorem clearNamedLamp_allowanceOk {s : State} (ch : LampId) (h : AllowanceOk s) : AllowanceOk (s.clearNamedLamp ch) :=
  have cleared := clearLamp_allowanceOk ch (releaseWhere_allowanceOk (fun p => p.1 == ch) h)
  allowanceOk_ite (examine_allowanceOk _ (settle_allowanceOk cleared)) h

theorem clearEverything_allowanceOk {s : State} (h : AllowanceOk s) : AllowanceOk s.clearEverything :=
  have lifted (u : State) (hu : AllowanceOk u) : AllowanceOk { u with
      fan := u.fan.clearLockout
      gauges := { u.gauges with gauges := u.gauges.gauges.map Gauge.clearFault } } :=
    hu.of_noNewHolder ⟨fun _ => id, fanClearLockout_granted⟩
  lifted _ (clearAllLamps_allowanceOk (releaseWhere_allowanceOk (fun p => (s.lamp p.1).state == .lockedOut) h))

theorem clearTarget_allowanceOk {s : State} (n : Nat) (h : AllowanceOk s) : AllowanceOk (s.clearTarget n) := by
  unfold State.clearTarget
  split
  · exact clearEverything_allowanceOk h
  · split
    · exact clearNamedLamp_allowanceOk _ h
    · exact allowanceOk_ite (h.withFan fanClearLockout_granted) (allowanceOk_ite h.withGauges h.withGauges)

/-! ### Requests -/

/-- The owner of a request keeps the allowance within its bound, whatever the payload. -/
def OwnerKeepsAllowance (owner : List Byte → State → Answer) : Prop :=
  ∀ (p : List Byte) (s : State), AllowanceOk s → AllowanceOk (owner p s).state

theorem answer_allowanceOk {s : State} {code : ResultCode} {data : List Byte} (h : AllowanceOk s) :
    AllowanceOk (Answer.state { state := s, code := code, data := data }) := h

theorem request_allowanceOk {k : ReqKind} {owner : List Byte → State → Answer} (keeps : OwnerKeepsAllowance owner)
    {s : State} (h : AllowanceOk s) : AllowanceOk (State.request k owner s) := by
  unfold State.request
  split
  · exact h
  · rename_i f rest _
    refine allowanceOk_ite (AllowanceOk.withLink (s := (answerOf k owner f.payload (s.popInbound rest)).state) ?_) h
    have popped : AllowanceOk (s.popInbound rest) := h.withLink
    unfold answerOf
    split
    · exact keeps f.payload _ popped
    · exact popped

theorem inLimp_allowanceOk {owner : List Byte → State → Answer} (keeps : OwnerKeepsAllowance owner) :
    OwnerKeepsAllowance (inLimp owner) := by
  intro p s h
  unfold inLimp
  split
  · exact keeps p s h
  · exact h

theorem notInLimp_allowanceOk {owner : List Byte → State → Answer} (keeps : OwnerKeepsAllowance owner) :
    OwnerKeepsAllowance (notInLimp owner) := by
  intro p s h
  unfold notInLimp
  split
  · exact h
  · exact keeps p s h

/-! #### Control and demands -/

theorem startOwner_allowanceOk : OwnerKeepsAllowance startOwner := by
  intro p s h
  unfold startOwner
  split
  · exact h
  · split
    · exact h
    · exact answer_allowanceOk (startPart_allowanceOk h)

theorem stopOwner_allowanceOk : OwnerKeepsAllowance stopOwner := by
  intro p s h
  unfold stopOwner
  split
  · exact h
  · exact answer_allowanceOk (stopInLimp_allowanceOk h)
  all_goals exact answer_allowanceOk (stopPart_allowanceOk h)

theorem sleepOwner_allowanceOk : OwnerKeepsAllowance sleepOwner := by
  intro p s h
  unfold sleepOwner
  split
  case h_3 => exact answer_allowanceOk (settle_allowanceOk (enterState_allowanceOk .watch h.withOp))
  all_goals exact h

theorem wakeOwner_allowanceOk : OwnerKeepsAllowance wakeOwner := by
  intro p s h
  unfold wakeOwner
  split
  case h_2 => exact answer_allowanceOk (settle_allowanceOk (wakeTo_allowanceOk .park .request h))
  all_goals exact h

theorem fnsetOwner_allowanceOk : OwnerKeepsAllowance fnsetOwner := by
  intro p s h
  unfold fnsetOwner
  split
  · exact h
  · split
    · exact h
    · exact answer_allowanceOk (settle_allowanceOk h.withResolver)

theorem fnmultiOwner_allowanceOk : OwnerKeepsAllowance fnmultiOwner := by
  intro p s h
  unfold fnmultiOwner
  split
  · exact h
  · exact answer_allowanceOk (settle_allowanceOk (allowanceOk_foldl (fun _ _ h => h.withResolver) _ h))

theorem turnOwner_allowanceOk : OwnerKeepsAllowance turnOwner := by
  intro p s h
  unfold turnOwner
  split
  · exact h
  · exact answer_allowanceOk (settle_allowanceOk h.withFlash)

theorem hazOwner_allowanceOk : OwnerKeepsAllowance hazOwner := by
  intro p s h
  unfold hazOwner
  split
  · exact h
  · exact answer_allowanceOk (settle_allowanceOk h.withFlash)

theorem sceneaddOwner_allowanceOk : OwnerKeepsAllowance sceneaddOwner := by
  intro p s h
  unfold sceneaddOwner
  split
  · exact h
  · exact answer_allowanceOk (settle_allowanceOk h.withResolver)

theorem scenedropOwner_allowanceOk : OwnerKeepsAllowance scenedropOwner := by
  intro p s h
  unfold scenedropOwner
  split
  · exact answer_allowanceOk (settle_allowanceOk h.withResolver)
  · exact h

theorem faultclrOwner_allowanceOk : OwnerKeepsAllowance faultclrOwner := by
  intro p s h
  unfold faultclrOwner
  split
  · exact h
  · exact answer_allowanceOk (settle_allowanceOk (clearTarget_allowanceOk _ h))

theorem gaugetestOwner_allowanceOk : OwnerKeepsAllowance gaugetestOwner := by
  intro p s h
  unfold gaugetestOwner
  split
  · exact h
  · split
    · exact h
    · split
      · exact h
      · exact answer_allowanceOk h.withGauges

/-! #### Reads and reports -/

theorem chreadOwner_allowanceOk : OwnerKeepsAllowance chreadOwner := by
  intro p s h
  unfold chreadOwner
  split <;> exact h

theorem fnreadOwner_allowanceOk : OwnerKeepsAllowance fnreadOwner := by
  intro p s h
  unfold fnreadOwner
  split <;> exact h

theorem supplyreadOwner_allowanceOk : OwnerKeepsAllowance supplyreadOwner := by
  intro p s h
  unfold supplyreadOwner
  split <;> exact h

theorem fanreadOwner_allowanceOk : OwnerKeepsAllowance fanreadOwner := by
  intro p s h
  unfold fanreadOwner
  split <;> exact h

theorem gaugereadOwner_allowanceOk : OwnerKeepsAllowance gaugereadOwner := by
  intro p s h
  unfold gaugereadOwner
  split
  · exact h
  · split <;> exact h

theorem evmaskOwner_allowanceOk : OwnerKeepsAllowance evmaskOwner := by
  intro p s h
  unfold evmaskOwner
  split
  · exact h
  · exact answer_allowanceOk h.withReport

/-! #### Configuration -/

theorem chcfgOwner_allowanceOk : OwnerKeepsAllowance chcfgOwner := by
  intro p s h
  unfold chcfgOwner
  split
  · exact h
  · split
    · exact h
    · exact answer_allowanceOk (h.setLamp id)

theorem subcfgOwner_allowanceOk : OwnerKeepsAllowance subcfgOwner := by
  intro p s h
  unfold subcfgOwner
  split
  · split
    · exact answer_allowanceOk h.withBank
    · split
      · split
        · exact answer_allowanceOk h.withBank
        · exact h
      · exact h
  · exact h

theorem fncfgOwner_allowanceOk : OwnerKeepsAllowance fncfgOwner := by
  intro p s h
  unfold fncfgOwner
  split
  · exact h
  · split
    · exact h
    · exact answer_allowanceOk h.withResolver

theorem gaugecfgOwner_allowanceOk : OwnerKeepsAllowance gaugecfgOwner := by
  intro p s h
  unfold gaugecfgOwner
  split
  · exact answer_allowanceOk h.withGauges
  · exact h

theorem curvecfgOwner_allowanceOk : OwnerKeepsAllowance curvecfgOwner := by
  intro p s h
  unfold curvecfgOwner
  split
  · exact h
  · dsimp only
    split
    · exact h
    · split
      · exact h
      · exact answer_allowanceOk h.withGauges

theorem supplycfgOwner_allowanceOk : OwnerKeepsAllowance supplycfgOwner := by
  intro p s h
  unfold supplycfgOwner
  split
  · exact h
  · dsimp only
    split
    · exact h
    · exact answer_allowanceOk (h.of_same rfl rfl)

theorem inputcfgOwner_allowanceOk : OwnerKeepsAllowance inputcfgOwner := by
  intro p s h
  unfold inputcfgOwner
  split
  · exact answer_allowanceOk h.withInputs
  · exact h

/-! ### Every command -/

/-- A command that ends in a next state ends within the allowance. -/
def NextAllowanceOk (o : Host.Outcome State Fault Refusal) : Prop := ∀ t, o = .next t → AllowanceOk t

theorem next_allowanceOk {s : State} (h : AllowanceOk s) : NextAllowanceOk (.next s) := by
  rintro t ⟨⟩
  exact h

theorem live_allowanceOk {s : State} (h : AllowanceOk s) {k : State → State}
    (keeps : ∀ s, AllowanceOk s → AllowanceOk (k s)) : NextAllowanceOk (s.live k) := by
  unfold State.live
  split
  · exact next_allowanceOk h
  · exact next_allowanceOk (keeps s h)

/-- A command that acts only on a condition. -/
theorem liveIf_allowanceOk {s : State} (h : AllowanceOk s) {c : State → Prop} [∀ s, Decidable (c s)] {k : State → State}
    (keeps : ∀ s, AllowanceOk s → AllowanceOk (k s)) : NextAllowanceOk (s.live fun s => if c s then k s else s) :=
  live_allowanceOk h fun s h => allowanceOk_ite (keeps s h) h

theorem liveRequest_allowanceOk {s : State} (h : AllowanceOk s) {k : ReqKind} {owner : List Byte → State → Answer}
    (keeps : OwnerKeepsAllowance owner) : NextAllowanceOk (s.live (State.request k owner)) :=
  live_allowanceOk h fun _ => request_allowanceOk keeps

theorem holdReset_allowanceOk {s : State} (causes : CauseSet) (h : AllowanceOk s) : AllowanceOk (s.holdReset causes) :=
  h.of_same rfl rfl

theorem execRestartReset_allowanceOk {s : State} (h : AllowanceOk s) : NextAllowanceOk (execRestartReset s) := by
  unfold execRestartReset
  exact liveIf_allowanceOk h fun _ => holdReset_allowanceOk _

theorem afterReset_allowanceInUse (s : State) (polOpen : Bool) : (s.afterReset polOpen).allowanceInUse = 0 :=
  calc (s.afterReset polOpen).allowanceInUse
      = State.reset.allowanceInUse := allowance_congr (fun _ => rfl) rfl
    _ = 0 := by decide

theorem execTrip_allowanceOk (ch : LampId) (milliamps : Nat) {s : State} (h : AllowanceOk s) :
    NextAllowanceOk (execTrip ch milliamps s) := by
  unfold execTrip
  exact liveIf_allowanceOk h fun _ h => settle_allowanceOk (lampSample_allowanceOk ch milliamps h)

theorem execInrushEnd_allowanceOk (ch : LampId) {s : State} (h : AllowanceOk s) :
    NextAllowanceOk (execInrushEnd ch s) := by
  unfold execInrushEnd
  exact liveIf_allowanceOk h fun _ h => arbitrate_allowanceOk (h.setLamp fun g => absurd g (inrushEnds_holdsNone _))

theorem execRetryExpiry_allowanceOk (ch : LampId) {s : State} (h : AllowanceOk s) :
    NextAllowanceOk (execRetryExpiry ch s) := by
  unfold execRetryExpiry
  exact liveIf_allowanceOk h fun _ h => arbitrate_allowanceOk (h.setLamp fun g => absurd g (retryEnds_holdsNone _ _ _))

theorem execTripForgiveness_allowanceOk (ch : LampId) {s : State} (h : AllowanceOk s) :
    NextAllowanceOk (execTripForgiveness ch s) := by
  unfold execTripForgiveness
  exact liveIf_allowanceOk h fun _ h => h.setLamp id

theorem execLampOutDecision_allowanceOk (ch : LampId) (milliamps : Nat) {s : State} (h : AllowanceOk s) :
    NextAllowanceOk (execLampOutDecision ch milliamps s) := by
  unfold execLampOutDecision
  exact liveIf_allowanceOk h fun _ h => settle_allowanceOk (lampSample_allowanceOk ch milliamps h)

theorem execFedDecision_allowanceOk (ch : LampId) (millivolts : Nat) {s : State} (h : AllowanceOk s) :
    NextAllowanceOk (execFedDecision ch millivolts s) := by
  unfold execFedDecision
  exact liveIf_allowanceOk h fun _ => readBack_allowanceOk ch millivolts

theorem execOnPhaseEnd_allowanceOk {s : State} (h : AllowanceOk s) : NextAllowanceOk (execOnPhaseEnd s) := by
  unfold execOnPhaseEnd
  exact liveIf_allowanceOk h fun _ => endOnPhase_allowanceOk

theorem execOffPhaseEnd_allowanceOk {s : State} (h : AllowanceOk s) : NextAllowanceOk (execOffPhaseEnd s) := by
  unfold execOffPhaseEnd
  exact liveIf_allowanceOk h fun _ => endOffPhase_allowanceOk

theorem execKickEnd_allowanceOk {s : State} (h : AllowanceOk s) : NextAllowanceOk (execKickEnd s) := by
  unfold execKickEnd
  exact liveIf_allowanceOk h fun _ h => arbitrate_allowanceOk (h.withFan fun g => absurd g (by simp [kickEnds_granted]))

theorem execRampTimerExpiry_allowanceOk {s : State} (h : AllowanceOk s) : NextAllowanceOk (execRampTimerExpiry s) := by
  unfold execRampTimerExpiry
  exact liveIf_allowanceOk h fun s h => h.withFan (rampExpiry_granted s.fan ▸ id)

theorem execStallFound_allowanceOk (milliamps : Nat) {s : State} (h : AllowanceOk s) :
    NextAllowanceOk (execStallFound milliamps s) := by
  unfold execStallFound
  exact liveIf_allowanceOk h fun _ h => arbitrate_allowanceOk (fanSample_allowanceOk milliamps h)

theorem execStallWaitEnd_allowanceOk {s : State} (h : AllowanceOk s) : NextAllowanceOk (execStallWaitEnd s) := by
  unfold execStallWaitEnd
  exact liveIf_allowanceOk h fun _ h => arbitrate_allowanceOk (h.withFan waitEnds_granted)

theorem execFanForgiveness_allowanceOk {s : State} (h : AllowanceOk s) : NextAllowanceOk (execFanForgiveness s) := by
  unfold execFanForgiveness
  exact liveIf_allowanceOk h fun _ h => h.withFan id

theorem execSenseSample_allowanceOk (g : GaugeId) (code : Nat) {s : State} (h : AllowanceOk s) :
    NextAllowanceOk (execSenseSample g code s) := by
  unfold execSenseSample
  exact liveIf_allowanceOk h fun _ h => h.withGauges

theorem execSenderStatusChange_allowanceOk (g : GaugeId) {s : State} (h : AllowanceOk s) :
    NextAllowanceOk (execSenderStatusChange g s) := by
  unfold execSenderStatusChange
  exact liveIf_allowanceOk h fun _ => gaugeMark_allowanceOk

theorem execGaugeOutputShort_allowanceOk (g : GaugeId) (milliamps : Nat) {s : State} (h : AllowanceOk s) :
    NextAllowanceOk (execGaugeOutputShort g milliamps s) := by
  unfold execGaugeOutputShort
  exact liveIf_allowanceOk h fun _ => gaugeSample_allowanceOk g milliamps

theorem execTestComplete_allowanceOk {s : State} (h : AllowanceOk s) : NextAllowanceOk (execTestComplete s) := by
  unfold execTestComplete
  exact liveIf_allowanceOk h fun _ => gaugeMark_allowanceOk

theorem execHoldEnd_allowanceOk (bat chg : Nat) {s : State} (h : AllowanceOk s) :
    NextAllowanceOk (execHoldEnd bat chg s) := by
  unfold execHoldEnd
  exact liveIf_allowanceOk h fun _ => supplySampled_allowanceOk bat chg

theorem execChargeChange_allowanceOk {s : State} (h : AllowanceOk s) : NextAllowanceOk (execChargeChange s) := by
  unfold execChargeChange
  exact liveIf_allowanceOk h fun _ => supplyMark_allowanceOk

theorem execVoltageLevelChange_allowanceOk {s : State} (h : AllowanceOk s) :
    NextAllowanceOk (execVoltageLevelChange s) := by
  unfold execVoltageLevelChange
  exact liveIf_allowanceOk h fun _ => supplyMark_allowanceOk

theorem execInputLevelChange_allowanceOk (i : InputId) {s : State} (h : AllowanceOk s) :
    NextAllowanceOk (execInputLevelChange i s) := by
  unfold execInputLevelChange
  exact live_allowanceOk h fun _ h => allowanceOk_ite (deliverLevel_allowanceOk i _ h)
    (allowanceOk_ite (deliverAsleep_allowanceOk i h) h)

theorem execEnterSleep_allowanceOk {s : State} (h : AllowanceOk s) : NextAllowanceOk (execEnterSleep s) := by
  unfold execEnterSleep
  exact liveIf_allowanceOk h fun _ => goToSleep_allowanceOk

theorem execSleepEdge_allowanceOk (i : WakeInput) {s : State} (h : AllowanceOk s) :
    NextAllowanceOk (execSleepEdge i s) := by
  unfold execSleepEdge
  exact liveIf_allowanceOk h fun _ h => h.withOp

theorem execWakeConfirmed_allowanceOk (i : WakeInput) (pins : PinLevels) {s : State} (h : AllowanceOk s) :
    NextAllowanceOk (execWakeConfirmed i pins s) := by
  unfold execWakeConfirmed
  refine live_allowanceOk h fun s h => allowanceOk_ite ?_ h
  split
  · exact confirmBy_allowanceOk i pins _ h
  · exact h

theorem execWindowTimeout_allowanceOk {s : State} (h : AllowanceOk s) : NextAllowanceOk (execWindowTimeout s) := by
  unfold execWindowTimeout
  exact liveIf_allowanceOk h fun _ h => h.withOp

theorem execRxWake_allowanceOk {s : State} (h : AllowanceOk s) : NextAllowanceOk (execRxWake s) := by
  unfold execRxWake
  exact liveIf_allowanceOk h fun _ => rxWakes_allowanceOk

theorem execReceiverRestart_allowanceOk {s : State} (h : AllowanceOk s) : NextAllowanceOk (execReceiverRestart s) := by
  unfold execReceiverRestart
  exact liveIf_allowanceOk h fun _ h => h.withLink

theorem execSceneExpiry_allowanceOk (id : Byte) {s : State} (h : AllowanceOk s) :
    NextAllowanceOk (execSceneExpiry id s) := by
  unfold execSceneExpiry
  exact liveIf_allowanceOk h fun _ => expireScene_allowanceOk id

theorem execDwellEnd_allowanceOk {s : State} (h : AllowanceOk s) : NextAllowanceOk (execDwellEnd s) := by
  unfold execDwellEnd
  exact liveIf_allowanceOk h fun _ h => settle_allowanceOk h.withResolver

theorem execFadeStep_allowanceOk {s : State} (h : AllowanceOk s) : NextAllowanceOk (execFadeStep s) := by
  unfold execFadeStep
  exact liveIf_allowanceOk h fun _ h => settle_allowanceOk h.withResolver

theorem execLinkTimeout_allowanceOk {s : State} (h : AllowanceOk s) : NextAllowanceOk (execLinkTimeout s) := by
  unfold execLinkTimeout
  exact liveIf_allowanceOk h fun _ => goSilent_allowanceOk

theorem execLimpLightingBegin_allowanceOk {s : State} (h : AllowanceOk s) :
    NextAllowanceOk (execLimpLightingBegin s) := by
  unfold execLimpLightingBegin
  exact liveIf_allowanceOk h fun _ h => settle_allowanceOk h.withOp

/-- Every command keeps the allowance in use within 4 units (R30). -/
theorem exec_allowanceOk (c : Instr) {s : State} (h : AllowanceOk s) : NextAllowanceOk (exec c s) := by
  cases c with
  | ident => exact liveRequest_allowanceOk h fun _ _ h => h
  | status => exact liveRequest_allowanceOk h fun _ _ h => h.of_same rfl rfl
  | cause => exact liveRequest_allowanceOk h fun _ _ h => h.withReport
  | evfetch => exact liveRequest_allowanceOk h fun _ _ h => h.withReport
  | evmask => exact liveRequest_allowanceOk h evmaskOwner_allowanceOk
  | start => exact liveRequest_allowanceOk h startOwner_allowanceOk
  | stop => exact liveRequest_allowanceOk h stopOwner_allowanceOk
  | sleep => exact liveRequest_allowanceOk h sleepOwner_allowanceOk
  | wake => exact liveRequest_allowanceOk h wakeOwner_allowanceOk
  | restart => exact liveRequest_allowanceOk h fun _ _ h => h.withLink
  | fnset => exact liveRequest_allowanceOk h (notInLimp_allowanceOk fnsetOwner_allowanceOk)
  | fnmulti => exact liveRequest_allowanceOk h (notInLimp_allowanceOk fnmultiOwner_allowanceOk)
  | turn => exact liveRequest_allowanceOk h (notInLimp_allowanceOk turnOwner_allowanceOk)
  | haz => exact liveRequest_allowanceOk h (notInLimp_allowanceOk hazOwner_allowanceOk)
  | sceneadd => exact liveRequest_allowanceOk h (notInLimp_allowanceOk sceneaddOwner_allowanceOk)
  | scenedrop => exact liveRequest_allowanceOk h (notInLimp_allowanceOk scenedropOwner_allowanceOk)
  | faultclr => exact liveRequest_allowanceOk h (notInLimp_allowanceOk faultclrOwner_allowanceOk)
  | gaugetest => exact liveRequest_allowanceOk h gaugetestOwner_allowanceOk
  | chread => exact liveRequest_allowanceOk h chreadOwner_allowanceOk
  | fnread => exact liveRequest_allowanceOk h fnreadOwner_allowanceOk
  | sceneread => exact liveRequest_allowanceOk h fun _ _ h => h
  | supplyread => exact liveRequest_allowanceOk h supplyreadOwner_allowanceOk
  | fanread => exact liveRequest_allowanceOk h fanreadOwner_allowanceOk
  | gaugeread => exact liveRequest_allowanceOk h gaugereadOwner_allowanceOk
  | chcfg => exact liveRequest_allowanceOk h (inLimp_allowanceOk chcfgOwner_allowanceOk)
  | subcfg => exact liveRequest_allowanceOk h (inLimp_allowanceOk subcfgOwner_allowanceOk)
  | fncfg => exact liveRequest_allowanceOk h (inLimp_allowanceOk fncfgOwner_allowanceOk)
  | flashcfg => exact liveRequest_allowanceOk h (inLimp_allowanceOk fun _ _ h => h.withFlash)
  | fancfg => exact liveRequest_allowanceOk h (inLimp_allowanceOk fun _ _ h => h.withFan id)
  | gaugecfg => exact liveRequest_allowanceOk h (inLimp_allowanceOk gaugecfgOwner_allowanceOk)
  | curvecfg => exact liveRequest_allowanceOk h (inLimp_allowanceOk curvecfgOwner_allowanceOk)
  | supplycfg => exact liveRequest_allowanceOk h (inLimp_allowanceOk supplycfgOwner_allowanceOk)
  | inputcfg => exact liveRequest_allowanceOk h (inLimp_allowanceOk inputcfgOwner_allowanceOk)
  | linkcfg => exact liveRequest_allowanceOk h (inLimp_allowanceOk fun _ _ h => h.withOp)
  | unknownKind => exact live_allowanceOk h fun _ => takeUnknown_allowanceOk
  | rxByte data parity stop => exact live_allowanceOk h fun _ => receive_allowanceOk data parity stop
  | gapTimeout => exact live_allowanceOk h fun _ => AllowanceOk.withLink
  | replySent => exact live_allowanceOk h fun _ => AllowanceOk.withLink
  | restartReset => exact execRestartReset_allowanceOk h
  | powerOn => exact next_allowanceOk (holdReset_allowanceOk _ h)
  | brownout => exact next_allowanceOk (holdReset_allowanceOk _ h)
  | resetLine => exact next_allowanceOk (holdReset_allowanceOk _ h)
  | resetRelease polOpen =>
    exact next_allowanceOk (allowanceOk_ite ((afterReset_allowanceInUse s polOpen).le.trans (Nat.zero_le 4)) h)
  | currentSample readings => exact live_allowanceOk h fun _ => currentSample_allowanceOk readings
  | channelAverage => exact live_allowanceOk h fun _ => averageMark_allowanceOk
  | trip ch milliamps => exact execTrip_allowanceOk ch milliamps h
  | inrushEnd ch => exact execInrushEnd_allowanceOk ch h
  | retryExpiry ch => exact execRetryExpiry_allowanceOk ch h
  | tripForgiveness ch => exact execTripForgiveness_allowanceOk ch h
  | lampOutDecision ch milliamps => exact execLampOutDecision_allowanceOk ch milliamps h
  | fedDecision ch millivolts => exact execFedDecision_allowanceOk ch millivolts h
  | onPhaseEnd => exact execOnPhaseEnd_allowanceOk h
  | offPhaseEnd => exact execOffPhaseEnd_allowanceOk h
  | kickEnd => exact execKickEnd_allowanceOk h
  | rampTimerExpiry => exact execRampTimerExpiry_allowanceOk h
  | stallFound milliamps => exact execStallFound_allowanceOk milliamps h
  | stallWaitEnd => exact execStallWaitEnd_allowanceOk h
  | fanForgiveness => exact execFanForgiveness_allowanceOk h
  | senseSample g code => exact execSenseSample_allowanceOk g code h
  | gaugeUpdate => exact live_allowanceOk h fun _ => gaugeMark_allowanceOk
  | senderStatusChange g => exact execSenderStatusChange_allowanceOk g h
  | gaugeOutputShort g milliamps => exact execGaugeOutputShort_allowanceOk g milliamps h
  | testComplete => exact execTestComplete_allowanceOk h
  | supplySample bat chg => exact live_allowanceOk h fun _ => supplySampled_allowanceOk bat chg
  | holdEnd bat chg => exact execHoldEnd_allowanceOk bat chg h
  | supplyEvaluation => exact live_allowanceOk h fun _ => supplyMark_allowanceOk
  | chargeChange => exact execChargeChange_allowanceOk h
  | voltageLevelChange => exact execVoltageLevelChange_allowanceOk h
  | inputSample pins => exact live_allowanceOk h fun _ => sampleInputs_allowanceOk pins
  | inputLevelChange i => exact execInputLevelChange_allowanceOk i h
  | enterSleep => exact execEnterSleep_allowanceOk h
  | sleepEdge i => exact execSleepEdge_allowanceOk i h
  | wakeConfirmed i pins => exact execWakeConfirmed_allowanceOk i pins h
  | windowTimeout => exact execWindowTimeout_allowanceOk h
  | rxWake => exact execRxWake_allowanceOk h
  | receiverRestart => exact execReceiverRestart_allowanceOk h
  | sceneExpiry id => exact execSceneExpiry_allowanceOk id h
  | dwellEnd => exact execDwellEnd_allowanceOk h
  | fadeStep => exact execFadeStep_allowanceOk h
  | linkTimeout => exact execLinkTimeout_allowanceOk h
  | limpLightingBegin => exact execLimpLightingBegin_allowanceOk h
  | timeCountTick => exact live_allowanceOk h fun _ => tick_allowanceOk

theorem step_allowanceOk {s t : State} (h : AllowanceOk s) (e : step s = .next t) : AllowanceOk t := by
  unfold step at e
  split at e
  · exact next_allowanceOk h t e
  · exact exec_allowanceOk _ h.withPending t e

/-- Settles O4: every command keeps the bound, since a pass of the arbiter grants only what fits and nothing else makes a
grant holder. -/
theorem allowanceNeverExceeded : Obligations.AllowanceNeverExceeded := by
  refine ⟨fun _ _ => step_allowanceOk, fun s => ?_, fun s polOpen => ⟨afterReset_allowanceInUse s polOpen, rfl⟩⟩
  rw [State.allowanceInUse, lampGrantWeight_sum]
  rfl

end Sys2Proof.Machine
end

section
/-! PROOF. O34, the flash rate and the link timeout (R70, R158): one lemma per operation says that it keeps both settings, and
that an ON phase found after it was under way before it, or took its half-period from the stored rate as it started (R69, R73). -/

namespace Sys2Proof.Machine

/-! ### FLASHCFG and LINKCFG: the value stored and the reply -/

theorem clamp_eq_ite {lo hi : Nat} (h : lo ≤ hi) (v : Nat) :
    clamp lo hi v = if v < lo then lo else if hi < v then hi else v := by
  unfold clamp
  split
  · omega
  · split <;> omega

theorem linkTimeoutOf_eq_ite (v : Nat) :
    linkTimeoutOf v = if v = 0 then 0 else if v < 5 then 5 else if 100 < v then 100 else v := by
  rw [linkTimeoutOf, clamp_eq_ite (by decide)]

theorem clampedCode_bne (stored given : Nat) :
    clampedCode (stored != given) = if stored = given then .ok else .clamped := by
  by_cases h : stored = given <;> simp [clampedCode, h]

/-- A configuration request is refused LOCKED outside LIMP (Table 9-3). -/
theorem configRequest_locked {k : ReqKind} {owner : List Byte → State → Answer} {s : State} {p : List Byte}
    {rest : List Frame} (h : Takes s k.code p rest) (hl : k.lengthOk p.length = true) (outside : s.op.state ≠ .limp) :
    s.live (State.request k (inLimp owner)) = .next { s with link := linkAfter s rest k.code .locked [] } :=
  request_reply h hl (if_neg outside)

/-- A configuration request reaches its owner in LIMP (Table 9-3). -/
theorem configRequest_taken {k : ReqKind} {owner : List Byte → State → Answer} {s : State} {p : List Byte}
    {rest : List Frame} (h : Takes s k.code p rest) (hl : k.lengthOk p.length = true) (limp : s.op.state = .limp) :
    s.live (State.request k (inLimp owner)) = .next
      { (owner p (s.popInbound rest)).state with
        link := (owner p (s.popInbound rest)).state.link.send ((owner p (s.popInbound rest)).frame k.code) } := by
  have reached : inLimp owner p (s.popInbound rest) = owner p (s.popInbound rest) := if_pos limp
  rw [request_taken h hl, reached]

theorem exec_flashcfg_limp {s : State} {b : Byte} {rest : List Frame} (h : Takes s 0x43 [b] rest)
    (limp : s.op.state = .limp) :
    exec .flashcfg s = .next
      { s with
        flash := { s.flash with rate := clamp 60 120 b.toNat }
        link := linkAfter s rest 0x43 (clampedCode (clamp 60 120 b.toNat != b.toNat))
          (b1 (clamp 60 120 b.toNat) ++ b2 (halfNormal (clamp 60 120 b.toNat)) ++ b2 (halfFast (clamp 60 120 b.toNat))) } :=
  configRequest_taken (k := .flashcfg) h rfl limp

theorem exec_linkcfg_limp {s : State} {b : Byte} {rest : List Frame} (h : Takes s 0x49 [b] rest)
    (limp : s.op.state = .limp) :
    exec .linkcfg s = .next
      { s with
        op := { s.op with linkTimeout := linkTimeoutOf b.toNat }
        link := linkAfter s rest 0x49 (clampedCode (linkTimeoutOf b.toNat != b.toNat)) (b1 (linkTimeoutOf b.toNat)) } :=
  configRequest_taken (k := .linkcfg) h rfl limp

/-! ### What every command that runs, and every request, can do -/

/-- A command acts, or the part is held in reset and stays as it is (R160). -/
theorem eq_or_of_live_next {s t : State} {k : State → State} (h : s.live k = .next t) : t = s ∨ t = k s := by
  unfold State.live at h
  split at h <;> cases h
  · exact .inl rfl
  · exact .inr rfl

/-- A request leaves what its owner leaves, or what was there, but for the link (R166). -/
theorem request_eq (k : ReqKind) (owner : List Byte → State → Answer) (s : State) : ∃ l : Link,
    State.request k owner s = { s with link := l } ∨
      ∃ p rest, State.request k owner s = { (owner p (s.popInbound rest)).state with link := l } := by
  unfold State.request
  split
  · exact ⟨s.link, .inl rfl⟩
  · split
    · unfold answerOf
      split
      · exact ⟨_, .inr ⟨_, _, rfl⟩⟩
      · exact ⟨_, .inl rfl⟩
    · exact ⟨s.link, .inl rfl⟩

/-- FLASHCFG leaves the operating-state record alone, and the phase under way with its half-period (R70). -/
theorem flashcfg_keeps {s t : State} (h : exec .flashcfg s = .next t) :
    t.op = s.op ∧ t.flash.phase = s.flash.phase ∧ t.flash.half = s.flash.half := by
  rcases eq_or_of_live_next h with rfl | rfl
  · exact ⟨rfl, rfl, rfl⟩
  · obtain ⟨l, e | ⟨p, rest, e⟩⟩ := request_eq .flashcfg (inLimp flashcfgOwner) s <;> rw [e]
    · exact ⟨rfl, rfl, rfl⟩
    · unfold inLimp
      split <;> exact ⟨rfl, rfl, rfl⟩

/-- LINKCFG leaves the flash record alone (R158). -/
theorem linkcfg_keeps_flash {s t : State} (h : exec .linkcfg s = .next t) : t.flash = s.flash := by
  rcases eq_or_of_live_next h with rfl | rfl
  · rfl
  · obtain ⟨l, e | ⟨p, rest, e⟩⟩ := request_eq .linkcfg (inLimp linkcfgOwner) s <;> rw [e]
    unfold inLimp
    split <;> rfl

/-! ### The settings of one state in another -/

/-- The half-period that an ON start gives at a rate (R69). -/
def halfPeriod (fast : Bool) (rate : Nat) : Nat := if fast then halfFast rate else halfNormal rate

/-- The rate and the link timeout of state `a` stand in state `s`, and an ON phase of `s` was under way in `a` with the same
half-period or has the half-period of the rate in `a`. -/
structure RatesKept (a s : State) : Prop where
  rate : s.flash.rate = a.flash.rate
  linkTimeout : s.op.linkTimeout = a.op.linkTimeout
  half : s.flash.phase = .on →
    (a.flash.phase = .on ∧ s.flash.half = a.flash.half) ∨ s.flash.half = halfPeriod s.flash.fast a.flash.rate

theorem RatesKept.refl (s : State) : RatesKept s s := ⟨rfl, rfl, fun on => .inl ⟨on, rfl⟩⟩

variable {a s : State}

/-- What `RatesKept` reads of a state. -/
def State.timing (s : State) : FlashPhase × Nat × Bool × Nat × Nat :=
  (s.flash.phase, s.flash.half, s.flash.fast, s.flash.rate, s.op.linkTimeout)

/-- A write that leaves the phase with its half-period, the fast flag, the rate and the link timeout alone. -/
theorem RatesKept.same (h : RatesKept a s) {t : State} (e : t.timing = s.timing) : RatesKept a t := by
  simp only [State.timing, Prod.mk.injEq] at e
  obtain ⟨phase, half, fast, rate, linkTimeout⟩ := e
  refine ⟨rate.trans h.rate, linkTimeout.trans h.linkTimeout, ?_⟩
  rw [phase, half, fast]
  exact h.half

/-- An ON phase ends, or the engine falls idle: the rate is kept. -/
theorem RatesKept.leaveOn (h : RatesKept a s) {x : Flash} (rate : x.rate = a.flash.rate) (off : x.phase ≠ .on) :
    RatesKept a { s with flash := x } :=
  ⟨rate, h.linkTimeout, fun on => absurd on off⟩

theorem RatesKept.raise (h : RatesKept a s) {k : EventKind} {subject detail : Nat} :
    RatesKept a (s.raise k subject detail) :=
  h.same (by simp only [State.timing, raise_flash, raise_op])

theorem ratesKept_foldl {α : Type} {f : State → α → State} (keeps : ∀ s x, RatesKept a s → RatesKept a (f s x))
    (l : List α) {s : State} (h : RatesKept a s) : RatesKept a (l.foldl f s) := by
  induction l generalizing s with
  | nil => exact h
  | cons x l ih => exact ih (keeps s x h)

theorem ratesKept_ite {c : Prop} [Decidable c] {t u : State} (ht : RatesKept a t) (hu : RatesKept a u) :
    RatesKept a (if c then t else u) := by
  split
  · exact ht
  · exact hu

/-! ### The flash engine and the settling of a cause -/

/-- Where settling keeps what it keeps, the flash record decides. -/
theorem RatesKept.of_settleKeeps (h : RatesKept a s) {t : State} (k : SettleKeeps s t) (flash : t.flash = s.flash) :
    RatesKept a t :=
  h.same (by rw [State.timing, flash, k.op, ← State.timing])

/-- An ON start takes its half-period from the stored rate (R69, R73). -/
theorem onStart_ratesKept (set : Sides) (h : RatesKept a s) : RatesKept a (s.onStart set) where
  rate := (onStart_keeps s set).rate.trans h.rate
  linkTimeout := (congrArg OpCtl.linkTimeout (onStart_keeps s set).op).trans h.linkTimeout
  half _ := .inr (h.rate ▸ rfl)

theorem flashPoke_ratesKept (h : RatesKept a s) : RatesKept a s.flashPoke :=
  ratesKept_ite (onStart_ratesKept _ h) h

theorem gaugePoke_ratesKept (h : RatesKept a s) : RatesKept a s.gaugePoke :=
  ratesKept_foldl (f := State.gaugePokeOne) (fun _ _ h => ratesKept_ite (h.same rfl) h) allGauges h

theorem arbitrate_ratesKept (h : RatesKept a s) : RatesKept a s.arbitrate :=
  h.of_settleKeeps (arbitrate_keeps s) (arbitrate_resolver s).2.1

theorem settle_ratesKept (h : RatesKept a s) : RatesKept a s.settle := by
  have poked := gaugePoke_ratesKept (flashPoke_ratesKept h)
  have resolved := ratesKept_foldl (f := State.resolveFn) (fun _ _ h => h.same rfl) allFns poked
  have handed := resolved.of_settleKeeps (handAll_keeps _) (handList_resolver allLamps _).2.1
  have followed := handed.of_settleKeeps (fanFollow_keeps _) (fanFollow_resolver _).2.1
  have started := followed.of_settleKeeps (fanStart_keeps _) (fanStart_resolver _).2.1
  exact arbitrate_ratesKept started

theorem setLampOut_ratesKept (ch : LampId) (out : Bool) (milliamps : Nat) (h : RatesKept a s) :
    RatesKept a (s.setLampOut ch out milliamps) :=
  have flagged : RatesKept a (s.setLamp ch { s.lamp ch with lampOut := out }) := h.same rfl
  ratesKept_ite h flagged.raise

theorem decidePhase_ratesKept (ch : LampId) (h : RatesKept a s) : RatesKept a (s.decidePhase ch) := by
  unfold State.decidePhase
  split
  · split
    · exact setLampOut_ratesKept ch _ _ h
    · exact h
  · exact h

theorem endOnPhase_ratesKept (h : RatesKept a s) : RatesKept a s.endOnPhase :=
  have goesOff {s : State} (h : RatesKept a s) :
      RatesKept a { s with flash := { s.flash with phase := .off, timer := some s.flash.half } } :=
    h.leaveOn h.rate (by simp)
  settle_ratesKept (goesOff (ratesKept_foldl (fun _ => decidePhase_ratesKept) allLamps h))

theorem endOffPhase_ratesKept (h : RatesKept a s) : RatesKept a s.endOffPhase :=
  have restarted := ratesKept_foldl (f := State.restartIfCeased s.flash.idle)
    (fun _ _ h => ratesKept_ite (h.same rfl) h) allLamps h
  settle_ratesKept (ratesKept_ite (restarted.leaveOn h.rate (by simp [Flash.idle])) (onStart_ratesKept _ h))

/-! ### Changes of serving function and the substitution table -/

theorem functionChanged_ratesKept (ch : LampId) (h : RatesKept a s) : RatesKept a (s.functionChanged ch) :=
  h.same (by rw [functionChanged_rest]; rfl)

theorem mapChanged_ratesKept (old : LampId → Option Fn) (h : RatesKept a s) : RatesKept a (s.mapChanged old) :=
  ratesKept_foldl (fun _ ch h => ratesKept_ite h (functionChanged_ratesKept ch h)) allLamps h

theorem examine_ratesKept (occasion : LampId × LampId → Bool) (h : RatesKept a s) :
    RatesKept a (s.examine occasion) :=
  h.same (by rw [examine_examined s occasion]; rfl)

theorem releaseEntry_ratesKept (e : Fin 3) (h : RatesKept a s) : RatesKept a (s.releaseEntry e) := by
  unfold State.releaseEntry
  dsimp only
  split
  · rename_i q _
    have freed : RatesKept a ((s.setSub e { s.subEntry e with engaged := false }).setLamp q (s.lamp q).release) := h.same rfl
    exact ratesKept_ite ((functionChanged_ratesKept q freed).same rfl) h
  · exact h

theorem releaseWhere_ratesKept (which : LampId × LampId → Bool) (h : RatesKept a s) :
    RatesKept a (s.releaseWhere which) :=
  ratesKept_foldl (fun _ e h => ratesKept_ite (releaseEntry_ratesKept e h) h) allSubs h

theorem clearAllLamps_ratesKept (h : RatesKept a s) : RatesKept a s.clearAllLamps :=
  ratesKept_foldl (f := State.clearLamp) (fun _ _ h => h.same rfl) allLamps h

/-! ### Samples -/

theorem lampTrips_ratesKept (ch : LampId) (milliamps : Nat) (h : RatesKept a s) :
    RatesKept a (s.lampTrips ch milliamps) :=
  have set (r : LampRec) : RatesKept a (s.setLamp ch r) := h.same rfl
  ratesKept_ite (set _).raise (examine_ratesKept _ (set _).raise.raise)

theorem storeSample_ratesKept (ch : ChanId) (sample duty : Nat) (h : RatesKept a s) :
    RatesKept a (s.storeSample ch sample duty) :=
  ratesKept_ite (h.same rfl) (h.same rfl)

theorem judgeSample_ratesKept (ch : LampId) (milliamps : Nat) (h : RatesKept a s) :
    RatesKept a (s.judgeSample ch milliamps) :=
  have set (r : LampRec) : RatesKept a (s.setLamp ch r) := h.same rfl
  ratesKept_ite (ratesKept_ite (set _) h)
    (ratesKept_ite (ratesKept_ite (setLampOut_ratesKept ch _ milliamps (set _)) (set _)) h)

theorem lampActs_ratesKept (ch : LampId) (milliamps : Nat) (h : RatesKept a s) :
    RatesKept a (s.lampActs ch milliamps) :=
  have set (r : LampRec) : RatesKept a ((s.judgeSample ch milliamps).setLamp ch r) :=
    (judgeSample_ratesKept ch milliamps h).same rfl
  ratesKept_ite (lampTrips_ratesKept ch milliamps (set _)) (set _)

theorem lampSample_ratesKept (ch : LampId) (milliamps : Nat) (h : RatesKept a s) :
    RatesKept a (s.lampSample ch milliamps) :=
  lampActs_ratesKept ch milliamps (storeSample_ratesKept _ _ _ h)

theorem readBack_ratesKept (ch : LampId) (millivolts : Nat) (h : RatesKept a s) :
    RatesKept a (s.readBack ch millivolts) :=
  have set (r : LampRec) : RatesKept a (s.setLamp ch r) := h.same rfl
  ratesKept_ite (set _).raise (set _)

theorem withFan_ratesKept (h : RatesKept a s) (f : Fan) : RatesKept a { s with fan := f } := h.same rfl

theorem fanStalled_ratesKept (milliamps : Nat) (h : RatesKept a s) : RatesKept a (s.fanStalled milliamps) :=
  have stopped := (withFan_ratesKept h s.fan.stop).raise
  ratesKept_ite (withFan_ratesKept stopped _) (withFan_ratesKept stopped _).raise

theorem fanActs_ratesKept (milliamps : Nat) (h : RatesKept a s) : RatesKept a (s.fanActs milliamps) :=
  ratesKept_ite (fanStalled_ratesKept milliamps h) (ratesKept_ite h (h.same rfl))

theorem fanSample_ratesKept (milliamps : Nat) (h : RatesKept a s) : RatesKept a (s.fanSample milliamps) :=
  ratesKept_ite (fanActs_ratesKept milliamps (storeSample_ratesKept _ _ _ h)) h

theorem setGauge_ratesKept (h : RatesKept a s) (g : GaugeId) (x : Gauge) : RatesKept a (s.setGauge g x) := h.same rfl

theorem abortTest_ratesKept (h : RatesKept a s) : RatesKept a s.abortTest :=
  have stopped : RatesKept a { s with gauges := { s.gauges with testStep := 0 } } := h.same rfl
  stopped.raise

theorem gaugeActs_ratesKept (g : GaugeId) (milliamps : Nat) (h : RatesKept a s) :
    RatesKept a (s.gaugeActs g milliamps) :=
  have shorted := (setGauge_ratesKept h g _).raise
  ratesKept_ite (ratesKept_ite (h.same rfl) (ratesKept_ite (abortTest_ratesKept shorted) shorted)) (h.same rfl)

theorem gaugeSample_ratesKept (g : GaugeId) (milliamps : Nat) (h : RatesKept a s) :
    RatesKept a (s.gaugeSample g milliamps) :=
  ratesKept_ite (gaugeActs_ratesKept g milliamps (storeSample_ratesKept _ _ _ h)) h

theorem storeTaken_ratesKept (ch : ChanId) (taken : Taken) (reading : Nat) (h : RatesKept a s) :
    RatesKept a (s.storeTaken ch taken reading) := by
  cases taken with
  | current duty => exact storeSample_ratesKept ch reading duty h
  | line | nothing => exact h

theorem readingActs_ratesKept (ch : ChanId) (taken : Taken) (reading : Nat) (h : RatesKept a s) :
    RatesKept a (s.readingActs ch taken reading) := by
  cases taken with
  | current duty =>
    show RatesKept a (s.sampleActs ch reading)
    unfold State.sampleActs
    split
    · exact lampActs_ratesKept _ reading h
    · exact ratesKept_ite (fanActs_ratesKept reading h) (gaugeActs_ratesKept _ reading h)
  | line =>
    unfold State.readingActs
    dsimp only
    split
    · exact readBack_ratesKept _ reading h
    · exact h
  | nothing => exact h

theorem currentSample_ratesKept (readings : Vector (Option Nat) 17) (h : RatesKept a s) :
    RatesKept a (s.currentSample readings) :=
  ratesKept_ite h (ratesKept_foldl (fun _ _ h => settle_ratesKept (readingActs_ratesKept _ _ _ h)) _
    (ratesKept_foldl (fun _ _ h => storeTaken_ratesKept _ _ _ h) _ h))

theorem averageMark_ratesKept (h : RatesKept a s) : RatesKept a s.averageMark :=
  ratesKept_ite h (ratesKept_ite (h.same rfl) (h.same rfl))

/-! ### The gauge unit -/

theorem gaugeSense_ratesKept (g : GaugeId) (h : RatesKept a s) : RatesKept a (s.gaugeSense g) :=
  ratesKept_ite (ratesKept_ite (h.same rfl) (setGauge_ratesKept h g _).raise) h

theorem gaugeCompensate_ratesKept (g : GaugeId) (h : RatesKept a s) : RatesKept a (s.gaugeCompensate g) :=
  ratesKept_ite h (ratesKept_ite (h.same rfl) (setGauge_ratesKept h g _).raise)

theorem gaugeUpdateOne_ratesKept (n : Nat) (g : GaugeId) (h : RatesKept a s) : RatesKept a (s.gaugeUpdateOne n g) := by
  unfold State.gaugeUpdateOne
  have sensed := gaugeSense_ratesKept g h
  split
  · exact ratesKept_ite (gaugeCompensate_ratesKept g sensed) h
  · exact gaugeCompensate_ratesKept g (setGauge_ratesKept sensed g _)
  · exact h
  · exact h

/-- The gauge unit writes every gauge. -/
theorem mapGauges_ratesKept (f : Gauge → Gauge) (h : RatesKept a s) :
    RatesKept a (allGauges.foldl (fun s g => s.setGauge g (f (s.gauge g))) s) :=
  ratesKept_foldl (fun _ _ h => setGauge_ratesKept h _ _) allGauges h

theorem finishTest_ratesKept (h : RatesKept a s) : RatesKept a s.finishTest :=
  have stopped {s : State} (h : RatesKept a s) : RatesKept a { s with gauges := { s.gauges with testStep := 0 } } := h.same rfl
  (stopped (mapGauges_ratesKept Gauge.endTest h)).raise

theorem gaugeMark_ratesKept (h : RatesKept a s) : RatesKept a s.gaugeMark :=
  have advanced : RatesKept a (if s.testRunning then
      { s with gauges := { s.gauges with testStep := s.gauges.testStep + 1 } } else s) := ratesKept_ite (h.same rfl) h
  have updated := ratesKept_foldl (fun _ => gaugeUpdateOne_ratesKept (s.gauges.testStep + 1)) allGauges advanced
  have cleared := mapGauges_ratesKept (fun x => { x with samples := [] }) updated
  ratesKept_ite (finishTest_ratesKept cleared) cleared

theorem gaugesLeaveDrive_ratesKept (h : RatesKept a s) : RatesKept a s.gaugesLeaveDrive :=
  have left := mapGauges_ratesKept Gauge.leaveDrive h
  ratesKept_ite (abortTest_ratesKept left) left

theorem gaugesOnHold_ratesKept (h : RatesKept a s) : RatesKept a s.gaugesOnHold :=
  have held := mapGauges_ratesKept Gauge.onHold h
  ratesKept_ite (abortTest_ratesKept held) held

/-! ### The supply monitor -/

theorem withSupply_ratesKept (h : RatesKept a s) (x : Supply) : RatesKept a { s with supply := x } := h.same rfl

theorem declareHold_ratesKept (millivolts : Nat) (h : RatesKept a s) : RatesKept a (s.declareHold millivolts) :=
  have declared := (withSupply_ratesKept h { s.supply with hold := true, releaseCount := 0 }).raise
  have dark := ratesKept_foldl (f := fun s ch => s.setLamp ch (s.lamp ch).onHold) (fun _ _ h => h.same rfl) allLamps declared
  settle_ratesKept (gaugesOnHold_ratesKept (withFan_ratesKept dark _))

theorem checkHold_ratesKept (millivolts : Nat) (h : RatesKept a s) : RatesKept a (s.checkHold millivolts) :=
  have ended := settle_ratesKept (withSupply_ratesKept h { s.supply with hold := false, releaseCount := 0 }).raise
  ratesKept_ite (ratesKept_ite (ratesKept_ite ended (h.same rfl)) (h.same rfl))
    (ratesKept_ite (declareHold_ratesKept millivolts h) h)

theorem supplySampled_ratesKept (bat chg : Nat) (h : RatesKept a s) : RatesKept a (s.supplySampled bat chg) :=
  have stored : RatesKept a (s.storeSupply bat chg) := h.same rfl
  ratesKept_ite h (checkHold_ratesKept bat stored)

theorem evaluate_ratesKept (h : RatesKept a s) : RatesKept a s.evaluate :=
  have evaluated : RatesKept a { s with
      supply := s.supply.evaluated s.averageSum, bank := { s.bank with averagesReady := false } } := h.same rfl
  have charged := ratesKept_ite evaluated evaluated.raise
  ratesKept_ite charged (settle_ratesKept charged.raise)

theorem supplyMark_ratesKept (h : RatesKept a s) : RatesKept a s.supplyMark :=
  ratesKept_ite h (ratesKept_ite (evaluate_ratesKept h) (ratesKept_ite (h.same rfl) h))

/-! ### The operating states and the inputs -/

theorem enterState_ratesKept (new : OpState) (h : RatesKept a s) : RatesKept a (s.enterState new) :=
  have entered : RatesKept a { s with op := { s.op with state := new } } := h.same rfl
  ratesKept_ite (gaugesLeaveDrive_ratesKept (withFan_ratesKept entered.raise _)) entered.raise

theorem wakeTo_ratesKept (new : OpState) (cause : WakeCause) (h : RatesKept a s) : RatesKept a (s.wakeTo new cause) :=
  have resumed : RatesKept a (if s.op.state = .sleep then s.resumeSampling else s) := ratesKept_ite (h.same rfl) h
  have awake {s : State} (h : RatesKept a s) : RatesKept a { s with op :=
      { s.op with sleepRequested := false, silenceTimer := 0 } } := h.same rfl
  enterState_ratesKept new (awake resumed).raise

theorem courtesyDoor_ratesKept (asserted : Bool) (h : RatesKept a s) : RatesKept a (s.courtesyDoor asserted) :=
  ratesKept_ite h (ratesKept_ite (h.same rfl) (ratesKept_ite (h.same rfl) h))

theorem ignLevel_ratesKept (asserted : Bool) (h : RatesKept a s) : RatesKept a (s.ignLevel asserted) := by
  unfold State.ignLevel
  split
  · exact ratesKept_ite (ratesKept_ite (h.same rfl) h) (h.same rfl)
  · exact ratesKept_ite h (enterState_ratesKept .park h)
  · exact ratesKept_ite (enterState_ratesKept .drive h) h
  · exact ratesKept_ite (wakeTo_ratesKept .drive .ign h) h
  · exact h

theorem watchWake_ratesKept (asserted : Bool) (cause : WakeCause) (h : RatesKept a s) :
    RatesKept a (s.watchWake asserted cause) :=
  ratesKept_ite (wakeTo_ratesKept .park cause h) h

theorem setInRec_ratesKept (h : RatesKept a s) (i : InputId) (r : InRec) : RatesKept a (s.setInRec i r) := h.same rfl

theorem handLevel_ratesKept (i : InputId) (asserted : Bool) (h : RatesKept a s) :
    RatesKept a (s.handLevel i asserted) := by
  cases i with
  | ign => exact ignLevel_ratesKept asserted h
  | haz => exact watchWake_ratesKept asserted .haz (h.same rfl)
  | door => exact watchWake_ratesKept asserted .door (courtesyDoor_ratesKept asserted h)
  | brake | sw0 | sw1 => exact h

/-- A level that is stored and handed to its readers. -/
theorem levelHanded_ratesKept (i : InputId) (asserted : Bool) (h : RatesKept a s) :
    RatesKept a ((s.storeLevel i asserted).handLevel i asserted) :=
  handLevel_ratesKept i asserted (setInRec_ratesKept h i _).raise

theorem deliverLevel_ratesKept (i : InputId) (asserted : Bool) (h : RatesKept a s) :
    RatesKept a (s.deliverLevel i asserted) :=
  have handed := levelHanded_ratesKept i asserted h
  ratesKept_ite handed (settle_ratesKept handed)

theorem sampleInput_ratesKept (pins : PinLevels) (i : InputId) (h : RatesKept a s) :
    RatesKept a (s.sampleInput pins i) :=
  ratesKept_ite (ratesKept_ite (h.same rfl) (ratesKept_ite (deliverLevel_ratesKept i _ h) (h.same rfl))) h

theorem takeWindowCounts_ratesKept (w : Window) (h : RatesKept a s) : RatesKept a (s.takeWindowCounts w) :=
  ratesKept_foldl (fun _ _ h => setInRec_ratesKept h _ _) allInputs h

theorem deliverHeld_ratesKept (held : List (InputId × Bool)) (h : RatesKept a s) : RatesKept a (s.deliverHeld held) :=
  ratesKept_foldl (fun _ _ h => deliverLevel_ratesKept _ _ h) held h

theorem closeWindow_ratesKept (w : Option Window) (h : RatesKept a s) : RatesKept a (s.closeWindow w) := by
  cases w with
  | none => exact h
  | some w => exact takeWindowCounts_ratesKept w (deliverHeld_ratesKept w.held h)

theorem confirmWake_ratesKept (i : WakeInput) (w : Window) (h : RatesKept a s) : RatesKept a (s.confirmWake i w) :=
  closeWindow_ratesKept (some w) (settle_ratesKept (wakeTo_ratesKept _ _ h))

theorem sampleInWindow_ratesKept (pins : PinLevels) (w : Window) (h : RatesKept a s) :
    RatesKept a (s.sampleInWindow pins w) := by
  unfold State.sampleInWindow
  dsimp only
  split
  · exact h.same rfl
  · exact confirmWake_ratesKept _ _ h
  · exact confirmWake_ratesKept _ _ (h.same rfl)

theorem sampleInputs_ratesKept (pins : PinLevels) (h : RatesKept a s) : RatesKept a (s.sampleInputs pins) := by
  unfold State.sampleInputs
  split
  · split
    · exact sampleInWindow_ratesKept pins _ h
    · exact h
  · exact ratesKept_foldl (fun _ => sampleInput_ratesKept pins) allInputs h

theorem goToSleep_ratesKept (h : RatesKept a s) : RatesKept a s.goToSleep :=
  have discarded {s : State} (h : RatesKept a s) : RatesKept a { s with
      bank := { s.bank with intervalOpen := false, averagesReady := false }
      supply := { s.supply with samples := [] }
      op := { s.op with window := none } } := h.same rfl
  have cleared := ratesKept_foldl (f := State.clearMeas) (fun _ _ h => h.same rfl) allChans (enterState_ratesKept .sleep h)
  discarded (mapGauges_ratesKept (fun x => { x with samples := [] }) cleared)

theorem backToWatch_ratesKept (h : RatesKept a s) : RatesKept a s.backToWatch :=
  have resumed : RatesKept a s.resumeSampling := h.same rfl
  settle_ratesKept (enterState_ratesKept .watch resumed)

theorem deliverAsleep_ratesKept (i : InputId) (h : RatesKept a s) : RatesKept a (s.deliverAsleep i) :=
  have handed := levelHanded_ratesKept i true h
  ratesKept_ite (backToWatch_ratesKept handed) (settle_ratesKept handed)

theorem withResolver_ratesKept (h : RatesKept a s) (x : Resolver) : RatesKept a { s with resolver := x } := h.same rfl

theorem expireScene_ratesKept (id : Byte) (h : RatesKept a s) : RatesKept a (s.expireScene id) :=
  have dropped := (withResolver_ratesKept h _).raise
  ratesKept_ite (closeWindow_ratesKept _ (backToWatch_ratesKept dropped)) (settle_ratesKept dropped)

theorem tick_ratesKept (h : RatesKept a s) : RatesKept a s.tick :=
  have flashed : RatesKept a { s with flash := { s.flash with timer := tickTimer s.flash.timer } } := h.same rfl
  flashed.same rfl

/-! ### The body link -/

theorem frameHeard_ratesKept (h : RatesKept a s) : RatesKept a s.frameHeard :=
  have heard : RatesKept a { s with op :=
      { s.op with silenceTimer := 0, linkSilent := false, silenceCount := 0, limpLighting := false } } := h.same rfl
  ratesKept_ite (settle_ratesKept heard) heard

theorem withLink_ratesKept (h : RatesKept a s) (l : Link) : RatesKept a { s with link := l } := h.same rfl

theorem assemble_ratesKept (b : Byte) (h : RatesKept a s) : RatesKept a (s.assemble b) := by
  unfold State.assemble
  split
  · exact ratesKept_ite (h.same rfl) h
  · exact ratesKept_ite (h.same rfl) (h.same rfl)
  · exact h.same rfl
  · exact ratesKept_ite (h.same rfl) (h.same rfl)
  · exact ratesKept_ite (withLink_ratesKept (frameHeard_ratesKept (withLink_ratesKept h _)) _) (h.same rfl)

theorem receive_ratesKept (b : Byte) (parity stop : Bool) (h : RatesKept a s) : RatesKept a (s.receive b parity stop) :=
  ratesKept_ite h (ratesKept_ite (assemble_ratesKept b h) (h.same rfl))

theorem takeUnknown_ratesKept (h : RatesKept a s) : RatesKept a s.takeUnknown := by
  unfold State.takeUnknown
  split
  · exact h
  · exact ratesKept_ite (h.same rfl) h

theorem rxWakes_ratesKept (h : RatesKept a s) : RatesKept a s.rxWakes :=
  closeWindow_ratesKept _ (settle_ratesKept (wakeTo_ratesKept .park .rx (withLink_ratesKept h _)))

theorem goSilent_ratesKept (h : RatesKept a s) : RatesKept a s.goSilent :=
  have silent : RatesKept a { s with op := { s.op with linkSilent := true, linkSilentLatch := true } } := h.same rfl
  have cancelled : RatesKept a { s with
      op := { s.op with linkSilent := true, linkSilentLatch := true }
      flash := { s.flash with hostSide := .none } } := silent.same rfl
  cancelled.raise

/-! ### START, STOP and FAULTCLR -/

theorem startPart_ratesKept (h : RatesKept a s) : RatesKept a s.startPart :=
  have fields : RatesKept a s.startFields := h.same rfl
  have mapped := mapChanged_ratesKept s.serving (enterState_ratesKept s.startState fields)
  have marked := ratesKept_foldl (f := State.markEntered) (fun _ _ h => ratesKept_ite (h.same rfl) h) allLamps mapped
  settle_ratesKept (examine_ratesKept _ marked)

theorem stopFields_ratesKept (h : RatesKept a s) : RatesKept a s.stopFields :=
  have cancelled : RatesKept a { s with flash := { s.flash with hostSide := .none, hostHazard := false } } := h.same rfl
  cancelled.same rfl

theorem stopPart_ratesKept (h : RatesKept a s) : RatesKept a s.stopPart :=
  have cleared := clearAllLamps_ratesKept (releaseWhere_ratesKept (fun _ => true) h)
  settle_ratesKept (mapChanged_ratesKept s.serving (enterState_ratesKept .limp (stopFields_ratesKept cleared)))

theorem stopInLimp_ratesKept (h : RatesKept a s) : RatesKept a s.stopInLimp :=
  have stopped {s : State} (h : RatesKept a s) : RatesKept a { s with op :=
      { s.op with silenceCount := 0, limpLighting := false } } := h.same rfl
  settle_ratesKept (stopped (clearAllLamps_ratesKept h))

theorem clearNamedLamp_ratesKept (ch : LampId) (h : RatesKept a s) : RatesKept a (s.clearNamedLamp ch) :=
  have cleared {s : State} (h : RatesKept a s) : RatesKept a (s.clearLamp ch) := h.same rfl
  ratesKept_ite (examine_ratesKept _ (settle_ratesKept (cleared (releaseWhere_ratesKept _ h)))) h

theorem clearEverything_ratesKept (h : RatesKept a s) : RatesKept a s.clearEverything :=
  have lifted {s : State} (h : RatesKept a s) : RatesKept a { s with
      fan := s.fan.clearLockout
      gauges := { s.gauges with gauges := s.gauges.gauges.map Gauge.clearFault } } := h.same rfl
  lifted (clearAllLamps_ratesKept (releaseWhere_ratesKept _ h))

theorem clearTarget_ratesKept (n : Nat) (h : RatesKept a s) : RatesKept a (s.clearTarget n) := by
  unfold State.clearTarget
  split
  · exact clearEverything_ratesKept h
  · split
    · exact clearNamedLamp_ratesKept _ h
    · exact ratesKept_ite (h.same rfl) (ratesKept_ite (h.same rfl) (h.same rfl))

/-! ### Requests -/

/-- The owner of a request keeps the rate and the link timeout, whatever the payload. -/
def OwnerKeepsRates (owner : List Byte → State → Answer) : Prop :=
  ∀ (a : State) (p : List Byte) (s : State), RatesKept a s → RatesKept a (owner p s).state

theorem request_ratesKept {k : ReqKind} {owner : List Byte → State → Answer} (keeps : OwnerKeepsRates owner)
    (h : RatesKept a s) : RatesKept a (State.request k owner s) := by
  obtain ⟨l, e | ⟨p, rest, e⟩⟩ := request_eq k owner s <;> rw [e]
  · exact h.same rfl
  · exact withLink_ratesKept (keeps a p _ (withLink_ratesKept h _)) l

theorem answer_ratesKept {code : ResultCode} {data : List Byte} (h : RatesKept a s) :
    RatesKept a (Answer.state { state := s, code := code, data := data }) := h

theorem inLimp_ratesKept {owner : List Byte → State → Answer} (keeps : OwnerKeepsRates owner) :
    OwnerKeepsRates (inLimp owner) := by
  intro a p s h
  unfold inLimp
  split
  · exact keeps a p s h
  · exact h

theorem notInLimp_ratesKept {owner : List Byte → State → Answer} (keeps : OwnerKeepsRates owner) :
    OwnerKeepsRates (notInLimp owner) := by
  intro a p s h
  unfold notInLimp
  split
  · exact h
  · exact keeps a p s h

/-! #### Control and demands -/

theorem startOwner_ratesKept : OwnerKeepsRates startOwner := by
  intro a p s h
  unfold startOwner
  split
  · exact h
  · split
    · exact h
    · exact answer_ratesKept (startPart_ratesKept h)

theorem stopOwner_ratesKept : OwnerKeepsRates stopOwner := by
  intro a p s h
  unfold stopOwner
  split
  · exact h
  · exact answer_ratesKept (stopInLimp_ratesKept h)
  all_goals exact answer_ratesKept (stopPart_ratesKept h)

theorem sleepOwner_ratesKept : OwnerKeepsRates sleepOwner := by
  intro a p s h
  unfold sleepOwner
  split
  case h_3 => exact answer_ratesKept (settle_ratesKept (enterState_ratesKept .watch (h.same rfl)))
  all_goals exact h

theorem wakeOwner_ratesKept : OwnerKeepsRates wakeOwner := by
  intro a p s h
  unfold wakeOwner
  split
  case h_2 => exact answer_ratesKept (settle_ratesKept (wakeTo_ratesKept .park .request h))
  all_goals exact h

theorem setBase_ratesKept (f : Fn) (v : Nat) (h : RatesKept a s) : RatesKept a (s.setBase f v) := h.same rfl

theorem fnsetOwner_ratesKept : OwnerKeepsRates fnsetOwner := by
  intro a p s h
  unfold fnsetOwner
  split
  · exact h
  · split
    · exact h
    · exact answer_ratesKept (settle_ratesKept (setBase_ratesKept _ _ h))

theorem fnmultiOwner_ratesKept : OwnerKeepsRates fnmultiOwner := by
  intro a p s h
  unfold fnmultiOwner
  split
  · exact h
  · exact answer_ratesKept (settle_ratesKept (ratesKept_foldl (fun _ _ h => setBase_ratesKept _ _ h) _ h))

/-- TURN stores the side; where that begins an ON phase, it is at the stored rate (R85, R73). -/
theorem turnOwner_ratesKept : OwnerKeepsRates turnOwner := by
  intro a p s h
  unfold turnOwner
  split
  · exact h
  · exact answer_ratesKept (settle_ratesKept (h.same rfl))

theorem hazOwner_ratesKept : OwnerKeepsRates hazOwner := by
  intro a p s h
  unfold hazOwner
  split
  · exact h
  · exact answer_ratesKept (settle_ratesKept (h.same rfl))

theorem sceneaddOwner_ratesKept : OwnerKeepsRates sceneaddOwner := by
  intro a p s h
  unfold sceneaddOwner
  split
  · exact h
  · exact answer_ratesKept (settle_ratesKept (withResolver_ratesKept h _))

theorem scenedropOwner_ratesKept : OwnerKeepsRates scenedropOwner := by
  intro a p s h
  unfold scenedropOwner
  split
  · exact answer_ratesKept (settle_ratesKept (withResolver_ratesKept h _))
  · exact h

theorem faultclrOwner_ratesKept : OwnerKeepsRates faultclrOwner := by
  intro a p s h
  unfold faultclrOwner
  split
  · exact h
  · exact answer_ratesKept (settle_ratesKept (clearTarget_ratesKept _ h))

theorem gaugetestOwner_ratesKept : OwnerKeepsRates gaugetestOwner := by
  intro a p s h
  unfold gaugetestOwner
  split
  · exact h
  · split
    · exact h
    · split
      · exact h
      · exact answer_ratesKept (h.same rfl)

/-! #### Reads and reports -/

theorem chreadOwner_ratesKept : OwnerKeepsRates chreadOwner := by
  intro a p s h
  unfold chreadOwner
  split <;> exact h

theorem fnreadOwner_ratesKept : OwnerKeepsRates fnreadOwner := by
  intro a p s h
  unfold fnreadOwner
  split <;> exact h

theorem supplyreadOwner_ratesKept : OwnerKeepsRates supplyreadOwner := by
  intro a p s h
  unfold supplyreadOwner
  split <;> exact h

theorem fanreadOwner_ratesKept : OwnerKeepsRates fanreadOwner := by
  intro a p s h
  unfold fanreadOwner
  split <;> exact h

theorem gaugereadOwner_ratesKept : OwnerKeepsRates gaugereadOwner := by
  intro a p s h
  unfold gaugereadOwner
  split
  · exact h
  · split <;> exact h

theorem evmaskOwner_ratesKept : OwnerKeepsRates evmaskOwner := by
  intro a p s h
  unfold evmaskOwner
  split
  · exact h
  · exact answer_ratesKept (h.same rfl)

/-! #### Configuration -/

theorem chcfgOwner_ratesKept : OwnerKeepsRates chcfgOwner := by
  intro a p s h
  unfold chcfgOwner
  split
  · exact h
  · split
    · exact h
    · exact answer_ratesKept (h.same rfl)

theorem subcfgOwner_ratesKept : OwnerKeepsRates subcfgOwner := by
  intro a p s h
  unfold subcfgOwner
  split
  · split
    · exact answer_ratesKept (h.same rfl)
    · split
      · split
        · exact answer_ratesKept (h.same rfl)
        · exact h
      · exact h
  · exact h

theorem fncfgOwner_ratesKept : OwnerKeepsRates fncfgOwner := by
  intro a p s h
  unfold fncfgOwner
  split
  · exact h
  · split
    · exact h
    · exact answer_ratesKept (h.same rfl)

theorem gaugecfgOwner_ratesKept : OwnerKeepsRates gaugecfgOwner := by
  intro a p s h
  unfold gaugecfgOwner
  split
  · exact answer_ratesKept (h.same rfl)
  · exact h

theorem curvecfgOwner_ratesKept : OwnerKeepsRates curvecfgOwner := by
  intro a p s h
  unfold curvecfgOwner
  split
  · exact h
  · dsimp only
    split
    · exact h
    · split
      · exact h
      · exact answer_ratesKept (h.same rfl)

theorem supplycfgOwner_ratesKept : OwnerKeepsRates supplycfgOwner := by
  intro a p s h
  unfold supplycfgOwner
  split
  · exact h
  · dsimp only
    split
    · exact h
    · exact answer_ratesKept (h.same rfl)

theorem inputcfgOwner_ratesKept : OwnerKeepsRates inputcfgOwner := by
  intro a p s h
  unfold inputcfgOwner
  split
  · exact answer_ratesKept (h.same rfl)
  · exact h

/-! ### Every command -/

/-- A command on state `s` keeps the rate and the link timeout of `s`. -/
def NextKeepsRates (s : State) (o : Host.Outcome State Fault Refusal) : Prop := ∀ t, o = .next t → RatesKept s t

theorem next_keepsRates {t : State} (h : RatesKept s t) : NextKeepsRates s (.next t) := by
  rintro _ ⟨⟩
  exact h

/-- A command that acts, or waits for the end of a reset. -/
theorem live_keepsRates {k : State → State} (keeps : RatesKept s s → RatesKept s (k s)) :
    NextKeepsRates s (s.live k) := by
  intro t h
  rcases eq_or_of_live_next h with rfl | rfl
  · exact RatesKept.refl _
  · exact keeps (RatesKept.refl s)

/-- A command that acts only on a condition. -/
theorem liveIf_keepsRates {c : State → Prop} [∀ s, Decidable (c s)] {k : State → State}
    (keeps : RatesKept s s → RatesKept s (k s)) : NextKeepsRates s (s.live fun s => if c s then k s else s) :=
  live_keepsRates fun h => ratesKept_ite (keeps h) h

theorem liveRequest_keepsRates {k : ReqKind} {owner : List Byte → State → Answer} (keeps : OwnerKeepsRates owner) :
    NextKeepsRates s (s.live (State.request k owner)) :=
  live_keepsRates (request_ratesKept keeps)

theorem execInputLevelChange_keepsRates (i : InputId) : NextKeepsRates s (execInputLevelChange i s) :=
  live_keepsRates fun h => ratesKept_ite (deliverLevel_ratesKept i _ h) (ratesKept_ite (deliverAsleep_ratesKept i h) h)

theorem execWakeConfirmed_keepsRates (i : WakeInput) (pins : PinLevels) :
    NextKeepsRates s (execWakeConfirmed i pins s) := by
  refine live_keepsRates fun h => ratesKept_ite ?_ h
  split
  · exact ratesKept_ite (confirmWake_ratesKept i _ h) h
  · exact h

/-- Every command but the release of a reset, FLASHCFG and LINKCFG keeps the rate and the link timeout, and gives an ON phase that
it starts the half-period of the rate (R69, R73). -/
theorem exec_keepsRates (c : Instr) (s : State) (release : ∀ polOpen, c ≠ .resetRelease polOpen) (flash : c ≠ .flashcfg)
    (link : c ≠ .linkcfg) : NextKeepsRates s (exec c s) := by
  unfold exec
  cases c with
  | flashcfg => exact absurd rfl flash
  | linkcfg => exact absurd rfl link
  | resetRelease polOpen => exact absurd rfl (release polOpen)
  | ident => exact liveRequest_keepsRates fun _ _ _ h => h
  | status => exact liveRequest_keepsRates fun _ _ _ h => h.same rfl
  | cause => exact liveRequest_keepsRates fun _ _ _ h => h.same rfl
  | evfetch => exact liveRequest_keepsRates fun _ _ _ h => h.same rfl
  | evmask => exact liveRequest_keepsRates evmaskOwner_ratesKept
  | start => exact liveRequest_keepsRates startOwner_ratesKept
  | stop => exact liveRequest_keepsRates stopOwner_ratesKept
  | sleep => exact liveRequest_keepsRates sleepOwner_ratesKept
  | wake => exact liveRequest_keepsRates wakeOwner_ratesKept
  | restart => exact liveRequest_keepsRates fun _ _ _ h => h.same rfl
  | fnset => exact liveRequest_keepsRates (notInLimp_ratesKept fnsetOwner_ratesKept)
  | fnmulti => exact liveRequest_keepsRates (notInLimp_ratesKept fnmultiOwner_ratesKept)
  | turn => exact liveRequest_keepsRates (notInLimp_ratesKept turnOwner_ratesKept)
  | haz => exact liveRequest_keepsRates (notInLimp_ratesKept hazOwner_ratesKept)
  | sceneadd => exact liveRequest_keepsRates (notInLimp_ratesKept sceneaddOwner_ratesKept)
  | scenedrop => exact liveRequest_keepsRates (notInLimp_ratesKept scenedropOwner_ratesKept)
  | faultclr => exact liveRequest_keepsRates (notInLimp_ratesKept faultclrOwner_ratesKept)
  | gaugetest => exact liveRequest_keepsRates gaugetestOwner_ratesKept
  | chread => exact liveRequest_keepsRates chreadOwner_ratesKept
  | fnread => exact liveRequest_keepsRates fnreadOwner_ratesKept
  | sceneread => exact liveRequest_keepsRates fun _ _ _ h => h
  | supplyread => exact liveRequest_keepsRates supplyreadOwner_ratesKept
  | fanread => exact liveRequest_keepsRates fanreadOwner_ratesKept
  | gaugeread => exact liveRequest_keepsRates gaugereadOwner_ratesKept
  | chcfg => exact liveRequest_keepsRates (inLimp_ratesKept chcfgOwner_ratesKept)
  | subcfg => exact liveRequest_keepsRates (inLimp_ratesKept subcfgOwner_ratesKept)
  | fncfg => exact liveRequest_keepsRates (inLimp_ratesKept fncfgOwner_ratesKept)
  | fancfg => exact liveRequest_keepsRates (inLimp_ratesKept fun _ _ _ h => h.same rfl)
  | gaugecfg => exact liveRequest_keepsRates (inLimp_ratesKept gaugecfgOwner_ratesKept)
  | curvecfg => exact liveRequest_keepsRates (inLimp_ratesKept curvecfgOwner_ratesKept)
  | supplycfg => exact liveRequest_keepsRates (inLimp_ratesKept supplycfgOwner_ratesKept)
  | inputcfg => exact liveRequest_keepsRates (inLimp_ratesKept inputcfgOwner_ratesKept)
  | unknownKind => exact live_keepsRates takeUnknown_ratesKept
  | rxByte data parity stop => exact live_keepsRates (receive_ratesKept data parity stop)
  | gapTimeout => exact live_keepsRates fun h => h.same rfl
  | replySent => exact live_keepsRates fun h => h.same rfl
  | restartReset => exact liveIf_keepsRates fun h => h.same rfl
  | powerOn | brownout | resetLine => exact next_keepsRates ((RatesKept.refl s).same rfl)
  | currentSample readings => exact live_keepsRates (currentSample_ratesKept readings)
  | channelAverage => exact live_keepsRates averageMark_ratesKept
  | trip ch milliamps => exact liveIf_keepsRates fun h => settle_ratesKept (lampSample_ratesKept ch milliamps h)
  | inrushEnd ch => exact liveIf_keepsRates fun h => arbitrate_ratesKept (h.same rfl)
  | retryExpiry ch => exact liveIf_keepsRates fun h => arbitrate_ratesKept (h.same rfl)
  | tripForgiveness ch => exact liveIf_keepsRates fun h => h.same rfl
  | lampOutDecision ch milliamps =>
    exact liveIf_keepsRates fun h => settle_ratesKept (lampSample_ratesKept ch milliamps h)
  | fedDecision ch millivolts => exact liveIf_keepsRates (readBack_ratesKept ch millivolts)
  | onPhaseEnd => exact liveIf_keepsRates endOnPhase_ratesKept
  | offPhaseEnd => exact liveIf_keepsRates endOffPhase_ratesKept
  | kickEnd => exact liveIf_keepsRates fun h => arbitrate_ratesKept (withFan_ratesKept h _)
  | rampTimerExpiry => exact liveIf_keepsRates fun h => h.same rfl
  | stallFound milliamps => exact liveIf_keepsRates fun h => arbitrate_ratesKept (fanSample_ratesKept milliamps h)
  | stallWaitEnd => exact liveIf_keepsRates fun h => arbitrate_ratesKept (withFan_ratesKept h _)
  | fanForgiveness => exact liveIf_keepsRates fun h => h.same rfl
  | senseSample g code => exact liveIf_keepsRates fun h => h.same rfl
  | gaugeUpdate => exact live_keepsRates gaugeMark_ratesKept
  | senderStatusChange g => exact liveIf_keepsRates gaugeMark_ratesKept
  | gaugeOutputShort g milliamps => exact liveIf_keepsRates (gaugeSample_ratesKept g milliamps)
  | testComplete => exact liveIf_keepsRates gaugeMark_ratesKept
  | supplySample bat chg => exact live_keepsRates (supplySampled_ratesKept bat chg)
  | holdEnd bat chg => exact liveIf_keepsRates (supplySampled_ratesKept bat chg)
  | supplyEvaluation => exact live_keepsRates supplyMark_ratesKept
  | chargeChange => exact liveIf_keepsRates supplyMark_ratesKept
  | voltageLevelChange => exact liveIf_keepsRates supplyMark_ratesKept
  | inputSample pins => exact live_keepsRates (sampleInputs_ratesKept pins)
  | inputLevelChange i => exact execInputLevelChange_keepsRates i
  | enterSleep => exact liveIf_keepsRates goToSleep_ratesKept
  | sleepEdge i => exact liveIf_keepsRates fun h => h.same rfl
  | wakeConfirmed i pins => exact execWakeConfirmed_keepsRates i pins
  | windowTimeout => exact liveIf_keepsRates fun h => h.same rfl
  | rxWake => exact liveIf_keepsRates rxWakes_ratesKept
  | receiverRestart => exact liveIf_keepsRates fun h => h.same rfl
  | sceneExpiry id => exact liveIf_keepsRates (expireScene_ratesKept id)
  | dwellEnd => exact liveIf_keepsRates fun h => settle_ratesKept (withResolver_ratesKept h _)
  | fadeStep => exact liveIf_keepsRates fun h => settle_ratesKept (withResolver_ratesKept h _)
  | linkTimeout => exact liveIf_keepsRates goSilent_ratesKept
  | limpLightingBegin => exact liveIf_keepsRates fun h => settle_ratesKept (h.same rfl)
  | timeCountTick => exact live_keepsRates tick_ratesKept

/-- An ON phase found in the later state and not in the earlier one has the half-period of the rate (R69, R73). -/
theorem RatesKept.half_of_start {t : State} (h : RatesKept s t) (idle : s.flash.phase ≠ .on) (on : t.flash.phase = .on) :
    t.flash.half = if t.flash.fast then 10 * (1500 / s.flash.rate) else 10 * (3000 / s.flash.rate) :=
  (h.half on).resolve_left fun underWay => idle underWay.1

/-- Settles O34: FLASHCFG and LINKCFG by what their requests answer, every other command by what its operations keep. -/
theorem flashRateAndLinkTimeoutAreStored : Obligations.FlashRateAndLinkTimeoutAreStored := by
  refine ⟨fun s rest b h => ⟨fun limp => ?_, configRequest_locked (k := .flashcfg) h rfl⟩,
    fun s rest b h => ⟨fun limp => ?_, configRequest_locked (k := .linkcfg) h rfl⟩,
    fun c s t e release => ?_, fun s polOpen => ⟨rfl, rfl⟩⟩
  · rw [exec_flashcfg_limp h limp, clampedCode_bne, clamp_eq_ite (by decide)]
    rfl
  · rw [exec_linkcfg_limp h limp, clampedCode_bne, linkTimeoutOf_eq_ite]
  · by_cases flash : c = .flashcfg
    · subst flash
      obtain ⟨op, phase, -⟩ := flashcfg_keeps e
      exact ⟨fun no => absurd rfl no, fun _ => congrArg OpCtl.linkTimeout op,
        fun idle on => absurd (phase ▸ on) idle⟩
    by_cases link : c = .linkcfg
    · subst link
      have kept := linkcfg_keeps_flash e
      exact ⟨fun _ => congrArg Flash.rate kept, fun no => absurd rfl no, fun idle on => absurd (kept ▸ on) idle⟩
    have kept := exec_keepsRates c s release flash link t e
    exact ⟨fun _ => kept.rate, fun _ => kept.linkTimeout, kept.half_of_start⟩

end Sys2Proof.Machine
end

section
/-! PROOF. O15, the reply to IDENT (R170): its owner leaves the state alone and gives the four values as five bytes, so the
rule of a reply alone applies. -/

namespace Sys2Proof.Machine

/-- The fields of IDENT's reply, byte by byte (R170, R181). -/
theorem identOwner_eq (p : List Byte) (s : State) :
    identOwner p s = { state := s, code := .ok, data := [0x48, 0x26, 0x40, 3, 1] } := by
  have fields : b1 0x48 ++ b2 0x2640 ++ b1 3 ++ b1 1 = [0x48, 0x26, 0x40, 3, 1] := by decide
  rw [identOwner, fields]

theorem exec_ident (s : State) : exec .ident s = s.live (State.request .ident identOwner) := rfl

/-- Settles O15: IDENT is taken, and its reply is all that changes. -/
theorem identAnswers : Obligations.IdentAnswers := by
  intro s rest taken
  have length : ReqKind.lengthOk .ident ([] : List Byte).length = true := rfl
  rw [exec_ident]
  exact request_reply taken length (identOwner_eq [] (s.popInbound rest))

end Sys2Proof.Machine
end

section
/-! PROOF. O11, how an event meets the queue (R173, R174): the invariant's order cuts the queue into an urgent and an ordinary
lane, an urgent record's place is where they meet, and each case of the insertion has its equation. -/

namespace Sys2Proof.Machine

/-! ### The two lanes of the queue -/

/-- The queue is an urgent lane followed by an ordinary one (R172). -/
structure Lanes (q us os : List EventRec) : Prop where
  split : q = us ++ os
  urgent : ∀ x ∈ us, x.kind.urgent = true
  ordinary : ∀ x ∈ os, x.kind.urgent = false

theorem exists_lanes_of_order {q : List EventRec} (order : q.Pairwise fun a b => b.kind.urgent = true → a.kind.urgent = true) :
    ∃ us os, Lanes q us os := by
  induction q with
  | nil => exact ⟨[], [], rfl, by simp, by simp⟩
  | cons x q ih =>
    obtain ⟨first, order⟩ := List.pairwise_cons.mp order
    by_cases urgent : x.kind.urgent = true
    · obtain ⟨us, os, lanes⟩ := ih order
      exact ⟨x :: us, os, congrArg (x :: ·) lanes.split, List.forall_mem_cons.mpr ⟨urgent, lanes.urgent⟩, lanes.ordinary⟩
    · have others : ∀ y ∈ q, y.kind.urgent = false := fun y mem =>
        Bool.eq_false_iff.mpr fun u => urgent (first y mem u)
      exact ⟨[], x :: q, rfl, by simp, List.forall_mem_cons.mpr ⟨Bool.eq_false_iff.mpr urgent, others⟩⟩

theorem EventsOk.exists_lanes {s : State} (h : EventsOk s) : ∃ us os, Lanes s.report.events us os := by
  obtain ⟨-, order, -⟩ := h
  exact exists_lanes_of_order (order.imp And.left)

theorem placeEvent_ordinary {r : EventRec} (ordinary : r.kind.urgent = false) (q : List EventRec) :
    placeEvent q r = q ++ [r] := by
  simp [placeEvent, ordinary]

/-- An urgent record's place is between the lanes: the two filters give them back. -/
theorem Lanes.placeEvent_urgent {q us os : List EventRec} (lanes : Lanes q us os) {r : EventRec}
    (urgent : r.kind.urgent = true) : placeEvent q r = us ++ r :: os := by
  obtain ⟨rfl, allUrgent, allOrdinary⟩ := lanes
  have urgents : (us ++ os).filter (fun x => x.kind.urgent) = us := by
    rw [List.filter_append, List.filter_eq_self.mpr allUrgent, List.filter_eq_nil_iff.mpr (by simpa using allOrdinary),
      List.append_nil]
  have ordinaries : (us ++ os).filter (fun x => !x.kind.urgent) = os := by
    rw [List.filter_append, List.filter_eq_nil_iff.mpr (by simpa using allUrgent),
      List.filter_eq_self.mpr (by simpa using allOrdinary), List.nil_append]
  rw [placeEvent, if_pos urgent, urgents, ordinaries]

/-- Where an ordinary record stands in the queue, the newest one is the record at the tail. -/
theorem Lanes.exists_tail {q us os : List EventRec} (lanes : Lanes q us os) (mixed : ∃ x ∈ q, x.kind.urgent = false) :
    ∃ older y, os = older ++ [y] ∧ y.kind.urgent = false ∧ Lanes q.dropLast us older := by
  obtain ⟨rfl, allUrgent, allOrdinary⟩ := lanes
  obtain rfl | ⟨older, y, rfl⟩ := List.eq_nil_or_concat os
  · obtain ⟨x, mem, ordinary⟩ := mixed
    rw [List.append_nil] at mem
    exact absurd (allUrgent x mem) (by simp [ordinary])
  · refine ⟨older, y, List.concat_eq_append, allOrdinary y (by simp), ?_, allUrgent, fun x mem => allOrdinary x (by simp [mem])⟩
    rw [List.concat_eq_append, ← List.append_assoc, List.dropLast_concat]

/-! ### One equation for each case of the insertion -/

theorem EventRec.same_iff {a b : EventRec} : a.same b = true ↔ a.kind = b.kind ∧ a.subject = b.subject := by
  simp [EventRec.same]

/-- A record of the new one's kind and subject stands in the queue (R173 step 2). -/
abbrev KnownIn (q : List EventRec) (r : EventRec) : Prop := ∃ x ∈ q, x.kind = r.kind ∧ x.subject = r.subject

theorem any_same_iff {q : List EventRec} {r : EventRec} : q.any (fun x => x.same r) = true ↔ KnownIn q r := by
  simp [EventRec.same_iff]

section
variable {q : List EventRec} {r : EventRec}

theorem insertEvent_known (known : KnownIn q r) :
    insertEvent q r = (q.map fun x => if x.kind = r.kind ∧ x.subject = r.subject then x.coalesce r else x, false) := by
  rw [insertEvent, if_pos (any_same_iff.mpr known)]
  simp only [EventRec.same_iff]

theorem insertEvent_room (new : ¬ KnownIn q r) (room : q.length < 16) : insertEvent q r = (placeEvent q r, false) := by
  rw [insertEvent, if_neg (mt any_same_iff.mp new), if_pos room]

theorem insertEvent_lost (new : ¬ KnownIn q r) (full : q.length = 16)
    (lost : r.kind.urgent = false ∨ ∀ x ∈ q, x.kind.urgent = true) : insertEvent q r = (q, true) := by
  rw [insertEvent, if_neg (mt any_same_iff.mp new), if_neg (by omega)]
  obtain ordinary | allUrgent := lost
  · rw [if_pos (by simp [ordinary])]
  · rw [if_pos (List.all_eq_true.mpr allUrgent), ite_self]

theorem insertEvent_displaces (new : ¬ KnownIn q r) (full : q.length = 16) (urgent : r.kind.urgent = true)
    (mixed : ∃ x ∈ q, x.kind.urgent = false) : insertEvent q r = (placeEvent q.dropLast r, true) := by
  have notAll : ¬ q.all (fun x => x.kind.urgent) = true := by simpa using mixed
  rw [insertEvent, if_neg (mt any_same_iff.mp new), if_neg (by omega), if_neg (by simp [urgent]), if_neg notAll]

end

/-! ### Raising an event -/

/-- An enabled event's record goes through the insertion, and a loss sets the overflow flag (R173, R174). -/
theorem raise_of_insert {s : State} {k : EventKind} {subject detail : Nat} {events : List EventRec} {lost : Bool}
    (enabled : s.eventEnabled k = true) (fits : detail ≤ 65535)
    (inserted : insertEvent s.report.events
      { kind := k, subject := subject, detail := detail, count := 1, time := s.report.timeCount } = (events, lost)) :
    s.raise k subject detail =
      { s with report := { s.report with events := events, overflow := if lost then true else s.report.overflow } } := by
  simp only [State.raise, if_pos enabled, Nat.min_eq_right fits, inserted]
  cases lost <;> simp

/-- Settles O11: the insertion's equations, with the lanes of the queue as the parts between which an urgent record stands. -/
theorem eventsEnterTheQueue : Obligations.EventsEnterTheQueue := by
  intro s k subject detail ok fits
  refine ⟨fun masked => raise_masked masked subject detail, fun enabled => ⟨fun known => ?_, fun new room ordinary => ?_,
    fun new room urgent => ?_, fun new full lost => ?_, fun new full urgent mixed => ?_⟩⟩
  · exact raise_of_insert enabled fits (insertEvent_known known)
  · exact raise_of_insert enabled fits ((insertEvent_room new room).trans (by rw [placeEvent_ordinary ordinary]))
  · obtain ⟨us, os, lanes⟩ := ok.exists_lanes
    exact ⟨us, os, lanes.split, lanes.urgent, lanes.ordinary,
      raise_of_insert enabled fits ((insertEvent_room new room).trans (by rw [lanes.placeEvent_urgent urgent]))⟩
  · exact raise_of_insert enabled fits (insertEvent_lost new full lost)
  · obtain ⟨us, os, lanes⟩ := ok.exists_lanes
    obtain ⟨older, y, rfl, tail, rest⟩ := lanes.exists_tail mixed
    exact ⟨us, older, y, lanes.split.trans (List.append_assoc ..).symm, rest.urgent, rest.ordinary, tail,
      raise_of_insert enabled fits
        ((insertEvent_displaces new full urgent mixed).trans (by rw [rest.placeEvent_urgent urgent]))⟩

end Sys2Proof.Machine
end

section
/-! PROOF. The courses of the part: what any command can do, once for every invariant. A command is a chain of quiet writes, which no
invariant reads, and of deeds; a deed is a chain of moves that one settling of the cause ends, or one of a few writes that end
without settling (a timer with the arbiter's pass, a configuration in LIMP, the entry to SLEEP). -/

namespace Sys2Proof.Machine

/-! ### Quiet writes -/

/-- What a quiet write keeps of a lamp record: all but measurements, timers, counts and verdicts. -/
structure LampQuiet (c d : LampRec) : Prop where
  cfg : d.cfg = c.cfg
  setAside : d.setAside = c.setAside
  substituteFor : d.substituteFor = c.substituteFor
  state : d.state = c.state
  demand : d.demand = c.demand
  demandReason : d.demandReason = c.demandReason
  offReason : d.offReason = c.offReason
  granted : d.granted = c.granted
  entered : d.entered = c.entered

/-- What a quiet write keeps of the flash record: the rate, the half-period and the timer's value may change, and the host side request
may be cancelled. -/
structure FlashQuiet (f g : Flash) : Prop where
  phase : g.phase = f.phase
  active : g.active = f.active
  hazIn : g.hazIn = f.hazIn
  hostHazard : g.hostHazard = f.hostHazard
  fast : g.fast = f.fast
  timer : g.timer = none ↔ f.timer = none
  hostSide : g.hostSide = f.hostSide ∨ g.hostSide = .none

/-- What a quiet write keeps of the fan record: all but its timers and counts. -/
structure FanQuiet (f g : Fan) : Prop where
  state : g.state = f.state
  step : g.step = f.step
  target : g.target = f.target
  applied : g.applied = f.applied
  granted : g.granted = f.granted
  settings : g.settings = f.settings

/-- What a quiet write may do to a gauge in an operating state: RUN, TEST and OUTPUT_FAULT may follow one another but not begin from
OFF, and no duty appears in OFF, in OUTPUT_FAULT or while HOLD stands. -/
structure GaugeQuiet (o : OpState) (hold : Bool) (x y : Gauge) : Prop where
  enabled : o = .drive → y.cfg.enabled = true → x.cfg.enabled = true
  runs : y.state = .run ∨ y.state = .test → x.state = .run ∨ x.state = .test
  off : y.state = .off → x.state = .off
  dark : y.state = .off ∨ y.state = .outputFault → y.d = 0 ∨ (y.d = x.d ∧ y.state = x.state)
  held : hold = true → x.d = 0 → y.d = 0

/-- What a quiet write keeps of the operating-state record. -/
structure OpQuiet (o p : OpCtl) : Prop where
  state : p.state = o.state
  configured : p.configured = o.configured
  sleepRequested : p.sleepRequested = o.sleepRequested
  limpLighting : p.limpLighting = o.limpLighting
  window : p.window ≠ none → o.window ≠ none ∨ o.state = .sleep

/-- What a scene gives the functions, whatever its lifetime. -/
def Scene.content (sc : Scene) : Byte × List (Fn × Nat) := (sc.id, sc.entries)

/-- The ranges of a supply record, as `SupplyOk` gives them. -/
def SupplyFits (x : Supply) : Prop :=
  x.account ≤ 36000 * x.settings.t3 + 1800000 ∧ (x.la ≤ 3 ∧ x.lv ≤ 2) ∧ x.l = max x.la x.lv

theorem supplyOk_iff {s : State} : SupplyOk s ↔ SupplyFits s.supply :=
  ⟨fun h => ⟨h.account, h.levels, h.highest⟩, fun ⟨account, levels, highest⟩ => ⟨account, levels, highest⟩⟩

/-- A write that no invariant reads. -/
structure Quiet (s t : State) : Prop where
  lamps : ∀ ch, LampQuiet (s.lamp ch) (t.lamp ch)
  subs : ∀ e, t.subEntry e = s.subEntry e
  queue : t.queue = s.queue
  fns : ∀ f, t.fnRec f = s.fnRec f
  scenes : t.resolver.scenes.map Scene.content = s.resolver.scenes.map Scene.content
  courtesyPhase : t.resolver.courtesy.phase = s.resolver.courtesy.phase
  courtesyLevel : t.resolver.courtesy.level = s.resolver.courtesy.level
  flash : FlashQuiet s.flash t.flash
  fan : FanQuiet s.fan t.fan
  gauges : ∀ g, GaugeQuiet s.op.state s.supply.hold (s.gauge g) (t.gauge g)
  hold : t.supply.hold = s.supply.hold
  shed : t.supply.l = s.supply.l
  supply : SupplyFits s.supply → SupplyFits t.supply
  levels : ∀ i, hostOnly i = false → t.level i = s.level i
  earth : t.inputs.earthPositive = s.inputs.earthPositive
  op : OpQuiet s.op t.op
  inbound : s.link.inbound.length ≤ 4 → t.link.inbound.length ≤ 4
  waiting : (s.link.shifting = none → s.link.waiting = none) → (t.link.shifting = none → t.link.waiting = none)
  events : EventsOk s → EventsOk t
  pending : t.pending = s.pending

theorem LampQuiet.refl (c : LampRec) : LampQuiet c c := by constructor <;> rfl

theorem LampQuiet.trans {a b c : LampRec} (h : LampQuiet a b) (k : LampQuiet b c) : LampQuiet a c where
  cfg := k.cfg.trans h.cfg
  setAside := k.setAside.trans h.setAside
  substituteFor := k.substituteFor.trans h.substituteFor
  state := k.state.trans h.state
  demand := k.demand.trans h.demand
  demandReason := k.demandReason.trans h.demandReason
  offReason := k.offReason.trans h.offReason
  granted := k.granted.trans h.granted
  entered := k.entered.trans h.entered

theorem FlashQuiet.refl (f : Flash) : FlashQuiet f f := by constructor <;> simp

theorem FlashQuiet.trans {a b c : Flash} (h : FlashQuiet a b) (k : FlashQuiet b c) : FlashQuiet a c where
  phase := k.phase.trans h.phase
  active := k.active.trans h.active
  hazIn := k.hazIn.trans h.hazIn
  hostHazard := k.hostHazard.trans h.hostHazard
  fast := k.fast.trans h.fast
  timer := k.timer.trans h.timer
  hostSide := k.hostSide.elim (fun e => e ▸ h.hostSide) .inr

theorem FanQuiet.refl (f : Fan) : FanQuiet f f := by constructor <;> rfl

theorem FanQuiet.trans {a b c : Fan} (h : FanQuiet a b) (k : FanQuiet b c) : FanQuiet a c where
  state := k.state.trans h.state
  step := k.step.trans h.step
  target := k.target.trans h.target
  applied := k.applied.trans h.applied
  granted := k.granted.trans h.granted
  settings := k.settings.trans h.settings

theorem GaugeQuiet.refl (o : OpState) (hold : Bool) (x : Gauge) : GaugeQuiet o hold x x := by constructor <;> simp

theorem GaugeQuiet.trans {o : OpState} {hold : Bool} {a b c : Gauge} (h : GaugeQuiet o hold a b) (k : GaugeQuiet o hold b c) :
    GaugeQuiet o hold a c where
  enabled := fun d e => h.enabled d (k.enabled d e)
  runs := fun e => h.runs (k.runs e)
  off := fun e => h.off (k.off e)
  dark := fun e => (k.dark e).elim .inl fun ⟨d, st⟩ => by
    rw [d, st]
    exact h.dark (st ▸ e)
  held := fun e d => k.held e (h.held e d)

theorem OpQuiet.refl (o : OpCtl) : OpQuiet o o := by constructor <;> simp +contextual

theorem OpQuiet.trans {a b c : OpCtl} (h : OpQuiet a b) (k : OpQuiet b c) : OpQuiet a c where
  state := k.state.trans h.state
  configured := k.configured.trans h.configured
  sleepRequested := k.sleepRequested.trans h.sleepRequested
  limpLighting := k.limpLighting.trans h.limpLighting
  window := fun e => (k.window e).elim h.window fun st => .inr (h.state ▸ st)

theorem Quiet.refl (s : State) : Quiet s s where
  lamps _ := .refl _
  subs _ := rfl
  queue := rfl
  fns _ := rfl
  scenes := rfl
  courtesyPhase := rfl
  courtesyLevel := rfl
  flash := .refl _
  fan := .refl _
  gauges _ := .refl ..
  hold := rfl
  shed := rfl
  supply := id
  levels _ _ := rfl
  earth := rfl
  op := .refl _
  inbound := id
  waiting := id
  events := id
  pending := rfl

theorem Quiet.trans {a b c : State} (h : Quiet a b) (k : Quiet b c) : Quiet a c where
  lamps ch := (h.lamps ch).trans (k.lamps ch)
  subs e := (k.subs e).trans (h.subs e)
  queue := k.queue.trans h.queue
  fns f := (k.fns f).trans (h.fns f)
  scenes := k.scenes.trans h.scenes
  courtesyPhase := k.courtesyPhase.trans h.courtesyPhase
  courtesyLevel := k.courtesyLevel.trans h.courtesyLevel
  flash := h.flash.trans k.flash
  fan := h.fan.trans k.fan
  gauges g := (h.gauges g).trans (by have := k.gauges g; rwa [h.op.state, h.hold] at this)
  hold := k.hold.trans h.hold
  shed := k.shed.trans h.shed
  supply e := k.supply (h.supply e)
  levels i e := (k.levels i e).trans (h.levels i e)
  earth := k.earth.trans h.earth
  op := h.op.trans k.op
  inbound e := k.inbound (h.inbound e)
  waiting e := k.waiting (h.waiting e)
  events e := k.events (h.events e)
  pending := k.pending.trans h.pending

theorem quiet_foldl {α : Type} {f : State → α → State} (h : ∀ s a, Quiet s (f s a)) (l : List α) (s : State) :
    Quiet s (l.foldl f s) := by
  induction l generalizing s with
  | nil => exact .refl s
  | cons a l ih => exact (h s a).trans (ih _)

theorem quiet_ite {c : Prop} [Decidable c] {s t u : State} (ht : c → Quiet s t) (hu : ¬ c → Quiet s u) :
    Quiet s (if c then t else u) := by
  split
  · exact ht ‹_›
  · exact hu ‹_›

/-! ### Raising an event keeps the queue's form (R173, R174) -/

/-- The form of an event queue (R172). -/
def EventListOk (q : List EventRec) : Prop :=
  q.length ≤ 16 ∧ q.Pairwise (fun a b => (b.kind.urgent = true → a.kind.urgent = true) ∧ a.same b = false) ∧
    ∀ r ∈ q, 1 ≤ r.count ∧ r.count ≤ 255 ∧ r.detail ≤ 65535

theorem eventsOk_iff {s : State} : EventsOk s ↔ EventListOk s.report.events := Iff.rfl

theorem EventListOk.sublist {q q' : List EventRec} (h : EventListOk q) (k : q'.Sublist q) : EventListOk q' :=
  ⟨k.length_le.trans h.1, h.2.1.sublist k, fun r hr => h.2.2 r (k.subset hr)⟩

theorem EventRec.coalesce_same (x r y : EventRec) : (x.coalesce r).same y = x.same y := rfl

theorem EventRec.same_coalesce (x r y : EventRec) : y.same (x.coalesce r) = y.same x := rfl

/-- Coalescing changes neither the kind nor the subject of a record. -/
theorem coalesced_listOk {q : List EventRec} {r : EventRec} (h : EventListOk q) (fits : r.detail ≤ 65535) :
    EventListOk (q.map (fun x => if x.same r then x.coalesce r else x)) := by
  obtain ⟨len, order, each⟩ := h
  refine ⟨by simpa using len, List.pairwise_map.mpr (order.imp fun {a b} h => ?_), fun y hy => ?_⟩
  · obtain ⟨urgent, other⟩ := h
    constructor
    · split <;> split <;> exact urgent
    · split <;> split <;> simpa [EventRec.coalesce_same, EventRec.same_coalesce] using other
  · obtain ⟨x, hx, rfl⟩ := List.mem_map.mp hy
    obtain ⟨low, high, detail⟩ := each x hx
    split
    · exact ⟨by simp [EventRec.coalesce], by simp [EventRec.coalesce], fits⟩
    · exact ⟨low, high, detail⟩

theorem EventRec.same_comm (a b : EventRec) : a.same b = b.same a := by
  simp only [EventRec.same, Bool.beq_comm (a := a.kind), Bool.beq_comm (a := a.subject)]

/-- A record of a new kind and subject, placed in a queue with room. -/
theorem placed_listOk {q : List EventRec} {r : EventRec} (h : EventListOk q) (room : q.length < 16)
    (new : ∀ x ∈ q, x.same r = false) (count : r.count = 1) (fits : r.detail ≤ 65535) : EventListOk (placeEvent q r) := by
  obtain ⟨_, order, each⟩ := h
  have valid : 1 ≤ r.count ∧ r.count ≤ 255 ∧ r.detail ≤ 65535 := ⟨by omega, by omega, fits⟩
  by_cases urgent : r.kind.urgent = true
  · have perm : (placeEvent q r).Perm (r :: q) := by
      rw [placeEvent, if_pos urgent]
      exact (List.perm_middle).trans (List.Perm.cons r (List.filter_append_perm _ q))
    refine ⟨by rw [perm.length_eq]; simpa using room, ?_, fun x hx => ?_⟩
    · rw [placeEvent, if_pos urgent, List.pairwise_append, List.pairwise_cons]
      refine ⟨order.filter _, ⟨fun b hb => ?_, order.filter _⟩, fun a ha b hb => ?_⟩
      · exact ⟨fun _ => urgent, by rw [EventRec.same_comm]; exact new b (List.mem_of_mem_filter hb)⟩
      · have au : a.kind.urgent = true := by simpa using (List.mem_filter.mp ha).2
        obtain rfl | hb := List.mem_cons.mp hb
        · exact ⟨fun _ => au, new a (List.mem_of_mem_filter ha)⟩
        · have bo : b.kind.urgent = false := by simpa using (List.mem_filter.mp hb).2
          refine ⟨fun _ => au, ?_⟩
          rw [EventRec.same, beq_false_of_ne (a := a.kind) (fun e => by rw [e, bo] at au; cases au)]
          rfl
    · obtain rfl | hx := List.mem_cons.mp (perm.mem_iff.mp hx)
      · exact valid
      · exact each x hx
  · rw [placeEvent, if_neg urgent]
    refine ⟨by simpa using room, List.pairwise_append.mpr ⟨order, by simp, fun a ha b hb => ?_⟩, fun x hx => ?_⟩
    · obtain rfl := List.mem_singleton.mp hb
      exact ⟨fun e => absurd e urgent, new a ha⟩
    · obtain hx | hx := List.mem_append.mp hx
      · exact each x hx
      · obtain rfl := List.mem_singleton.mp hx
        exact valid

theorem insertEvent_listOk {q : List EventRec} {r : EventRec} (h : EventListOk q) (count : r.count = 1)
    (fits : r.detail ≤ 65535) : EventListOk (insertEvent q r).1 := by
  unfold insertEvent
  split
  · exact coalesced_listOk h fits
  · rename_i known
    have new : ∀ x ∈ q, x.same r = false := by simpa using known
    split
    · exact placed_listOk h ‹_› new count fits
    · split
      · exact h
      · split
        · exact h
        · have shorter : q.dropLast.length < 16 := by
            have := h.1
            rw [List.length_dropLast]
            omega
          exact placed_listOk (h.sublist q.dropLast_sublist) shorter (fun x hx => new x (q.dropLast_sublist.subset hx)) count fits

theorem raise_eventsOk {s : State} (h : EventsOk s) (k : EventKind) (subject detail : Nat) :
    EventsOk (s.raise k subject detail) := by
  unfold State.raise
  split
  · exact insertEvent_listOk h rfl (Nat.min_le_left ..)
  · exact h

/-! ### The quiet writes by block -/

theorem quiet_report {s : State} {r : Report} (h : EventListOk s.report.events → EventListOk r.events) :
    Quiet s { s with report := r } :=
  { Quiet.refl s with events := h }

/-- Raising an event writes the report block alone (R173). -/
theorem raise_report (s : State) (k : EventKind) (subject detail : Nat) :
    s.raise k subject detail = { s with report := (s.raise k subject detail).report } := by
  unfold State.raise
  split <;> rfl

theorem quiet_raise (s : State) (k : EventKind) (subject detail : Nat) : Quiet s (s.raise k subject detail) := by
  rw [raise_report]
  exact quiet_report fun h => raise_eventsOk (s := s) h k subject detail

theorem quiet_link {s : State} {l : Link} (inbound : s.link.inbound.length ≤ 4 → l.inbound.length ≤ 4)
    (waiting : (s.link.shifting = none → s.link.waiting = none) → (l.shifting = none → l.waiting = none)) :
    Quiet s { s with link := l } :=
  { Quiet.refl s with inbound := inbound, waiting := waiting }

theorem quiet_setLamp {s : State} {ch : LampId} {c : LampRec} (h : LampQuiet (s.lamp ch) c) : Quiet s (s.setLamp ch c) := by
  refine { Quiet.refl s with lamps := fun d => ?_ }
  rw [State.lamp_setLamp]
  split
  · rename_i e; subst e; exact h
  · exact .refl _

theorem quiet_meas (s : State) (m : Vector Meas 17) (interval ready : Bool) :
    Quiet s { s with bank := { s.bank with meas := m, intervalOpen := interval, averagesReady := ready } } :=
  { Quiet.refl s with queue := rfl }

theorem quiet_setMeas (s : State) (ch : ChanId) (m : Meas) : Quiet s (s.setMeas ch m) := { Quiet.refl s with queue := rfl }

theorem quiet_setGauge {s : State} {g : GaugeId} {x : Gauge} (h : GaugeQuiet s.op.state s.supply.hold (s.gauge g) x) :
    Quiet s (s.setGauge g x) := by
  refine { Quiet.refl s with gauges := fun k => ?_ }
  rw [State.gauge_setGauge]
  split
  · rename_i e; subst e; exact h
  · exact .refl ..

theorem quiet_testStep (s : State) (n : Nat) : Quiet s { s with gauges := { s.gauges with testStep := n } } :=
  { Quiet.refl s with queue := rfl }

theorem gauge_mapGauges (s : State) (f : Gauge → Gauge) (n : Nat) (g : GaugeId) :
    ({ s with gauges := { gauges := s.gauges.gauges.map f, testStep := n } } : State).gauge g = f (s.gauge g) := by
  simp [State.gauge]

theorem quiet_mapGauges {s : State} {f : Gauge → Gauge} (n : Nat)
    (h : ∀ x, GaugeQuiet s.op.state s.supply.hold x (f x)) :
    Quiet s { s with gauges := { gauges := s.gauges.gauges.map f, testStep := n } } :=
  { Quiet.refl s with gauges := fun g => by rw [gauge_mapGauges]; exact h _ }

theorem quiet_fan {s : State} {f : Fan} (h : FanQuiet s.fan f) : Quiet s { s with fan := f } :=
  { Quiet.refl s with fan := h }

theorem quiet_flash {s : State} {f : Flash} (h : FlashQuiet s.flash f) : Quiet s { s with flash := f } :=
  { Quiet.refl s with flash := h }

theorem quiet_supply {s : State} {x : Supply} (hold : x.hold = s.supply.hold) (shed : x.l = s.supply.l)
    (fits : SupplyFits s.supply → SupplyFits x) : Quiet s { s with supply := x } :=
  { Quiet.refl s with hold := hold, shed := shed, supply := fits, gauges := fun _ => .refl .. }

theorem quiet_op {s : State} {o : OpCtl} (h : OpQuiet s.op o) : Quiet s { s with op := o } :=
  { Quiet.refl s with op := h, gauges := fun _ => .refl .. }

theorem quiet_freeCount (s : State) (n : Nat) : Quiet s { s with freeCount := n } := { Quiet.refl s with queue := rfl }

theorem quiet_setInRec {s : State} {i : InputId} {r : InRec} (h : hostOnly i = false → r.level = s.level i) :
    Quiet s (s.setInRec i r) := by
  refine { Quiet.refl s with levels := fun j hj => ?_ }
  by_cases e : j = i
  · subst e; rw [State.level, State.inRec_setInRec_same]; exact h hj
  · rw [State.level, State.inRec_setInRec_other _ _ e]; rfl

end Sys2Proof.Machine
end

section
/-! PROOF. The quiet operations: measurements, verdicts, timers, counts, reports, the link, and the gauges' updates. -/

namespace Sys2Proof.Machine

/-! ### The channel bank -/

theorem storeSample_quiet (s : State) (ch : ChanId) (sample duty : Nat) : Quiet s (s.storeSample ch sample duty) :=
  quiet_ite (fun _ => quiet_setMeas ..) (fun _ => quiet_setMeas ..)

theorem setLampOut_quiet (s : State) (ch : LampId) (out : Bool) (milliamps : Nat) : Quiet s (s.setLampOut ch out milliamps) :=
  quiet_ite (fun _ => .refl s) fun _ => (quiet_setLamp (by constructor <;> rfl)).trans (quiet_raise ..)

theorem judgeSample_quiet (s : State) (ch : LampId) (milliamps : Nat) : Quiet s (s.judgeSample ch milliamps) := by
  refine quiet_ite (fun _ => quiet_ite (fun _ => quiet_setLamp (by constructor <;> rfl)) fun _ => .refl s) fun _ =>
    quiet_ite (fun _ => ?_) fun _ => .refl s
  have kept : Quiet s (s.setLamp ch { s.lamp ch with
      lampRun := (s.lamp ch).lampRun.after (milliamps < lampOutThreshold (s.lamp ch).cfg) }) :=
    quiet_setLamp (by constructor <;> rfl)
  exact quiet_ite (fun _ => kept.trans (setLampOut_quiet ..)) fun _ => kept

/-- A sample of a lamp channel up to the trip that it may decide. -/
def State.lampJudged (s : State) (ch : LampId) (milliamps : Nat) : State :=
  (s.judgeSample ch milliamps).setLamp ch
    { (s.judgeSample ch milliamps).lamp ch with overCount := overCountAfter ch (s.lamp ch) milliamps }

theorem lampJudged_quiet (s : State) (ch : LampId) (milliamps : Nat) : Quiet s (s.lampJudged ch milliamps) :=
  (judgeSample_quiet ..).trans (quiet_setLamp (by constructor <;> rfl))

theorem lampActs_eq (s : State) (ch : LampId) (milliamps : Nat) :
    s.lampActs ch milliamps =
      if tripsOn ch (s.lamp ch) milliamps then (s.lampJudged ch milliamps).lampTrips ch milliamps
      else s.lampJudged ch milliamps := rfl

theorem readBack_quiet (s : State) (ch : LampId) (millivolts : Nat) : Quiet s (s.readBack ch millivolts) :=
  have kept := quiet_setLamp (by constructor <;> rfl)
  quiet_ite (fun _ => kept.trans (quiet_raise ..)) fun _ => kept

theorem averageMark_quiet (s : State) : Quiet s s.averageMark :=
  quiet_ite (fun _ => .refl s) fun _ => quiet_ite (fun _ => quiet_meas ..) fun _ => quiet_meas ..

theorem clearMeas_quiet (s : State) (ch : ChanId) : Quiet s (s.clearMeas ch) := quiet_setMeas ..

/-! ### The flash engine -/

theorem decidePhase_quiet (s : State) (ch : LampId) : Quiet s (s.decidePhase ch) := by
  refine quiet_ite (fun _ => ?_) fun _ => .refl s
  split
  · exact setLampOut_quiet ..
  · exact .refl s

theorem restartIfCeased_quiet (fl : Flash) (s : State) (ch : LampId) : Quiet s (s.restartIfCeased fl ch) :=
  quiet_ite (fun _ => quiet_setLamp (by constructor <;> rfl)) fun _ => .refl s

theorem clearPhaseSample_quiet (s : State) (ch : LampId) : Quiet s (s.clearPhaseSample ch) :=
  quiet_setLamp (by constructor <;> rfl)

/-! ### The gauge unit -/

theorem abortTest_quiet (s : State) : Quiet s s.abortTest := (quiet_testStep s 0).trans (quiet_raise ..)

theorem gaugeActs_quiet (s : State) (g : GaugeId) (milliamps : Nat) : Quiet s (s.gaugeActs g milliamps) := by
  have counts (n : Nat) : Quiet s (s.setGauge g { s.gauge g with shortCount := n }) :=
    quiet_setGauge (by constructor <;> simp)
  refine quiet_ite (fun _ => quiet_ite (fun _ => counts 1) fun _ => ?_) fun _ => counts 0
  have shorted : Quiet s ((s.setGauge g ((s.gauge g).leaveRun .outputFault)).raise .chTrip (gaugeChan g).val milliamps) :=
    (quiet_setGauge (by constructor <;> simp [Gauge.leaveRun])).trans (quiet_raise ..)
  exact quiet_ite (fun _ => shorted.trans (abortTest_quiet _)) fun _ => shorted

theorem gaugeSample_quiet (s : State) (g : GaugeId) (milliamps : Nat) : Quiet s (s.gaugeSample g milliamps) :=
  quiet_ite (fun _ => (storeSample_quiet ..).trans (gaugeActs_quiet ..)) fun _ => .refl s

theorem senseSample_quiet (s : State) (g : GaugeId) (code : Nat) : Quiet s (s.senseSample g code) :=
  quiet_ite (fun _ => quiet_setGauge (by constructor <;> simp)) fun _ => .refl s

/-- The sender and damping parts of an update leave a gauge's state, its duty and its being enabled. -/
theorem gaugeUpdated_quiet (x : Gauge) (o : OpState) (hold : Bool) : GaugeQuiet o hold x x.senseUpdate.dampUpdate := by
  constructor <;> simp [Gauge.senseUpdate, Gauge.dampUpdate]

theorem gaugeSense_quiet (s : State) (g : GaugeId) : Quiet s (s.gaugeSense g) := by
  refine quiet_ite (fun _ => ?_) fun _ => .refl s
  have kept : Quiet s (s.setGauge g (s.gauge g).senseUpdate.dampUpdate) := quiet_setGauge (gaugeUpdated_quiet ..)
  exact quiet_ite (fun _ => kept) fun _ => kept.trans (quiet_raise ..)

theorem gaugeSense_state (s : State) (g : GaugeId) : ((s.gaugeSense g).gauge g).state = (s.gauge g).state := by
  unfold State.gaugeSense
  have raised (t : State) (k : EventKind) (a d : Nat) : (t.raise k a d).gauge g = t.gauge g := by
    simp [State.gauge]
  simp only []
  split
  · split
    · simp [Gauge.senseUpdate, Gauge.dampUpdate]
    · rw [raised]; simp [Gauge.senseUpdate, Gauge.dampUpdate]
  · rfl

/-- The compensation of a gauge in RUN or TEST. -/
theorem gaugeCompensate_quiet {s : State} {g : GaugeId} (runs : (s.gauge g).state = .run ∨ (s.gauge g).state = .test) :
    Quiet s (s.gaugeCompensate g) := by
  refine quiet_ite (fun _ => .refl s) fun hold => ?_
  have kept : ∀ d l n, Quiet s (s.setGauge g { s.gauge g with d := d, limit := l, shortCount := n }) := fun d l n => by
    refine quiet_setGauge ?_
    obtain e | e := runs <;> constructor <;> simp [e, hold]
  exact quiet_ite (fun _ => kept ..) fun _ => (kept ..).trans (quiet_raise ..)

theorem gaugeUpdateOne_quiet (n : Nat) (s : State) (g : GaugeId) : Quiet s (s.gaugeUpdateOne n g) := by
  unfold State.gaugeUpdateOne
  split
  · rename_i run
    exact quiet_ite (fun _ => (gaugeSense_quiet s g).trans (gaugeCompensate_quiet (.inl ((gaugeSense_state s g).trans run))))
      fun _ => .refl s
  · rename_i test
    have ramp : ((s.gaugeSense g).gauge g).state = .test := (gaugeSense_state s g).trans test
    refine (gaugeSense_quiet s g).trans ((quiet_setGauge (by constructor <;> simp)).trans (gaugeCompensate_quiet (.inr ?_)))
    rw [State.gauge_setGauge_same]
    exact ramp
  · exact .refl s
  · exact .refl s

theorem clearSamples_quiet (s : State) (g : GaugeId) : Quiet s (s.clearSamples g) :=
  quiet_setGauge (by constructor <;> simp)

theorem endTest_quiet (x : Gauge) (o : OpState) (hold : Bool) : GaugeQuiet o hold x x.endTest := by
  unfold Gauge.endTest
  split
  · rename_i test
    constructor <;> simp [test]
  · exact .refl ..

theorem finishTest_quiet (s : State) : Quiet s s.finishTest :=
  (quiet_foldl (fun _ _ => quiet_setGauge (endTest_quiet ..)) allGauges s).trans
    ((quiet_testStep _ 0).trans (quiet_raise ..))

theorem gaugeMark_quiet (s : State) : Quiet s s.gaugeMark := by
  have stepped := quiet_ite (c := s.testRunning = true) (fun _ => quiet_testStep s (s.gauges.testStep + 1)) fun _ => .refl s
  have updated := (stepped.trans (quiet_foldl (gaugeUpdateOne_quiet (s.gauges.testStep + 1)) allGauges _)).trans
    (quiet_foldl clearSamples_quiet allGauges _)
  exact quiet_ite (fun _ => updated.trans (finishTest_quiet _)) fun _ => updated

theorem enterTest_quiet (x : Gauge) (o : OpState) (hold : Bool) : GaugeQuiet o hold x x.enterTest := by
  unfold Gauge.enterTest
  split
  · rename_i run
    constructor <;> simp [run]
  · exact .refl ..

/-! ### The supply monitor -/

theorem chargeUnit_eq : chargeUnit = 36000 := rfl

theorem laRise_le {x : SupplySettings} {account : Nat} (n : Nat) {la : Nat} (h : la ≤ 3) : laRise x account n la ≤ 3 := by
  induction n generalizing la with
  | zero => exact h
  | succ n ih =>
    unfold laRise
    split
    · rename_i rises
      exact ih (by simp [laRises] at rises; omega)
    · exact h

theorem laFall_le {x : SupplySettings} {account : Nat} (n : Nat) {la : Nat} (h : la ≤ 3) : laFall x account n la ≤ 3 := by
  induction n generalizing la with
  | zero => exact h
  | succ n ih =>
    unfold laFall
    split
    · exact ih (by omega)
    · exact h

theorem laAfter_le {x : SupplySettings} {account la : Nat} (h : la ≤ 3) : laAfter x account la ≤ 3 := by
  unfold laAfter
  split
  · exact laRise_le 3 h
  · exact laFall_le 3 h

theorem voltageLevel_lv {x : Supply} (h : x.lv ≤ 2) : (voltageLevel x).lv ≤ 2 := by
  unfold voltageLevel
  split
  · exact le_rfl
  · split
    · exact Nat.le_succ 1
    · split
      · exact (Nat.sub_le ..).trans h
      · exact h

/-- What the voltage level's rules leave of a supply record. -/
theorem voltageLevel_rest (x : Supply) :
    voltageLevel x = { x with lv := (voltageLevel x).lv, recovery := (voltageLevel x).recovery } := by
  unfold voltageLevel
  split
  · rfl
  · split
    · rfl
    · split <;> rfl

theorem accountAfter_le (account cap : Nat) (delta : Int) : accountAfter account cap delta ≤ cap := Nat.min_le_left ..

theorem cap_eq (x : SupplySettings) : x.cap = 36000 * x.t3 + 1800000 := by
  rw [SupplySettings.cap, chargeUnit_eq, Nat.mul_comm]

theorem evaluated_hold (x : Supply) (iTotal : Nat) : (x.evaluated iTotal).hold = x.hold := by
  unfold Supply.evaluated
  simp only []
  split
  · rfl
  · rw [voltageLevel_rest]; rfl

theorem evaluated_fits {x : Supply} (iTotal : Nat) (h : SupplyFits x) : SupplyFits (x.evaluated iTotal) := by
  obtain ⟨_, ⟨la, lv⟩, _⟩ := h
  have cap := (accountAfter_le x.account x.settings.cap
    (accountDelta (netCurrent iTotal x.settings.dynamo (chargeAfter x (meanOfTen (x.samples.map (·.2)))).1))).trans_eq
    (cap_eq x.settings)
  unfold Supply.evaluated
  simp only []
  split
  · exact ⟨cap, ⟨laAfter_le la, lv⟩, rfl⟩
  · refine ⟨?_, ⟨?_, voltageLevel_lv lv⟩, rfl⟩
    · rw [voltageLevel_rest]; exact cap
    · rw [voltageLevel_rest]; exact laAfter_le la

theorem storeSupply_quiet (s : State) (bat chg : Nat) : Quiet s (s.storeSupply bat chg) := quiet_supply rfl rfl id

/-! ### The inputs and the operating states -/

theorem takeWindowCounts_quiet (s : State) (w : Window) : Quiet s (s.takeWindowCounts w) :=
  quiet_foldl (f := fun s i => s.setInRec i { s.inRec i with count := w.counts.get i })
    (fun _ _ => quiet_setInRec fun _ => rfl) allInputs s

theorem quiet_window {s : State} {w : Option Window} (h : w ≠ none → s.op.state = .sleep) :
    Quiet s { s with op := { s.op with window := w } } :=
  quiet_op { OpQuiet.refl s.op with window := fun e => .inr (h e) }

theorem resumeSampling_quiet (s : State) : Quiet s s.resumeSampling :=
  (quiet_meas s s.bank.meas false false).trans (quiet_window (s := { s with bank := _ }) fun e => absurd rfl e)

theorem tick_quiet (s : State) : Quiet s s.tick where
  lamps ch := by
    have e : s.tick.lamp ch = (s.lamp ch).tick := by simp [State.lamp, State.tick]
    rw [e]
    constructor <;> rfl
  subs _ := rfl
  queue := rfl
  fns _ := rfl
  scenes := by simp [State.tick, Resolver.tick, Scene.content]
  courtesyPhase := rfl
  courtesyLevel := rfl
  flash := { FlashQuiet.refl s.flash with timer := by simp [State.tick, tickTimer] }
  fan := by constructor <;> rfl
  gauges _ := .refl ..
  hold := rfl
  shed := rfl
  supply := id
  levels _ _ := rfl
  earth := rfl
  op := { OpQuiet.refl s.op with state := rfl }
  inbound := id
  waiting := id
  events := id
  pending := rfl

/-! ### The link -/

theorem quiet_assembler (s : State) (a : Assembler) : Quiet s (s.setAssembler a) := quiet_link id id

theorem lineErrored_quiet (s : State) : Quiet s s.lineErrored := quiet_link id id
theorem formatErrored_quiet (s : State) : Quiet s s.formatErrored := quiet_link id id
theorem checkErrored_quiet (s : State) : Quiet s s.checkErrored := quiet_link id id

theorem quiet_offer (s : State) (f : Frame) : Quiet s { s with link := s.link.offer f } := by
  unfold Link.offer
  split
  · exact quiet_link (fun _ => by simpa using ‹_›) id
  · exact quiet_link id id

theorem quiet_send (s : State) (f : Frame) : Quiet s { s with link := s.link.send f } := by
  unfold Link.send
  split
  · exact quiet_link id fun _ h => by simp at h
  · rename_i e
    exact quiet_link id fun _ h => by simp [e] at h

theorem quiet_sent (s : State) : Quiet s { s with link := s.link.sent } := quiet_link id fun _ _ => rfl

theorem popInbound_quiet {s : State} {f : Frame} {rest : List Frame} (h : s.link.inbound = f :: rest) :
    Quiet s (s.popInbound rest) :=
  quiet_link (fun k => (Nat.le_succ _).trans (by simpa [h] using k)) id

theorem takeUnknown_quiet (s : State) : Quiet s s.takeUnknown := by
  unfold State.takeUnknown
  split
  · exact .refl s
  · rename_i f rest e
    exact quiet_ite (fun _ => (popInbound_quiet e).trans (quiet_send (s.popInbound rest) _)) fun _ => .refl s

end Sys2Proof.Machine
end

section
/-! PROOF. Moves and deeds: what the operations of the model are made of, between one settling of a cause and the next. -/

namespace Sys2Proof.Machine

/-! ### Moves -/

/-- The flash record goes with its phase (R68). -/
def FlashForm (f : Flash) : Prop :=
  (f.phase = .idle → f.active = .none ∧ f.fast = false ∧ f.timer = none) ∧
    (f.phase ≠ .idle → f.active ≠ .none ∧ f.timer ≠ none)

/-- The bounds of a scene list, as `BoundsOk` gives them (R57). -/
def SceneListOk (scenes : List Scene) : Prop :=
  scenes.length ≤ 4 ∧ (scenes.map (·.id)).Nodup ∧ ∀ sc ∈ scenes, sc.id ≠ 0 ∧ 1 ≤ sc.entries.length ∧ sc.entries.length ≤ 6

/-- A new resolver record: the attributes that gate and class functions are kept, and the scene list stays in its bounds. -/
structure ResolverMoves (r r' : Resolver) : Prop where
  attributes : ∀ f : Fn, r'.fns[f.code].cls = r.fns[f.code].cls ∧ r'.fns[f.code].ignitionFed = r.fns[f.code].ignitionFed
  scenes : SceneListOk r.scenes → SceneListOk r'.scenes

/-- What a stall and the clearing of a lockout do to the fan (R98, R100). -/
inductive FanMoves (x : Fan) : Fan → Prop
  | stalls (st : FanState) (wait : Option Nat) (retries : Nat) (driven : x.state.conducts = true)
      (ends : st = .stallWait ∨ st = .lockedOut) :
      FanMoves x { x.stop with state := st, waitTimer := wait, retriesUsed := retries }
  | clears : FanMoves x x.clearLockout

/-- HOLD is declared in every block, before the cause is settled (R136). -/
def State.holdDeclared (s : State) (millivolts : Nat) : State :=
  let s1 := { s with supply := { s.supply with hold := true, releaseCount := 0 } }.raise .holdOn 0 millivolts
  let s2 := allLamps.foldl (fun s ch => s.setLamp ch (s.lamp ch).onHold) s1
  { s2 with fan := s2.fan.onHold }.gaugesOnHold

/-- The part goes between LIMP and the other states with new records of the controller and the resolver, and the map follows: `old`
is the map that stood before (R148, R149, R21). -/
def State.enterWith (s : State) (o : OpCtl) (r : Resolver) (new : OpState) (old : LampId → Option Fn) : State :=
  ({ s with op := o, resolver := r }.enterState new).mapChanged old

/-- When a change of operating state is one that the part makes outside LIMP (R147, R151 to R156). -/
structure Enters (s : State) (o : OpCtl) (new : OpState) : Prop where
  out : s.op.state ≠ .limp
  state : o.state = s.op.state
  awake : new ≠ .limp ∧ new ≠ .sleep
  flags : FlagsOk s → o.configured = s.op.configured ∧ (o.sleepRequested = true ↔ new = .watch) ∧
    o.limpLighting = s.op.limpLighting ∧ o.window = none

/-- When the part goes from LIMP or to it (R148, R149). -/
structure Remaps (s : State) (o : OpCtl) (r : Resolver) (new : OpState) : Prop where
  state : o.state = s.op.state
  other : (s.op.state = .limp ∧ new ≠ .limp) ∨ (s.op.state ≠ .limp ∧ new = .limp)
  awake : s.op.state ≠ .sleep ∧ new ≠ .watch ∧ new ≠ .sleep
  flags : FlagsOk s → (o.configured = true ↔ new ≠ .limp) ∧ o.sleepRequested = false ∧ o.limpLighting = false ∧ o.window = none
  resolver : ResolverMoves s.resolver r
  calm : new = .limp → (∀ f : Fn, r.fns[f.code].base = 0) ∧ r.scenes = [] ∧ r.courtesy.phase = .quiet ∧ r.courtesy.level = 0
  freed : new = .limp → ∀ e, (s.subEntry e).engaged = true → (s.subEntry e).pair = none

/-- One move of the part within a cause that began in state `a`. -/
inductive Move (a s : State) : State → Prop
  | quiet {t : State} (h : Quiet s t) : Move a s t
  | trips (ch : LampId) (c : LampRec) (conducts : (s.lamp ch).state.conducts = true)
      (h : c = (s.lamp ch).tripped ∨ c = (s.lamp ch).lockedOut) : Move a s (s.setLamp ch c)
  | engages (e : Fin 3) (p q : LampId) (may : s.mayEngage e = true) (pair : (s.subEntry e).pair = some (p, q)) :
      Move a s (s.engage e p q)
  | releases (e : Fin 3) (p q : LampId) (pair : (s.subEntry e).pair = some (p, q)) (engaged : (s.subEntry e).engaged = true) :
      Move a s (s.releaseEntry e)
  | clears (ch : LampId) : Move a s (s.clearLamp ch)
  | marks (ch : LampId) : Move a s (s.setLamp ch { s.lamp ch with entered := true })
  | fan (f : Fan) (h : FanMoves s.fan f) : Move a s { s with fan := f }
  | gauges (x : Vector Gauge 2) (h : ∀ g : GaugeId, x[g] = s.gauge g ∨ x[g] = (s.gauge g).clearFault) :
      Move a s { s with gauges := { s.gauges with gauges := x } }
  | flash (fl : Flash) (h : FlashForm s.flash → FlashForm fl) : Move a s { s with flash := fl }
  | resolver (r : Resolver) (calm : LimpQuiet s → LimpQuiet { s with resolver := r }) (h : ResolverMoves s.resolver r) :
      Move a s { s with resolver := r }
  | enters (o : OpCtl) (new : OpState) (h : Enters s o new) : Move a s ({ s with op := o }.enterState new)
  | remaps (o : OpCtl) (r : Resolver) (new : OpState) (h : Remaps s o r new) : Move a s (s.enterWith o r new a.serving)
  | lighting (o : OpCtl) (state : o.state = s.op.state) (configured : o.configured = s.op.configured)
      (sleepRequested : o.sleepRequested = s.op.sleepRequested) (window : o.window = s.op.window)
      (lights : o.limpLighting = true → o.state = .limp ∧ s.level .ign = true) : Move a s { s with op := o }
  | level (i : InputId) (r : InRec) (h : i = .ign → r.level = false → FlagsOk s → s.op.limpLighting = false) :
      Move a s (s.setInRec i r)
  | holds (millivolts : Nat) : Move a s (s.holdDeclared millivolts)
  | holdEnds : Move a s { s with supply := { s.supply with hold := false, releaseCount := 0 } }
  | sheds (x : Supply) (hold : x.hold = s.supply.hold) (fits : SupplyFits s.supply → SupplyFits x) :
      Move a s { s with supply := x }

/-- Moves one after another, within one cause. -/
abbrev Moves (a : State) : State → State → Prop := Relation.ReflTransGen (Move a)

variable {a : State}

theorem Moves.quiet {s t : State} (h : Quiet s t) : Moves a s t := .single (.quiet h)

theorem moves_foldl {α : Type} {f : State → α → State} (h : ∀ s x, Moves a s (f s x)) (l : List α) (s : State) :
    Moves a s (l.foldl f s) := by
  induction l generalizing s with
  | nil => exact .refl
  | cons x l ih => exact (h s x).trans (ih _)

theorem moves_ite {c : Prop} [Decidable c] {s t u : State} (ht : c → Moves a s t) (hu : ¬ c → Moves a s u) :
    Moves a s (if c then t else u) := by
  split
  · exact ht ‹_›
  · exact hu ‹_›

/-! ### Deeds -/

/-- What ends without the settling of a cause and is not quiet. -/
inductive Act (s : State) : State → Prop
  | inrushEnds (ch : LampId) (h : (s.lamp ch).state = .inrush) : Act s (s.setLamp ch (s.lamp ch).inrushEnds).arbitrate
  | retryEnds (ch : LampId) (h : (s.lamp ch).state = .tripped) :
      Act s (s.setLamp ch ((s.lamp ch).retryEnds s.supply.hold (s.signalling ch))).arbitrate
  | kickEnds (h : s.fan.state = .kick) : Act s { s with fan := s.fan.kickEnds }.arbitrate
  | waitEnds (h : s.fan.state = .stallWait) : Act s { s with fan := s.fan.waitEnds s.supply.hold }.arbitrate
  | stalls (f : Fan) (h : FanMoves s.fan f) (stalls : s.fan.state.conducts = true) : Act s { s with fan := f }.arbitrate
  | ramps (h : s.fan.state = .ramping) : Act s { s with fan := s.fan.rampExpiry }
  | sleeps (h : s.op.state = .watch) : Act s s.goToSleep
  | chcfg (ch : LampId) (c : LampCfg) (h : s.op.state = .limp) : Act s (s.setLamp ch { s.lamp ch with cfg := c })
  | subcfg (e : Fin 3) (pair : Option (LampId × LampId)) (h : s.op.state = .limp) : Act s (s.writeSub e pair)
  | fncfg (f : Fn) (r : FnRec) (c : Courtesy) (h : s.op.state = .limp) (configurable : f.configurable = true)
      (base : r = { s.fnRec f with cls := r.cls, ignitionFed := r.ignitionFed })
      (fan : f = .fan → r.ignitionFed = (s.fnRec f).ignitionFed)
      (courtesy : c.phase = s.resolver.courtesy.phase ∧ c.level = s.resolver.courtesy.level) :
      Act s { s.setFn f r with resolver := { (s.setFn f r).resolver with courtesy := c } }
  | fancfg (x : FanSettings) (h : s.op.state = .limp) : Act s { s with fan := { s.fan with settings := x } }

/-- One deed: nothing, a settled cause, or an act of its own. -/
inductive Deed (s : State) : State → Prop
  | nothing : Deed s s
  | settles {u : State} (h : Moves s s u) : Deed s u.settle
  | acts {t : State} (h : Act s t) : Deed s t

/-- One deed among quiet writes: what a command does that brings at most one cause. -/
def OneDeed (s t : State) : Prop := ∃ u v, Quiet s u ∧ Deed u v ∧ Quiet v t

theorem Deed.one {s t : State} (h : Deed s t) : OneDeed s t := ⟨s, t, .refl s, h, .refl t⟩

theorem Quiet.one {s t : State} (h : Quiet s t) : OneDeed s t := ⟨t, t, h, .nothing, .refl t⟩

theorem OneDeed.refl (s : State) : OneDeed s s := (Quiet.refl s).one

theorem Moves.one {s u : State} (h : Moves s s u) : OneDeed s u.settle := (Deed.settles h).one

theorem Act.one {s t : State} (h : Act s t) : OneDeed s t := (Deed.acts h).one

theorem OneDeed.after {s t u : State} (h : OneDeed t u) (k : Quiet s t) : OneDeed s u := by
  obtain ⟨v, w, q, d, r⟩ := h
  exact ⟨v, w, k.trans q, d, r⟩

theorem OneDeed.then {s t u : State} (h : OneDeed s t) (k : Quiet t u) : OneDeed s u := by
  obtain ⟨v, w, q, d, r⟩ := h
  exact ⟨v, w, q, d, r.trans k⟩

theorem oneDeed_ite {c : Prop} [Decidable c] {s t u : State} (ht : c → OneDeed s t) (hu : ¬ c → OneDeed s u) :
    OneDeed s (if c then t else u) := by
  split
  · exact ht ‹_›
  · exact hu ‹_›

/-- Deeds one after another. -/
abbrev Course : State → State → Prop := Relation.ReflTransGen OneDeed

theorem OneDeed.course {s t : State} (h : OneDeed s t) : Course s t := .single h

theorem course_foldl {α : Type} {f : State → α → State} (h : ∀ s a, OneDeed s (f s a)) (l : List α) (s : State) :
    Course s (l.foldl f s) := by
  induction l generalizing s with
  | nil => exact .refl
  | cons a l ih => exact (h s a).course.trans (ih _)

/-! ### The channel bank -/

theorem examineEntry_moves (s : State) (e : Fin 3) : Moves a s (s.examineEntry e) := by
  unfold State.examineEntry
  refine moves_ite (fun may => ?_) fun _ => .refl
  split
  · rename_i pair
    exact .single (.engages e _ _ may pair)
  · exact .refl

theorem examine_moves (occasion : LampId × LampId → Bool) (s : State) : Moves a s (s.examine occasion) :=
  moves_foldl (fun s e => moves_ite (fun _ => examineEntry_moves s e) fun _ => .refl) allSubs s

theorem releaseEntry_moves (s : State) (e : Fin 3) : Moves a s (s.releaseEntry e) := by
  rcases pair : (s.subEntry e).pair with _ | ⟨p, q⟩
  · simp only [State.releaseEntry, pair]
    exact .refl
  · by_cases engaged : (s.subEntry e).engaged = true
    · exact .single (.releases e p q pair engaged)
    · simp only [State.releaseEntry, pair, if_neg engaged]
      exact .refl

theorem releaseWhere_moves (which : LampId × LampId → Bool) (s : State) : Moves a s (s.releaseWhere which) :=
  moves_foldl (fun s e => moves_ite (fun _ => releaseEntry_moves s e) fun _ => .refl) allSubs s

theorem clearAllLamps_moves (s : State) : Moves a s s.clearAllLamps := moves_foldl (fun _ ch => .single (.clears ch)) allLamps s

theorem lampTrips_moves {s : State} {ch : LampId} (conducts : (s.lamp ch).state.conducts = true) (milliamps : Nat) :
    Moves a s (s.lampTrips ch milliamps) := by
  refine moves_ite (fun _ => ?_) fun _ => ?_
  · exact (Relation.ReflTransGen.single (.trips ch _ conducts (.inl rfl))).trans (Moves.quiet (quiet_raise ..))
  · exact (Relation.ReflTransGen.single (.trips ch _ conducts (.inr rfl))).trans
      ((Moves.quiet ((quiet_raise ..).trans (quiet_raise ..))).trans (examine_moves ..))

theorem lampActs_moves (s : State) (ch : LampId) (milliamps : Nat) : Moves a s (s.lampActs ch milliamps) := by
  rw [lampActs_eq]
  refine moves_ite (fun trips => ?_) fun _ => Moves.quiet (lampJudged_quiet ..)
  have conducts : (s.lamp ch).state.conducts = true := by
    rw [tripsOn, Bool.and_eq_true] at trips
    exact trips.1
  refine (Moves.quiet (lampJudged_quiet ..)).trans (lampTrips_moves ?_ milliamps)
  rwa [((lampJudged_quiet s ch milliamps).lamps ch).state]

theorem lampSample_moves (s : State) (ch : LampId) (milliamps : Nat) : Moves a s (s.lampSample ch milliamps) :=
  (Moves.quiet (storeSample_quiet ..)).trans (lampActs_moves ..)

/-! ### The fan -/

/-- The fan's record after a stall (R98). -/
def Fan.stalled (f : Fan) : Fan :=
  if f.retriesUsed < f.settings.retryLimit then
    { f.stop with state := .stallWait, waitTimer := some 5000, retriesUsed := f.retriesUsed + 1 }
  else { f.stop with state := .lockedOut }

theorem raise_withFan (s : State) (f : Fan) (k : EventKind) (a d : Nat) :
    { s with fan := f }.raise k a d = { s.raise k a d with fan := f } := by
  unfold State.raise
  split <;> split <;> first | rfl | contradiction

theorem stalled_moves {f : Fan} (driven : f.state.conducts = true) : FanMoves f f.stalled := by
  unfold Fan.stalled
  split
  · exact .stalls _ _ _ driven (.inl rfl)
  · exact .stalls .lockedOut none f.retriesUsed driven (.inr rfl)

/-- A stall is the fan's record and its events. -/
theorem fanStalled_eq (s : State) (milliamps : Nat) : ∃ u, Quiet s u ∧ u.fan = s.fan ∧
    s.fanStalled milliamps = { u with fan := s.fan.stalled } := by
  unfold State.fanStalled Fan.stalled
  simp only []
  split
  · refine ⟨s.raise .fanStall 14 milliamps, quiet_raise .., raise_fan .., ?_⟩
    rw [raise_withFan]
  · refine ⟨(s.raise .fanStall 14 milliamps).raise .fanLockout 14 s.fan.retriesUsed, (quiet_raise ..).trans (quiet_raise ..),
      by simp, ?_⟩
    simp only [raise_withFan]

theorem Fan.stalls_conducts {f : Fan} {milliamps : Nat} (h : f.stalls milliamps = true) : f.state.conducts = true := by
  simp only [Fan.stalls, Fan.driven, Bool.and_eq_true] at h
  exact h.1.1

/-- A sample of the fan's channel: quiet, or a stall. -/
theorem fanActs_cases (s : State) (milliamps : Nat) : Quiet s (s.fanActs milliamps) ∨
    s.fan.state.conducts = true ∧ ∃ u, Quiet s u ∧ u.fan = s.fan ∧ s.fanActs milliamps = { u with fan := s.fan.stalled } := by
  unfold State.fanActs
  split
  · rename_i stalls
    exact .inr ⟨Fan.stalls_conducts stalls, fanStalled_eq s milliamps⟩
  · exact .inl (quiet_ite (fun _ => .refl s) fun _ => quiet_fan (by constructor <;> rfl))

theorem fanActs_moves (s : State) (milliamps : Nat) : Moves a s (s.fanActs milliamps) := by
  obtain q | ⟨driven, u, q, same, e⟩ := fanActs_cases s milliamps
  · exact Moves.quiet q
  · rw [e]
    exact (Moves.quiet q).trans (.single (.fan _ (by rw [same]; exact stalled_moves driven)))

/-! ### Samples -/

theorem readingActs_moves (s : State) (ch : ChanId) (taken : Taken) (reading : Nat) :
    Moves a s (s.readingActs ch taken reading) := by
  unfold State.readingActs
  split
  · unfold State.sampleActs
    split
    · exact lampActs_moves ..
    · exact moves_ite (fun _ => fanActs_moves ..) fun _ => Moves.quiet (gaugeActs_quiet ..)
  · split
    · exact Moves.quiet (readBack_quiet ..)
    · exact .refl
  · exact .refl

theorem storeTaken_quiet (s : State) (ch : ChanId) (taken : Taken) (reading : Nat) : Quiet s (s.storeTaken ch taken reading) := by
  unfold State.storeTaken
  split
  · exact storeSample_quiet ..
  · exact .refl s

/-- The readings that a sampling moment carries. -/
def dueReadings (readings : Vector (Option Nat) 17) : List (ChanId × Nat) :=
  allChans.filterMap fun ch => readings[ch].map fun v => (ch, v)

theorem dueReadings_length (readings : Vector (Option Nat) 17) :
    (dueReadings readings).length = readings.toList.countP Option.isSome := by
  have chans : readings.toList = allChans.map fun ch => readings[ch] := by
    refine List.ext_getElem (by simp [allChans]) fun i _ _ => ?_
    have place : ∀ j : Fin 17, allChans[j.val]'j.isLt = j := by decide
    have at_i : allChans[i] = ⟨i, by simpa using ‹i < readings.toList.length›⟩ := place ⟨i, _⟩
    rw [List.getElem_map, Vector.getElem_toList]
    exact congrArg (fun ch : ChanId => readings[ch]) at_i.symm
  rw [chans, List.countP_map, dueReadings]
  generalize allChans = l
  induction l with
  | nil => rfl
  | cons a l ih => cases e : readings[a] <;> simp_all

/-- The readings of one moment, stored and then acted on one after another (R31, R32). -/
def State.takeReadings (s : State) (due : List (ChanId × Nat)) : State :=
  due.foldl (fun t x => (t.readingActs x.1 (s.takenOn x.1) x.2).settle)
    (due.foldl (fun t x => t.storeTaken x.1 (s.takenOn x.1) x.2) s)

theorem currentSample_eq (s : State) (readings : Vector (Option Nat) 17) :
    s.currentSample readings = if s.op.state = .sleep then s else s.takeReadings (dueReadings readings) := rfl

theorem takeReadings_course (s : State) (due : List (ChanId × Nat)) :
    Course s (s.takeReadings due) ∧ (due.length ≤ 1 → OneDeed s (s.takeReadings due)) := by
  have stored := quiet_foldl (f := fun (t : State) (x : ChanId × Nat) => t.storeTaken x.1 (s.takenOn x.1) x.2)
    (fun t x => storeTaken_quiet ..) due s
  have each (t : State) (x : ChanId × Nat) : OneDeed t (t.readingActs x.1 (s.takenOn x.1) x.2).settle :=
    (readingActs_moves ..).one
  refine ⟨stored.one.course.trans (course_foldl each ..), fun few => ?_⟩
  match due, few with
  | [], _ => exact OneDeed.refl s
  | [x], _ =>
    simp only [State.takeReadings, List.foldl_cons, List.foldl_nil] at stored ⊢
    exact OneDeed.after (each _ x) stored

theorem currentSample_course (s : State) (readings : Vector (Option Nat) 17) :
    Course s (s.currentSample readings) ∧
      (readings.toList.countP Option.isSome ≤ 1 → OneDeed s (s.currentSample readings)) := by
  rw [currentSample_eq, ← dueReadings_length]
  split
  · exact ⟨.refl, fun _ => .refl s⟩
  · exact takeReadings_course ..

/-! ### The flash engine -/

theorem setFlash_moves {s : State} {fl : Flash} (h : FlashForm s.flash → FlashForm fl) : Moves a s (s.setFlash fl) := by
  have q : Quiet s (allLamps.foldl (State.restartIfCeased fl) s) := quiet_foldl (restartIfCeased_quiet fl) _ _
  refine (Moves.quiet q).trans (.single (.flash fl fun k => h ?_))
  obtain ⟨idle, flashing⟩ := k
  have f := q.flash
  exact ⟨fun e => by
      obtain ⟨a, b, c⟩ := idle (f.phase.trans e)
      exact ⟨f.active.symm.trans a, f.fast.symm.trans b, f.timer.mp c⟩,
    fun e => by
      obtain ⟨a, b⟩ := flashing (fun h => e (f.phase.symm.trans h))
      exact ⟨fun h => a (f.active.trans h), fun h => b (f.timer.mpr h)⟩⟩

theorem onStart_moves {s : State} {set : Sides} (some : set ≠ .none) : Moves a s (s.onStart set) :=
  (Moves.quiet (quiet_foldl clearPhaseSample_quiet allLamps s)).trans
    (setFlash_moves fun _ => ⟨fun e => by simp at e, fun _ => ⟨some, by simp⟩⟩)

theorem endOnPhase_one {s : State} (on : s.flash.phase = .on) : OneDeed s s.endOnPhase := by
  have q : Quiet s (allLamps.foldl State.decidePhase s) := quiet_foldl decidePhase_quiet _ _
  generalize judged : allLamps.foldl State.decidePhase s = u at q
  have e : s.endOnPhase = { u with flash := { u.flash with phase := .off, timer := some u.flash.half } }.settle := by
    rw [← judged]; rfl
  rw [e]
  refine Moves.one ((Moves.quiet q).trans (.single (.flash _ fun k => ?_)))
  refine ⟨fun e => by simp at e, fun _ => ⟨(k.2 ?_).1, by simp⟩⟩
  rw [q.flash.phase, on]
  decide

theorem endOffPhase_one (s : State) : OneDeed s s.endOffPhase := by
  unfold State.endOffPhase
  refine Moves.one (moves_ite (fun _ => setFlash_moves fun _ => ?_) fun some => onStart_moves some)
  exact ⟨fun _ => ⟨rfl, rfl, rfl⟩, fun h => absurd rfl h⟩

/-! ### The supply monitor -/

theorem checkHold_one (s : State) (millivolts : Nat) : OneDeed s (s.checkHold millivolts) := by
  have counts (n : Nat) : OneDeed s { s with supply := { s.supply with releaseCount := n } } :=
    (quiet_supply (s := s) (x := { s.supply with releaseCount := n }) rfl rfl id).one
  refine oneDeed_ite (fun _ => oneDeed_ite (fun _ => oneDeed_ite (fun _ => ?_) fun _ => counts _) fun _ => counts 0) fun _ =>
    oneDeed_ite (fun _ => ?_) fun _ => .refl s
  · exact Moves.one ((Relation.ReflTransGen.single .holdEnds).trans (Moves.quiet (quiet_raise ..)))
  · exact Moves.one (.single (.holds millivolts))

theorem supplySampled_one (s : State) (bat chg : Nat) : OneDeed s (s.supplySampled bat chg) :=
  oneDeed_ite (fun _ => .refl s) fun _ => (checkHold_one ..).after (storeSupply_quiet ..)

theorem evaluate_one (s : State) : OneDeed s s.evaluate := by
  have hold := evaluated_hold s.supply s.averageSum
  have fits := evaluated_fits (x := s.supply) s.averageSum
  have marked : Quiet s { s with bank := { s.bank with averagesReady := false } } := quiet_meas s s.bank.meas s.bank.intervalOpen false
  unfold State.evaluate
  simp only []
  have charged (u : State) (c : Prop) [Decidable c] (k : EventKind) (a d : Nat) : Quiet u (if c then u else u.raise k a d) :=
    quiet_ite (fun _ => .refl u) fun _ => quiet_raise ..
  refine oneDeed_ite (fun same => ?_) fun _ => Moves.one ?_
  · exact ((marked.trans (quiet_supply (s := { s with bank := _ }) hold same fits)).trans (charged ..)).one
  · exact (Moves.quiet marked).trans ((Relation.ReflTransGen.single (.sheds _ hold fits)).trans
      (Moves.quiet ((charged ..).trans (quiet_raise ..))))

theorem supplyMark_one (s : State) : OneDeed s s.supplyMark := by
  have discarded : Quiet s { s with bank := { s.bank with averagesReady := false }, supply := { s.supply with samples := [] } } :=
    { Quiet.refl s with queue := rfl }
  exact oneDeed_ite (fun _ => .refl s) fun _ => oneDeed_ite (fun _ => evaluate_one s) fun _ =>
    oneDeed_ite (fun _ => discarded.one) fun _ => .refl s

end Sys2Proof.Machine
end

section
/-! PROOF. Every command is a course of deeds: the operating states, the inputs, the link, the requests, the dispatch. -/

namespace Sys2Proof.Machine

variable {a : State}

/-! ### Changes of operating state (R146) -/

theorem raise_withOp (s : State) (o : OpCtl) (k : EventKind) (a d : Nat) :
    { s with op := o }.raise k a d = { s.raise k a d with op := o } := by
  unfold State.raise
  split <;> split <;> first | rfl | contradiction

theorem serving_of_map {s t : State} (limp : s.op.state = .limp ↔ t.op.state = .limp)
    (lamps : ∀ ch, (t.lamp ch).cfg.fn = (s.lamp ch).cfg.fn ∧ (t.lamp ch).substituteFor = (s.lamp ch).substituteFor) (ch : LampId) :
    t.serving ch = s.serving ch := by
  have cfg (c : LampId) : t.bank.lamps[c].cfg.fn = s.bank.lamps[c].cfg.fn := (lamps c).1
  have sub (c : LampId) : t.bank.lamps[c].substituteFor = s.bank.lamps[c].substituteFor := (lamps c).2
  simp only [State.serving, Bank.servingIn, cfg, sub, limp]

/-- What entering an operating state leaves of the part: the state, the report, and the fan and the gauges as they leave DRIVE. -/
theorem enterState_rest (s : State) (new : OpState) :
    s.enterState new = { s with
      op := { s.op with state := new }, report := (s.enterState new).report, fan := (s.enterState new).fan,
      gauges := (s.enterState new).gauges } := by
  unfold State.enterState
  simp only []
  split
  · unfold State.gaugesLeaveDrive State.abortTest
    simp only [allGauges, List.foldl_cons, List.foldl_nil]
    rw [raise_withOp]
    split
    · rw [raise_report]
      simp [State.setGauge]
    · simp [State.setGauge]
  · rw [raise_report]

@[simp] theorem enterState_bank (s : State) (new : OpState) : (s.enterState new).bank = s.bank := by rw [enterState_rest]
@[simp] theorem enterState_queue (s : State) (new : OpState) : (s.enterState new).queue = s.queue := by rw [enterState_rest]
@[simp] theorem enterState_resolver (s : State) (new : OpState) : (s.enterState new).resolver = s.resolver := by
  rw [enterState_rest]
@[simp] theorem enterState_flash (s : State) (new : OpState) : (s.enterState new).flash = s.flash := by rw [enterState_rest]
@[simp] theorem enterState_supply (s : State) (new : OpState) : (s.enterState new).supply = s.supply := by rw [enterState_rest]
@[simp] theorem enterState_inputs (s : State) (new : OpState) : (s.enterState new).inputs = s.inputs := by rw [enterState_rest]
@[simp] theorem enterState_op (s : State) (new : OpState) : (s.enterState new).op = { s.op with state := new } := by
  rw [enterState_rest]
@[simp] theorem enterState_link (s : State) (new : OpState) : (s.enterState new).link = s.link := by rw [enterState_rest]
@[simp] theorem enterState_freeCount (s : State) (new : OpState) : (s.enterState new).freeCount = s.freeCount := by
  rw [enterState_rest]
@[simp] theorem enterState_pending (s : State) (new : OpState) : (s.enterState new).pending = s.pending := by
  rw [enterState_rest]

theorem ResolverMoves.refl (r : Resolver) : ResolverMoves r r := ⟨fun _ => ⟨rfl, rfl⟩, id⟩

/-- A change between the states outside LIMP. -/
theorem enterState_moves {s : State} {o : OpCtl} {new : OpState} (out : s.op.state ≠ .limp) (state : o.state = s.op.state)
    (awake : new ≠ .limp ∧ new ≠ .sleep)
    (flags : FlagsOk s → o.configured = s.op.configured ∧ (o.sleepRequested = true ↔ new = .watch) ∧
      o.limpLighting = s.op.limpLighting ∧ o.window = none) :
    Moves a s ({ s with op := o }.enterState new) :=
  .single (.enters o new ⟨out, state, awake, flags⟩)

theorem FlagsOk.window_none {s : State} (h : FlagsOk s) (awake : s.op.state ≠ .sleep) : s.op.window = none :=
  Classical.byContradiction fun e => awake (h.window e)

theorem wakeTo_moves {s : State} {new : OpState} (out : s.op.state ≠ .limp) (awake : new = .drive ∨ new = .park)
    (cause : WakeCause) : Moves a s (s.wakeTo new cause) := by
  have resumed : ∃ u, Quiet s u ∧ u.op.state = s.op.state ∧ (u.op.state = .sleep → u.op.window = none) ∧
      u = (if s.op.state = .sleep then s.resumeSampling else s) := by
    refine ⟨_, quiet_ite (fun _ => resumeSampling_quiet s) (fun _ => .refl s), ?_, ?_, rfl⟩
    · split <;> rfl
    · split
      · exact fun _ => rfl
      · exact fun h => absurd h ‹_›
  obtain ⟨u, q, state, window, e⟩ := resumed
  unfold State.wakeTo
  simp only []
  rw [← e, raise_withOp]
  have raised := quiet_raise u .woken 0 cause.code
  refine (Moves.quiet (q.trans raised)).trans (enterState_moves ?_ ?_ ?_ fun h => ?_)
  · simp [state, out]
  · simp
  · obtain rfl | rfl := awake <;> simp
  · refine ⟨by simp, by obtain rfl | rfl := awake <;> simp, by simp, ?_⟩
    by_cases asleep : u.op.state = .sleep
    · exact window asleep
    · have := h.window_none (by simpa using asleep)
      simpa using this

theorem requestSleep_one {s : State} (park : s.op.state = .park) : OneDeed s s.requestSleep := by
  refine Moves.one (enterState_moves (by simp [park]) rfl (by simp) fun h => ?_)
  exact ⟨rfl, by simp, rfl, h.window_none (by simp [park])⟩

theorem watchAgain_moves {s : State} (asleep : s.op.state = .sleep) : Moves a s (s.resumeSampling.enterState .watch) := by
  refine (Moves.quiet (resumeSampling_quiet s)).trans (enterState_moves (o := s.resumeSampling.op)
    (by simp [State.resumeSampling, asleep]) rfl (by simp) fun h => ?_)
  exact ⟨rfl, by simpa [State.resumeSampling, asleep] using h.sleepRequested, rfl, rfl⟩

/-! ### The inputs (R144) -/

theorem raise_withInputs (s : State) (x : Inputs) (k : EventKind) (a d : Nat) :
    { s with inputs := x }.raise k a d = { s.raise k a d with inputs := x } := by
  unfold State.raise
  split <;> split <;> first | rfl | contradiction

/-- Storing a level raises its event beside it. -/
theorem storeLevel_eq (s : State) (i : InputId) (asserted : Bool) :
    s.storeLevel i asserted =
      (s.raise .input (inputNumber i) (if asserted then 1 else 0)).setInRec i { s.inRec i with level := asserted, count := 0 } := by
  rw [State.storeLevel, State.setInRec, raise_withInputs, State.setInRec, raise_inputs]

theorem storeLevel_op (s : State) (i : InputId) (asserted : Bool) : (s.storeLevel i asserted).op = s.op := by
  simp [State.storeLevel, State.setInRec]

theorem storeLevel_level (s : State) (i : InputId) (asserted : Bool) : (s.storeLevel i asserted).level i = asserted := by
  rw [storeLevel_eq, State.level, State.inRec_setInRec_same]

theorem storeLevel_moves {s : State} {i : InputId} {asserted : Bool}
    (h : i = .ign → asserted = false → FlagsOk s → s.op.limpLighting = false) : Moves a s (s.storeLevel i asserted) := by
  rw [storeLevel_eq]
  have raised := quiet_raise s .input (inputNumber i) (if asserted then 1 else 0)
  refine (Moves.quiet raised).trans (.single (.level i _ fun e l k => ?_))
  have flags : FlagsOk s := by
    obtain ⟨configured, asked, lighting, window⟩ := k
    simp only [raise_op, State.level, State.inRec, raise_inputs] at configured asked lighting window
    exact ⟨configured, asked, lighting, window⟩
  simpa using h e l flags

/-- The handing of a stored level to the blocks that read it (R144, Table 8-1). -/
theorem ignLevel_moves {s : State} {asserted : Bool} (stored : s.level .ign = asserted) : Moves a s (s.ignLevel asserted) := by
  unfold State.ignLevel
  split
  · rename_i limp
    refine moves_ite (fun on => moves_ite (fun _ => ?_) fun _ => .refl) fun _ => ?_
    · exact .single (.lighting _ rfl rfl rfl rfl fun _ => ⟨limp, stored.trans on⟩)
    · exact .single (.lighting _ rfl rfl rfl rfl (by simp))
  · rename_i drive
    exact moves_ite (fun _ => .refl) fun _ => enterState_moves (o := s.op) (by simp [drive]) rfl (by simp) fun h =>
      ⟨rfl, by simpa [drive] using h.sleepRequested, rfl, h.window_none (by simp [drive])⟩
  · rename_i park
    exact moves_ite (fun _ => enterState_moves (o := s.op) (by simp [park]) rfl (by simp) fun h =>
      ⟨rfl, by simpa [park] using h.sleepRequested, rfl, h.window_none (by simp [park])⟩) fun _ => .refl
  · rename_i watch
    exact moves_ite (fun _ => wakeTo_moves (by simp [watch]) (.inl rfl) _) fun _ => .refl
  · exact .refl

theorem watchWake_moves (s : State) (asserted : Bool) (cause : WakeCause) : Moves a s (s.watchWake asserted cause) := by
  refine moves_ite (fun h => wakeTo_moves ?_ (.inr rfl) _) fun _ => .refl
  simp only [Bool.and_eq_true, beq_iff_eq] at h
  simp [h.2]

theorem courtesyDoor_moves (s : State) (asserted : Bool) : Moves a s (s.courtesyDoor asserted) := by
  refine moves_ite (fun _ => .refl) fun h => ?_
  have out : s.op.state ≠ .limp := fun e => h (.inl e)
  have courtesy (c : Courtesy) : Moves a s { s with resolver := { s.resolver with courtesy := c } } :=
    .single (.resolver _ (fun _ e => absurd e out) ⟨fun _ => ⟨rfl, rfl⟩, id⟩)
  exact moves_ite (fun _ => courtesy _) fun _ => moves_ite (fun _ => courtesy _) fun _ => .refl

theorem handLevel_moves {s : State} {i : InputId} {asserted : Bool} (stored : s.level i = asserted) :
    Moves a s (s.handLevel i asserted) := by
  cases i with
  | ign => exact ignLevel_moves stored
  | haz =>
    refine (Relation.ReflTransGen.single (.flash _ fun h => ?_)).trans (watchWake_moves ..)
    exact h
  | door => exact (courtesyDoor_moves ..).trans (watchWake_moves ..)
  | brake => exact .refl
  | sw0 => exact .refl
  | sw1 => exact .refl

/-- In LIMP the release of IGN ends limp lighting, whether the level is stored before that or after (R159). -/
theorem ignReleased_eq {s : State} (limp : s.op.state = .limp) :
    (s.storeLevel .ign false).handLevel .ign false = s.endLimpLighting.storeLevel .ign false := by
  have e : (s.storeLevel .ign false).op.state = .limp := by rw [storeLevel_op, limp]
  simp only [State.handLevel, State.ignLevel, e]
  rw [storeLevel_eq, storeLevel_eq, State.endLimpLighting, State.endLimpLighting]
  simp [State.setInRec, State.inRec, raise_withOp]

theorem levelHanded_moves (s : State) (i : InputId) (asserted : Bool) :
    Moves a s ((s.storeLevel i asserted).handLevel i asserted) := by
  by_cases released : i = .ign ∧ asserted = false ∧ s.op.state = .limp
  · obtain ⟨rfl, rfl, limp⟩ := released
    rw [ignReleased_eq limp]
    have ended : Moves a s s.endLimpLighting := .single (.lighting _ rfl rfl rfl rfl (by simp))
    exact ended.trans (storeLevel_moves fun _ _ _ => rfl)
  · refine (storeLevel_moves fun ign off h => ?_).trans (handLevel_moves (storeLevel_level ..))
    exact Bool.eq_false_iff.mpr fun e => released ⟨ign, off, (h.limpLighting e).1⟩

theorem deliverLevel_one (s : State) (i : InputId) (asserted : Bool) : OneDeed s (s.deliverLevel i asserted) := by
  unfold State.deliverLevel
  simp only []
  refine oneDeed_ite (fun host => ?_) fun _ => Moves.one (levelHanded_moves ..)
  have stored : Quiet s (s.storeLevel i asserted) := by
    rw [storeLevel_eq]
    exact (quiet_raise ..).trans (quiet_setInRec fun h => absurd host (by simp [h]))
  cases i <;> first | exact stored.one | cases host

theorem sampleInput_one (pins : PinLevels) (s : State) (i : InputId) : OneDeed s (s.sampleInput pins i) := by
  have counts (n : Nat) : OneDeed s (s.setInRec i { s.inRec i with count := n }) :=
    (quiet_setInRec (r := { s.inRec i with count := n }) fun _ => rfl).one
  exact oneDeed_ite (fun _ => oneDeed_ite (fun _ => counts 0) fun _ => oneDeed_ite (fun _ => deliverLevel_one ..) fun _ =>
    counts _) fun _ => .refl s

theorem closeWindow_course (s : State) (w : Option Window) : Course s (s.closeWindow w) := by
  unfold State.closeWindow
  split
  · exact .refl
  · exact (course_foldl (fun _ _ => deliverLevel_one ..) _ s).trans (takeWindowCounts_quiet ..).one.course

theorem confirmWake_course {s : State} (asleep : s.op.state = .sleep) (i : WakeInput) (w : Window) :
    Course s (s.confirmWake i w) :=
  (Moves.one (wakeTo_moves (by simp [asleep]) (by cases i <;> simp [wakeStateOf]) _)).course.trans (closeWindow_course ..)

theorem sampleInputs_course (s : State) (pins : PinLevels) : Course s (s.sampleInputs pins) := by
  unfold State.sampleInputs
  split
  · rename_i asleep
    split
    · unfold State.sampleInWindow
      simp only []
      split
      · exact (quiet_window fun _ => asleep).one.course
      · exact confirmWake_course asleep ..
      · exact (quiet_freeCount ..).one.course.trans
          (confirmWake_course (s := { s with freeCount := s.freeCount + 1 }) asleep ..)
    · exact .refl
  · exact course_foldl (sampleInput_one pins) _ s

theorem settleAsleep_one {s t : State} (h : Moves s s t) (asleep : t.op.state = .sleep) : OneDeed s t.settleAsleep :=
  oneDeed_ite (fun _ => Moves.one (h.trans (watchAgain_moves asleep))) fun _ => Moves.one h

theorem handLevel_asleep {s : State} (asleep : s.op.state = .sleep) (i : InputId) (asserted : Bool) :
    (s.handLevel i asserted).op = s.op := by
  cases i with
  | ign => simp only [State.handLevel, State.ignLevel, asleep]
  | haz => simp [State.handLevel, State.watchWake, asleep]
  | door =>
    have door : (s.courtesyDoor asserted).op = s.op := by
      unfold State.courtesyDoor
      simp only []
      split
      · rfl
      · split
        · rfl
        · split <;> rfl
    simp [State.handLevel, State.watchWake, door, asleep]
  | brake => rfl
  | sw0 => rfl
  | sw1 => rfl

/-- INPUT_LEVEL_CHANGE (R144), also in SLEEP where the entry came first (R154). -/
theorem inputLevelChanged_one (s : State) (i : InputId) :
    OneDeed s (if s.levelDue i then s.deliverLevel i (!s.level i) else if s.sleptFirst i then s.deliverAsleep i else s) := by
  refine oneDeed_ite (fun _ => deliverLevel_one ..) fun _ => oneDeed_ite (fun slept => ?_) fun _ => .refl s
  simp only [State.sleptFirst, Bool.and_eq_true, beq_iff_eq] at slept
  obtain ⟨⟨⟨⟨asleep, _⟩, _⟩, _⟩, _⟩ := slept
  have still : ((s.storeLevel i true).handLevel i true).op.state = .sleep := by
    rw [handLevel_asleep (by rw [storeLevel_op, asleep]), storeLevel_op, asleep]
  exact settleAsleep_one (levelHanded_moves s i true) still

/-! ### Scenes, the courtesy lamp, limp lighting (R59, R62, R159) -/

theorem withoutScene_listOk (id : Byte) {scenes : List Scene} (h : SceneListOk scenes) : SceneListOk (withoutScene scenes id) := by
  obtain ⟨few, distinct, each⟩ := h
  exact ⟨(List.length_filter_le ..).trans few, distinct.sublist (List.filter_sublist.map _),
    fun sc hsc => each sc (List.mem_of_mem_filter hsc)⟩

theorem setScenes_moves {s : State} {scenes : List Scene} (empty : s.resolver.scenes = [] → s.op.state = .limp → scenes = [])
    (bounds : SceneListOk s.resolver.scenes → SceneListOk scenes) : Moves a s (s.setScenes scenes) := by
  refine .single (.resolver _ (fun h limp => ?_) ⟨fun _ => ⟨rfl, rfl⟩, bounds⟩)
  obtain ⟨base, none, phase, level⟩ := h limp
  exact ⟨base, empty none limp, phase, level⟩

theorem expireScene_course (s : State) (id : Byte) : Course s (s.expireScene id) := by
  have dropped : Moves s s (s.setScenes (withoutScene s.resolver.scenes id)) :=
    setScenes_moves (fun e _ => by rw [e]; rfl) (withoutScene_listOk id)
  have ended := dropped.trans (Moves.quiet (quiet_raise _ .sceneEnd id.toNat 0))
  unfold State.expireScene
  simp only []
  split
  · rename_i rises
    have asleep := (raise_op (s.setScenes (withoutScene s.resolver.scenes id)) .sceneEnd id.toNat 0).symm ▸ rises.1
    exact (Moves.one (ended.trans (watchAgain_moves asleep))).course.trans (closeWindow_course ..)
  · exact (Moves.one ended).course

theorem setCourtesy_moves {s : State} {c : Courtesy} (lit : s.resolver.courtesy.phase ≠ .quiet) : Moves a s (s.setCourtesy c) :=
  .single (.resolver _ (fun h limp => absurd (h limp).2.2.1 lit) ⟨fun _ => ⟨rfl, rfl⟩, id⟩)

/-! ### The link -/

theorem frameHeard_one (s : State) : OneDeed s s.frameHeard := by
  unfold State.frameHeard
  simp only []
  split
  · exact Moves.one (.single (.lighting _ rfl rfl rfl rfl (by simp)))
  · rename_i dark
    exact (quiet_op (s := s)
      (o := { s.op with silenceTimer := 0, linkSilent := false, silenceCount := 0, limpLighting := false })
      ⟨rfl, rfl, rfl, (Bool.eq_false_iff.mpr dark).symm, Or.inl⟩).one

theorem assemble_one (s : State) (b : Byte) : OneDeed s (s.assemble b) := by
  have moves (a : Assembler) : OneDeed s (s.setAssembler a) := (quiet_assembler s a).one
  unfold State.assemble
  split
  · exact oneDeed_ite (fun _ => moves _) fun _ => .refl s
  · exact oneDeed_ite (fun _ => moves _) fun _ => (formatErrored_quiet s).one
  · exact moves _
  · exact oneDeed_ite (fun _ => moves _) fun _ => moves _
  · exact oneDeed_ite (fun _ => ((frameHeard_one _).after (quiet_assembler s .hunt)).then (quiet_offer ..)) fun _ =>
      (checkErrored_quiet s).one

theorem receive_one (s : State) (b : Byte) (parity stop : Bool) : OneDeed s (s.receive b parity stop) :=
  oneDeed_ite (fun _ => .refl s) fun _ => oneDeed_ite (fun _ => assemble_one s b) fun _ => (lineErrored_quiet s).one

theorem rxWakes_course {s : State} (asleep : s.op.state = .sleep) : Course s s.rxWakes := by
  have paused : Quiet s { s with link := { s.link with receiverPaused := true } } := quiet_link id id
  exact (Moves.one ((Moves.quiet paused).trans (wakeTo_moves (by simp [asleep]) (.inr rfl) .rx))).course.trans
    (closeWindow_course ..)

theorem goSilent_quiet (s : State) : Quiet s s.goSilent := by
  have silent : Quiet s { s with
      op := { s.op with linkSilent := true, linkSilentLatch := true }, flash := { s.flash with hostSide := .none } } :=
    { Quiet.refl s with
      op := ⟨rfl, rfl, rfl, rfl, Or.inl⟩
      flash := { FlashQuiet.refl s.flash with hostSide := .inr rfl } }
  exact silent.trans (quiet_raise ..)

end Sys2Proof.Machine
end

section
/-! PROOF. Every command is a course of deeds: the requests and the dispatch. -/

namespace Sys2Proof.Machine

variable {a : State}

/-! ### START, STOP and FAULTCLR -/

/-- The output faults of both gauges are lifted (R117). -/
theorem clearFaults_moves (s : State) :
    Moves a s { s with gauges := { s.gauges with gauges := s.gauges.gauges.map Gauge.clearFault } } :=
  .single (.gauges _ fun g => .inr (by simp [State.gauge]))

theorem clearFault_moves (s : State) (g : GaugeId) : Moves a s (s.setGauge g (s.gauge g).clearFault) := by
  refine .single (.gauges _ fun k => ?_)
  change (s.setGauge g (s.gauge g).clearFault).gauge k = _ ∨ _
  rw [State.gauge_setGauge]
  split
  · rename_i same
    exact .inr (by rw [same]; exact State.gauge_setGauge_same s g _)
  · rename_i other
    exact .inl rfl

theorem quiet_dropPending (s : State) : Quiet s
    { s with gauges := { s.gauges with gauges := s.gauges.gauges.map (fun g => { g with pendingCurve := none }) } } :=
  quiet_mapGauges _ fun x => by constructor <;> simp

theorem markEntered_moves (s : State) (ch : LampId) : Moves a s (s.markEntered ch) :=
  moves_ite (fun _ => .single (.marks ch)) fun _ => .refl

/-- START's change of map (R148). -/
theorem startMap_moves {s : State} (limp : s.op.state = .limp) :
    Moves s s ((s.startFields.enterState s.startState).mapChanged s.serving) := by
  have new : s.startState = .drive ∨ s.startState = .park := by unfold State.startState; split <;> simp
  refine (Moves.quiet (quiet_dropPending s)).trans (.single (.remaps
    { s.op with configured := true, limpLighting := false, silenceTimer := 0 } { s.resolver with courtesy := s.courtesyAtStart }
    s.startState { state := rfl, other := ?_, awake := ?_, flags := fun h => ?_, resolver := ⟨fun _ => ⟨rfl, rfl⟩, id⟩,
                   calm := fun e => ?_, freed := fun e => ?_ }))
  · exact .inl ⟨limp, by obtain e | e := new <;> simp [e]⟩
  · refine ⟨by simp [limp], ?_⟩
    obtain e | e := new <;> simp [e]
  · refine ⟨by obtain e | e := new <;> simp [e], ?_, rfl, h.window_none (by simp [limp])⟩
    exact Bool.eq_false_iff.mpr fun e => by simpa [limp] using h.sleepRequested.mp e
  · obtain k | k := new <;> simp [k] at e
  · obtain k | k := new <;> simp [k] at e

theorem startPart_one {s : State} (limp : s.op.state = .limp) : OneDeed s s.startPart :=
  Moves.one ((startMap_moves limp).trans ((moves_foldl markEntered_moves allLamps _).trans (examine_moves ..)))

/-- An engaged entry is released (R24). -/
theorem releaseEntry_engaged {s : State} {e : Fin 3} {p q : LampId} (pair : (s.subEntry e).pair = some (p, q))
    (engaged : (s.subEntry e).engaged = true) :
    s.releaseEntry e =
      (((s.setSub e { s.subEntry e with engaged := false }).setLamp q (s.lamp q).release).functionChanged q).dropEntry q := by
  unfold State.releaseEntry
  dsimp only
  split
  · rename_i e'
    rw [pair] at e'
    cases e'
    rw [if_pos engaged]
  · rename_i e'
    rw [pair] at e'
    cases e'

/-- An entry that is empty or not engaged is left as it is. -/
theorem releaseEntry_idle {s : State} {e : Fin 3} (h : (s.subEntry e).pair = none ∨ (s.subEntry e).engaged = false) :
    s.releaseEntry e = s := by
  unfold State.releaseEntry
  dsimp only
  split
  · rename_i e'
    obtain h | h := h
    · rw [h] at e'
      cases e'
    · exact if_neg (by simp [h])
  · rfl

@[simp] theorem dropEntry_subEntry (s : State) (ch : LampId) (e : Fin 3) : (s.dropEntry ch).subEntry e = s.subEntry e := rfl
@[simp] theorem dropEntry_lamp (s : State) (ch c : LampId) : (s.dropEntry ch).lamp c = s.lamp c := rfl

theorem releaseEntry_subEntry (s : State) (e k : Fin 3) :
    ((s.releaseEntry e).subEntry k).pair = (s.subEntry k).pair ∧
      (((s.releaseEntry e).subEntry k).engaged = true ↔
        (s.subEntry k).engaged = true ∧ (k ≠ e ∨ (s.subEntry e).pair = none)) := by
  rcases pair : (s.subEntry e).pair with _ | ⟨p, q⟩
  · rw [releaseEntry_idle (.inl pair)]
    simp
  · by_cases engaged : (s.subEntry e).engaged = true
    · rw [releaseEntry_engaged pair engaged]
      by_cases same : k = e
      · simp [State.subEntry_setSub, same]
      · simp [State.subEntry_setSub, same]
    · rw [releaseEntry_idle (.inr (by simpa using engaged))]
      simp only [true_and, reduceCtorEq, or_false, iff_self_and]
      rintro on rfl
      exact engaged on

/-- STOP releases every engaged entry (R149). -/
theorem releaseAll_freed (s : State) (e : Fin 3) (on : ((s.releaseWhere fun _ => true).subEntry e).engaged = true) :
    ((s.releaseWhere fun _ => true).subEntry e).pair = none := by
  have one (t : State) (e k : Fin 3) (h : (t.subEntry k).engaged = true → k < e → (t.subEntry k).pair = none)
      (on : ((if (t.subEntry e).pair.any (fun _ => true) then t.releaseEntry e else t).subEntry k).engaged = true) (low : k ≤ e) :
      ((if (t.subEntry e).pair.any (fun _ => true) then t.releaseEntry e else t).subEntry k).pair = none := by
    split at on
    · rename_i some
      rw [if_pos some, (releaseEntry_subEntry ..).1]
      obtain ⟨on, other⟩ := (releaseEntry_subEntry t e k).2.mp on
      obtain other | none := other
      · exact h on (lt_of_le_of_ne low other)
      · simp [none] at some
    · rename_i none
      rw [if_neg none]
      by_cases same : k = e
      · subst same
        rcases pair : (t.subEntry k).pair with _ | x
        · rfl
        · simp [pair] at none
      · exact h on (lt_of_le_of_ne low same)
  have first := one s 0
  have second := one _ 1 e (fun on low => first e (fun _ h => absurd h (Nat.not_lt_zero _)) on (by omega))
  exact one _ 2 e (fun on low => second on (by omega)) on (by omega)

theorem examined_foldl {α : Type} {f : State → α → State} (h : ∀ s x, Examined s (f s x)) (l : List α) (s : State) :
    Examined s (l.foldl f s) := by
  induction l generalizing s with
  | nil => exact .refl s
  | cons x l ih => exact (h s x).trans (ih _)

theorem functionChanged_examined (s : State) (ch : LampId) : Examined s (s.functionChanged ch) := by
  rw [functionChanged_rest]
  exact Examined.refl _

theorem setLamp_examined (s : State) (ch : LampId) (c : LampRec) : Examined s (s.setLamp ch c) := rfl

/-- Everything that a release can touch (R24). -/
theorem releaseEntry_examined (s : State) (e : Fin 3) : Examined s (s.releaseEntry e) := by
  by_cases idle : (s.subEntry e).pair = none ∨ (s.subEntry e).engaged = false
  · rw [releaseEntry_idle idle]
    exact Examined.refl s
  · rcases pair : (s.subEntry e).pair with _ | ⟨p, q⟩
    · exact absurd (.inl pair) idle
    · rw [releaseEntry_engaged pair (by simpa [pair] using idle)]
      exact Examined.trans (t := (s.setSub e _).setLamp q _) rfl ((functionChanged_examined ..).trans rfl)

theorem releaseWhere_examined (which : LampId × LampId → Bool) (s : State) : Examined s (s.releaseWhere which) := by
  refine examined_foldl (fun s e => ?_) allSubs s
  split
  · exact releaseEntry_examined s e
  · exact .refl s

theorem clearAllLamps_examined (s : State) : Examined s s.clearAllLamps := examined_foldl (fun _ _ => setLamp_examined ..) _ s

theorem mapChanged_examined (old : LampId → Option Fn) (s : State) : Examined s (s.mapChanged old) := by
  refine examined_foldl (fun s ch => ?_) allLamps s
  split
  · exact .refl s
  · exact functionChanged_examined ..

theorem Examined.op {s t : State} (h : Examined s t) : t.op = s.op := by rw [h]
theorem Examined.inputs {s t : State} (h : Examined s t) : t.inputs = s.inputs := by rw [h]
theorem Examined.resolver {s t : State} (h : Examined s t) : t.resolver = s.resolver := by rw [h]
theorem Examined.flash {s t : State} (h : Examined s t) : t.flash = s.flash := by rw [h]
theorem Examined.fan {s t : State} (h : Examined s t) : t.fan = s.fan := by rw [h]
theorem Examined.gauges {s t : State} (h : Examined s t) : t.gauges = s.gauges := by rw [h]
theorem Examined.supply {s t : State} (h : Examined s t) : t.supply = s.supply := by rw [h]
theorem Examined.link {s t : State} (h : Examined s t) : t.link = s.link := by rw [h]
theorem Examined.pending {s t : State} (h : Examined s t) : t.pending = s.pending := by rw [h]
theorem Examined.freeCount {s t : State} (h : Examined s t) : t.freeCount = s.freeCount := by rw [h]

theorem clearAllLamps_subEntry (s : State) (e : Fin 3) : s.clearAllLamps.subEntry e = s.subEntry e := by
  unfold State.clearAllLamps
  generalize allLamps = l
  induction l generalizing s with
  | nil => rfl
  | cons ch l ih => exact ih _

/-- STOP's fields and its change of state and map (R149). -/
theorem stopFields_moves {s : State} (out : s.op.state ≠ .limp ∧ s.op.state ≠ .sleep)
    (freed : ∀ e, (s.subEntry e).engaged = true → (s.subEntry e).pair = none) :
    Moves a s ((s.stopFields.enterState .limp).mapChanged a.serving) := by
  have flash : Moves a s { s with flash := { s.flash with hostSide := .none, hostHazard := false } } := .single (.flash _ id)
  have fan : Moves a { s with flash := { s.flash with hostSide := .none, hostHazard := false } }
      { s with flash := { s.flash with hostSide := .none, hostHazard := false }, fan := s.fan.clearLockout } :=
    .single (.fan _ .clears)
  refine (flash.trans fan).trans ((clearFaults_moves _).trans (.single (.remaps
    { s.op with configured := false, sleepRequested := false, linkSilent := false, silenceCount := 0 }
    { fns := s.resolver.fns.map (fun r => { r with base := 0 }), scenes := [], courtesy := s.resolver.courtesy.quiet } .limp
    { state := rfl, other := .inr ⟨out.1, rfl⟩, awake := ⟨out.2, by simp⟩, flags := fun h => ?_,
      resolver := ⟨fun f => by simp, fun _ => ⟨by simp, by simp, by simp⟩⟩,
      calm := fun _ => ⟨fun f => by simp, rfl, rfl, rfl⟩, freed := fun _ => freed })))
  refine ⟨by simp, rfl, ?_, h.window_none out.2⟩
  exact Bool.eq_false_iff.mpr fun e => out.1 (h.limpLighting e).1

theorem stopPart_one {s : State} (out : s.op.state ≠ .limp ∧ s.op.state ≠ .sleep) : OneDeed s s.stopPart := by
  have examined := (releaseWhere_examined (fun _ => true) s).trans (clearAllLamps_examined _)
  refine Moves.one ((releaseWhere_moves _ s).trans ((clearAllLamps_moves _).trans (stopFields_moves ?_ fun e on => ?_)))
  · rwa [examined.op]
  · rw [clearAllLamps_subEntry] at on ⊢
    exact releaseAll_freed s e on

theorem stopInLimp_one (s : State) : OneDeed s s.stopInLimp := by
  have lights : Moves s s.clearAllLamps
      { s.clearAllLamps with op := { s.clearAllLamps.op with silenceCount := 0, limpLighting := false } } :=
    .single (.lighting _ rfl rfl rfl rfl (by simp))
  exact Moves.one ((clearAllLamps_moves s).trans lights)

theorem clearEverything_moves (s : State) : Moves a s s.clearEverything := by
  have lamps : Moves a s (s.releaseWhere fun p => (s.lamp p.1).state == .lockedOut).clearAllLamps :=
    (releaseWhere_moves _ s).trans (clearAllLamps_moves _)
  unfold State.clearEverything
  generalize (s.releaseWhere fun p => (s.lamp p.1).state == .lockedOut).clearAllLamps = u at lamps
  have fan : Moves a u { u with fan := u.fan.clearLockout } := .single (.fan _ .clears)
  exact lamps.trans (fan.trans (clearFaults_moves { u with fan := u.fan.clearLockout }))

/-- FAULTCLR (R27): the channel cleared is settled before the entries are examined (log entry 40). -/
theorem clearTarget_course (s : State) (n : Nat) : Course s (s.clearTarget n).settle := by
  unfold State.clearTarget
  split
  · exact (Moves.one (clearEverything_moves s)).course
  · split
    · rename_i lamp
      unfold State.clearNamedLamp
      split
      · have cleared : Moves s s ((s.releaseWhere fun p => p.1 == ⟨n, lamp⟩).clearLamp ⟨n, lamp⟩) :=
          (releaseWhere_moves _ s).trans (.single (.clears _))
        exact (Moves.one cleared).course.trans (Moves.one (examine_moves ..)).course
      · exact (Moves.one .refl).course
    · split
      · exact (Moves.one (.single (.fan _ .clears))).course
      · split
        · exact (Moves.one (clearFault_moves s 0)).course
        · exact (Moves.one (clearFault_moves s 1)).course

/-! ### STALL_FOUND (R97, R98) -/

theorem stallFound_one {s : State} {milliamps : Nat} (stalls : s.fan.stalls milliamps = true) :
    OneDeed s (s.fanSample milliamps).arbitrate := by
  have driven : s.fan.driven = true := by
    simp only [Fan.stalls, Bool.and_eq_true] at stalls
    exact stalls.1
  have stored := storeSample_quiet s fanChan milliamps s.fan.applied
  have fan : (s.storeSample fanChan milliamps s.fan.applied).fan = s.fan := by
    unfold State.storeSample
    dsimp only
    split <;> rfl
  obtain ⟨u, q, same, e⟩ := fanStalled_eq (s.storeSample fanChan milliamps s.fan.applied) milliamps
  have acts : s.fanSample milliamps = { u with fan := s.fan.stalled } := by
    rw [State.fanSample, if_pos driven, State.fanActs, if_pos (by rw [fan]; exact stalls), e, fan]
  rw [acts]
  have conducts := Fan.stalls_conducts stalls
  have usame : u.fan = s.fan := same.trans fan
  refine OneDeed.after (Act.stalls _ ?_ (by rwa [usame])).one (stored.trans q)
  rw [usame]
  exact stalled_moves conducts

end Sys2Proof.Machine
end

section
/-! PROOF. Every command is a course of deeds: the requests' owners and the dispatch. -/

namespace Sys2Proof.Machine

variable {a : State}

/-! ### Requests -/

/-- What a request's owner leaves is a course of deeds from what it is given, outside SLEEP, where no request is taken (R166). -/
def OwnerCourses (k : ReqKind) (owner : List Byte → State → Answer) : Prop :=
  ∀ p s, k.lengthOk p.length = true → s.op.state ≠ .sleep → Course s (owner p s).state

/-- What a request's owner leaves is one deed. -/
def OwnerDeeds (k : ReqKind) (owner : List Byte → State → Answer) : Prop :=
  ∀ p s, k.lengthOk p.length = true → s.op.state ≠ .sleep → OneDeed s (owner p s).state

/-- A request is its owner's doing between the taking of the frame and the sending of the reply (R166). -/
theorem request_between {k : ReqKind} {owner : List Byte → State → Answer} {rel : State → State → Prop}
    (quiet : ∀ {s t}, Quiet s t → rel s t) (after : ∀ {s t u}, rel t u → Quiet s t → rel s u)
    (before : ∀ {s t u}, rel s t → Quiet t u → rel s u)
    (acts : ∀ p s, k.lengthOk p.length = true → s.op.state ≠ .sleep → rel s (owner p s).state) (s : State) :
    rel s (State.request k owner s) := by
  unfold State.request
  split
  · exact quiet (.refl s)
  · rename_i f rest e
    split
    · rename_i taken
      have awake : (s.popInbound rest).op.state ≠ .sleep := by
        have := taken.1
        simp only [State.mayTake, Bool.and_eq_true, bne_iff_ne] at this
        exact this.2
      refine before (after ?_ (popInbound_quiet e)) (quiet_send ..)
      unfold answerOf
      split
      · exact acts _ _ ‹_› awake
      · exact quiet (.refl _)
    · exact quiet (.refl s)

theorem request_one {k : ReqKind} {owner : List Byte → State → Answer} (acts : OwnerDeeds k owner) (s : State) :
    OneDeed s (State.request k owner s) := request_between Quiet.one OneDeed.after OneDeed.then acts s

theorem request_course {k : ReqKind} {owner : List Byte → State → Answer} (acts : OwnerCourses k owner) (s : State) :
    Course s (State.request k owner s) :=
  request_between (fun q => q.one.course) (fun c q => q.one.course.trans c) (fun c q => c.trans q.one.course) acts s

theorem inLimp_deeds {k : ReqKind} {owner : List Byte → State → Answer}
    (h : ∀ p s, k.lengthOk p.length = true → s.op.state = .limp → OneDeed s (owner p s).state) : OwnerDeeds k (inLimp owner) := by
  intro p s length _
  unfold inLimp
  split
  · exact h p s length ‹_›
  · exact .refl s

theorem notInLimp_deeds {k : ReqKind} {owner : List Byte → State → Answer}
    (h : ∀ p s, k.lengthOk p.length = true → s.op.state ≠ .limp → OneDeed s (owner p s).state) :
    OwnerDeeds k (notInLimp owner) := by
  intro p s length _
  unfold notInLimp
  split
  · exact .refl s
  · exact h p s length ‹_›

theorem answer_one {s t : State} {code : ResultCode} {data : List Byte} (h : OneDeed s t) :
    OneDeed s (Answer.state { state := t, code := code, data := data }) := h

/-! #### Reads and reports -/

theorem read_deeds {k : ReqKind} {owner : List Byte → State → Answer} (h : ∀ p s, (owner p s).state = s) : OwnerDeeds k owner :=
  fun p s _ _ => by rw [h]; exact .refl s

theorem chread_state (p : List Byte) (s : State) : (chreadOwner p s).state = s := by unfold chreadOwner; split <;> rfl
theorem fnread_state (p : List Byte) (s : State) : (fnreadOwner p s).state = s := by unfold fnreadOwner; split <;> rfl
theorem supplyread_state (p : List Byte) (s : State) : (supplyreadOwner p s).state = s := by
  unfold supplyreadOwner; split <;> rfl
theorem fanread_state (p : List Byte) (s : State) : (fanreadOwner p s).state = s := by unfold fanreadOwner; split <;> rfl
theorem gaugeread_state (p : List Byte) (s : State) : (gaugereadOwner p s).state = s := by
  unfold gaugereadOwner; split <;> (try split) <;> rfl

theorem status_deeds : OwnerDeeds .status statusOwner := fun _ s _ _ => by
  have cleared : Quiet s s.clearSeen := { Quiet.refl s with op := ⟨rfl, rfl, rfl, rfl, Or.inl⟩ }
  exact cleared.one

theorem cause_deeds : OwnerDeeds .cause causeOwner := fun _ _ _ _ => answer_one (Quiet.one (quiet_report fun h => h))

theorem evfetch_deeds : OwnerDeeds .evfetch evfetchOwner := fun _ _ _ _ =>
  (quiet_report fun h => h.sublist (List.drop_sublist 4 _)).one

theorem evmask_deeds : OwnerDeeds .evmask evmaskOwner := fun p s _ _ => by
  unfold evmaskOwner
  split
  · exact .refl s
  · exact answer_one (Quiet.one (quiet_report fun h => h))

/-! #### Control -/

theorem start_deeds : OwnerDeeds .start startOwner := fun p s _ _ => by
  unfold startOwner
  split
  · exact .refl s
  · rename_i limp
    split
    · exact .refl s
    · exact answer_one (startPart_one (not_not.mp limp))

theorem stop_deeds : OwnerDeeds .stop stopOwner := fun p s _ awake => by
  unfold stopOwner
  split
  · exact .refl s
  · exact answer_one (stopInLimp_one s)
  · exact answer_one (stopPart_one ⟨by simp [*], awake⟩)
  · exact answer_one (stopPart_one ⟨by simp [*], awake⟩)
  · exact answer_one (stopPart_one ⟨by simp [*], awake⟩)

theorem sleep_deeds : OwnerDeeds .sleep sleepOwner := fun p s _ _ => by
  unfold sleepOwner
  split
  · exact .refl s
  · exact .refl s
  · exact answer_one (requestSleep_one ‹_›)
  · exact .refl s
  · exact .refl s

theorem wake_deeds : OwnerDeeds .wake wakeOwner := fun p s _ _ => by
  unfold wakeOwner
  split
  · exact .refl s
  · exact answer_one (Moves.one (wakeTo_moves (by simp [*]) (.inr rfl) _))
  · exact .refl s
  · exact .refl s
  · exact .refl s

theorem restart_deeds : OwnerDeeds .restart restartOwner := fun _ _ _ _ => answer_one (Quiet.one (quiet_link (fun h => h) fun h => h))

/-! #### Demands -/

theorem setBase_moves {s : State} (out : s.op.state ≠ .limp) (f : Fn) (v : Nat) : Moves a s (s.setBase f v) := by
  refine .single (.resolver _ (fun _ limp => absurd limp out) ⟨fun g => ?_, id⟩)
  have e := State.fnRec_setFn s f g { s.fnRec f with base := v }
  change ((s.setBase f v).fnRec g).cls = (s.fnRec g).cls ∧ ((s.setBase f v).fnRec g).ignitionFed = (s.fnRec g).ignitionFed
  rw [State.setBase, e]
  split
  · rename_i same
    rw [same]
    exact ⟨rfl, rfl⟩
  · exact ⟨rfl, rfl⟩

theorem storeAll_moves {s : State} (out : s.op.state ≠ .limp) (ps : List (Fn × Nat)) : Moves a s (s.storeAll ps) := by
  unfold State.storeAll
  induction ps generalizing s with
  | nil => exact .refl
  | cons x ps ih => exact (setBase_moves out ..).trans (ih (s := s.setBase _ _) out)

theorem fnset_deeds : OwnerDeeds .fnset (notInLimp fnsetOwner) := notInLimp_deeds fun p s _ out => by
  unfold fnsetOwner
  split
  · exact .refl s
  · split
    · exact .refl s
    · exact answer_one (Moves.one (setBase_moves out ..))

theorem fnmulti_deeds : OwnerDeeds .fnmulti (notInLimp fnmultiOwner) := notInLimp_deeds fun p s _ out => by
  unfold fnmultiOwner
  split
  · exact .refl s
  · exact answer_one (Moves.one (storeAll_moves out _))

theorem turn_deeds : OwnerDeeds .turn (notInLimp turnOwner) := notInLimp_deeds fun p s _ _ => by
  unfold turnOwner
  split
  · exact .refl s
  · exact answer_one (Moves.one (.single (.flash _ id)))

theorem haz_deeds : OwnerDeeds .haz (notInLimp hazOwner) := notInLimp_deeds fun p s _ _ => by
  unfold hazOwner
  split
  · exact .refl s
  · exact answer_one (Moves.one (.single (.flash _ id)))

theorem pairsOf_length (p : List Byte) : (pairsOf p).length = p.length / 2 := by
  induction p using pairsOf.induct with
  | case1 a b rest ih => simp [pairsOf, ih]; omega
  | case2 p short =>
    match p, short with
    | [], _ => rfl
    | [_], _ => simp [pairsOf]
    | _ :: _ :: _, h => exact absurd rfl (h _ _ _)

theorem Fn.ofCode_of_le {n : Nat} (h : n ≤ 15) : ∃ f, Fn.ofCode n = some f := by
  have : n < allFns.length := by simp [allFns]; omega
  exact ⟨_, List.getElem?_eq_getElem this⟩

theorem namedPairs_length {ps : List (Nat × Nat)} (h : ∀ x ∈ ps, x.1 ≤ 15) : (namedPairs ps).length = ps.length := by
  induction ps with
  | nil => rfl
  | cons x ps ih =>
    obtain ⟨f, e⟩ := Fn.ofCode_of_le (h x (by simp))
    have rest := ih fun y hy => h y (by simp [hy])
    simp only [namedPairs, List.filterMap_cons, e, Option.map_some, List.length_cons] at rest ⊢
    rw [rest]

/-- A scene that passes its checks keeps the list in its bounds (R57, R58). -/
theorem sceneadd_listOk {scenes : List Scene} {id life : Byte} {ps : List (Nat × Nat)}
    (checked : sceneaddCheck scenes id ps = none) (few : ps.length ≤ 6) (h : SceneListOk scenes) :
    SceneListOk (scenes ++ [sceneOf id life (namedPairs ps)]) := by
  unfold sceneaddCheck at checked
  obtain ⟨_, distinct, each⟩ := h
  have room : scenes.length < 4 := Nat.not_le.mp fun full => by simp [full] at checked
  rw [if_neg (by omega)] at checked
  have new : hasScene scenes id = false := Bool.eq_false_iff.mpr fun known => by simp [known] at checked
  rw [if_neg (by simp [new])] at checked
  have free : anySceneProtected ps = false := Bool.eq_false_iff.mpr fun known => by simp [known] at checked
  rw [if_neg (by simp [free])] at checked
  have sound := (ite_eq_right_iff.mp checked)
  simp only [reduceCtorEq, imp_false, not_or] at sound
  obtain ⟨nonzero, some, named, _, _⟩ := sound
  have codes : ∀ x ∈ ps, x.1 ≤ 15 := by simpa using named
  have length : (namedPairs ps).length = ps.length := namedPairs_length codes
  refine ⟨by simp; omega, ?_, fun sc hsc => ?_⟩
  · rw [List.map_append, List.nodup_append]
    refine ⟨distinct, by simp, fun x hx y hy => ?_⟩
    obtain ⟨sc, hsc, rfl⟩ := List.mem_map.mp hx
    obtain rfl : y = id := by simpa [sceneOf] using hy
    have := new
    simp only [hasScene, List.any_eq_false, beq_iff_eq] at this
    exact this sc hsc
  · obtain hsc | hsc := List.mem_append.mp hsc
    · exact each sc hsc
    · obtain rfl := List.mem_singleton.mp hsc
      have : ps ≠ [] := by simpa using some
      have := List.length_pos_of_ne_nil this
      simp only [sceneOf, List.length_map, length]
      exact ⟨nonzero, by omega, few⟩

theorem sceneadd_deeds : OwnerDeeds .sceneadd (notInLimp sceneaddOwner) := notInLimp_deeds fun p s length out => by
  unfold sceneaddOwner
  split
  · exact .refl s
  · rename_i checked
    have few : (pairsOf (p.drop 2)).length ≤ 6 := by
      rw [pairsOf_length, List.length_drop]
      simp [ReqKind.lengthOk] at length
      omega
    exact answer_one (Moves.one (setScenes_moves (fun _ limp => absurd limp out) (sceneadd_listOk checked few)))

theorem scenedrop_deeds : OwnerDeeds .scenedrop (notInLimp scenedropOwner) := notInLimp_deeds fun p s _ out => by
  unfold scenedropOwner
  split
  · exact answer_one (Moves.one (setScenes_moves (fun _ limp => absurd limp out) (withoutScene_listOk _)))
  · exact .refl s

theorem faultclr_courses : OwnerCourses .faultclr (notInLimp faultclrOwner) := fun p s _ _ => by
  unfold notInLimp
  split
  · exact .refl
  · unfold faultclrOwner
    split
    · exact .refl
    · dsimp only
      exact clearTarget_course s _

theorem gaugetest_deeds : OwnerDeeds .gaugetest gaugetestOwner := fun p s _ _ => by
  unfold gaugetestOwner
  split
  · exact .refl s
  · split
    · exact .refl s
    · split
      · exact .refl s
      · exact (quiet_mapGauges 0 fun x => enterTest_quiet x _ _).one

/-! #### Configuration -/

theorem chcfg_deeds : OwnerDeeds .chcfg (inLimp chcfgOwner) := inLimp_deeds fun p s _ limp => by
  unfold chcfgOwner
  split
  · exact .refl s
  · split
    · exact .refl s
    · exact (Act.chcfg _ _ limp).one

theorem subcfg_deeds : OwnerDeeds .subcfg (inLimp subcfgOwner) := inLimp_deeds fun p s _ limp => by
  unfold subcfgOwner
  split
  · split
    · exact (Act.subcfg _ _ limp).one
    · split
      · split
        · exact (Act.subcfg _ _ limp).one
        · exact .refl s
      · exact .refl s
  · exact .refl s

theorem fncfg_deeds : OwnerDeeds .fncfg (inLimp fncfgOwner) := inLimp_deeds fun p s _ limp => by
  unfold fncfgOwner
  split
  · exact .refl s
  · rename_i f _
    split
    · exact .refl s
    · rename_i conf
      refine (Act.fncfg f _ _ limp (by simpa using conf) rfl (fun e => ?_) ?_).one
      · simp [fncfgRec, e]
      · unfold fncfgCourtesy
        split <;> exact ⟨rfl, rfl⟩

theorem flashcfg_deeds : OwnerDeeds .flashcfg (inLimp flashcfgOwner) := inLimp_deeds fun p s _ _ => by
  unfold flashcfgOwner
  exact answer_one (Quiet.one (quiet_flash (by constructor <;> simp)))

theorem fancfg_deeds : OwnerDeeds .fancfg (inLimp fancfgOwner) := inLimp_deeds fun _ _ _ limp => (Act.fancfg _ limp).one

theorem gaugecfg_deeds : OwnerDeeds .gaugecfg (inLimp gaugecfgOwner) := inLimp_deeds fun p s _ limp => by
  unfold gaugecfgOwner
  split
  · exact (quiet_setGauge (by constructor <;> simp [limp])).one
  · exact .refl s

theorem takePart_quiet {x y : Gauge} {n first awaited : Nat} {part : List Point}
    (h : x.takePart n first part = some (y, awaited)) (o : OpState) (hold : Bool) : GaugeQuiet o hold x y := by
  unfold Gauge.takePart at h
  split at h
  · split at h <;> cases h <;> constructor <;> simp [Gauge.takeCurve]
  · split at h
    · split at h
      · cases h
        constructor <;> simp [Gauge.takeCurve]
      · cases h
    · cases h

theorem curvecfg_deeds : OwnerDeeds .curvecfg (inLimp curvecfgOwner) := inLimp_deeds fun p s _ _ => by
  unfold curvecfgOwner
  split
  · exact .refl s
  · dsimp only
    split
    · exact .refl s
    · split
      · exact .refl s
      · exact (quiet_setGauge (takePart_quiet ‹_› ..)).one

theorem supplycfg_deeds : OwnerDeeds .supplycfg (inLimp supplycfgOwner) := inLimp_deeds fun p s _ _ => by
  unfold supplycfgOwner
  split
  · exact .refl s
  · rename_i v _
    dsimp only
    split
    · exact .refl s
    · have supply : Quiet s { s with supply := s.supply.reconfigured (supplySettingsOf v p) } :=
        quiet_supply rfl rfl fun ⟨_, levels, highest⟩ => ⟨(Nat.min_le_right ..).trans_eq (cap_eq _), levels, highest⟩
      exact (supply.trans (quiet_mapGauges (f := Gauge.reloadVref v) _ fun x => by
        constructor <;> simp [Gauge.reloadVref])).one

theorem inputcfg_deeds : OwnerDeeds .inputcfg (inLimp inputcfgOwner) := inLimp_deeds fun p s _ _ => by
  have polarity (r : InRec) (x : Polarity) : (r.setPolarity x).level = r.level := by unfold InRec.setPolarity; split <;> rfl
  unfold inputcfgOwner
  split
  · rename_i ps m0 m1 _ _ _
    have stored : Quiet s { s with inputs := s.inputs.configured ps m0 m1 } :=
      { Quiet.refl s with levels := fun i h => by cases i <;> first | exact polarity .. | cases h }
    exact stored.one
  · exact .refl s

theorem linkcfg_deeds : OwnerDeeds .linkcfg (inLimp linkcfgOwner) := inLimp_deeds fun p s _ _ => by
  unfold linkcfgOwner
  exact answer_one (Quiet.one (quiet_op (by constructor <;> simp +contextual)))

/-! ### Every command -/

/-- What a command does, but for the release of a reset: one deed, or a course where it may bring several causes. -/
def Does (c : Instr) (s : State) (o : Host.Outcome State Fault Refusal) : Prop :=
  ∃ t, o = .next t ∧ Course s t ∧ (oneCause c = true → OneDeed s t)

theorem does_one {c : Instr} {s : State} {k : State → State}
    (h : OneDeed s (k s)) : Does c s (s.live k) := by
  unfold State.live
  split
  · exact ⟨s, rfl, .refl, fun _ => .refl s⟩
  · exact ⟨_, rfl, h.course, fun _ => h⟩

theorem does_course {c : Instr} {s : State} {k : State → State}
    (h : Course s (k s)) (one : oneCause c = true → OneDeed s (k s)) : Does c s (s.live k) := by
  unfold State.live
  split
  · exact ⟨s, rfl, .refl, fun _ => .refl s⟩
  · exact ⟨_, rfl, h, one⟩

theorem does_if {c : Instr} {s : State} {p : State → Prop} [∀ s, Decidable (p s)] {k : State → State}
    (h : p s → OneDeed s (k s)) : Does c s (s.live fun s => if p s then k s else s) :=
  does_one (oneDeed_ite h fun _ => .refl s)

theorem does_request {c : Instr} {s : State} {k : ReqKind} {owner : List Byte → State → Answer}
    (h : OwnerDeeds k owner) : Does c s (s.live (State.request k owner)) :=
  does_one (request_one h s)

theorem holdReset_quiet (s : State) (causes : CauseSet) : Quiet s (s.holdReset causes) :=
  { Quiet.refl s with op := ⟨rfl, rfl, rfl, rfl, Or.inl⟩ }

theorem does_hold {c : Instr} {s : State} (causes : CauseSet) : Does c s (.next (s.holdReset causes)) :=
  ⟨_, rfl, (holdReset_quiet s causes).one.course, fun _ => (holdReset_quiet s causes).one⟩

theorem wakeConfirmed_course (i : WakeInput) (pins : PinLevels) (s : State) :
    Course s (if s.op.state = .sleep then
      match s.op.window with
      | some w => s.confirmBy i pins w
      | none => s
    else s) := by
  split
  · rename_i asleep
    split
    · unfold State.confirmBy
      split
      · exact confirmWake_course asleep ..
      · exact .refl
    · exact .refl
  · exact .refl

theorem exec_does (c : Instr) (s : State) (h : ∀ polOpen, c ≠ .resetRelease polOpen) : Does c s (exec c s) := by
  cases c with
  | resetRelease polOpen => exact absurd rfl (h polOpen)
  | ident =>
    unfold exec execIdent
    exact does_request (read_deeds fun _ _ => rfl)
  | status =>
    unfold exec execStatus
    exact does_request status_deeds
  | cause =>
    unfold exec execCause
    exact does_request cause_deeds
  | evfetch =>
    unfold exec execEvfetch
    exact does_request evfetch_deeds
  | evmask =>
    unfold exec execEvmask
    exact does_request evmask_deeds
  | start =>
    unfold exec execStart
    exact does_request start_deeds
  | stop =>
    unfold exec execStop
    exact does_request stop_deeds
  | sleep =>
    unfold exec execSleep
    exact does_request sleep_deeds
  | wake =>
    unfold exec execWake
    exact does_request wake_deeds
  | restart =>
    unfold exec execRestart
    exact does_request restart_deeds
  | fnset =>
    unfold exec execFnset
    exact does_request fnset_deeds
  | fnmulti =>
    unfold exec execFnmulti
    exact does_request fnmulti_deeds
  | turn =>
    unfold exec execTurn
    exact does_request turn_deeds
  | haz =>
    unfold exec execHaz
    exact does_request haz_deeds
  | sceneadd =>
    unfold exec execSceneadd
    exact does_request sceneadd_deeds
  | scenedrop =>
    unfold exec execScenedrop
    exact does_request scenedrop_deeds
  | faultclr =>
    unfold exec execFaultclr
    exact does_course (request_course faultclr_courses s) fun one => by cases one
  | gaugetest =>
    unfold exec execGaugetest
    exact does_request gaugetest_deeds
  | chread =>
    unfold exec execChread
    exact does_request (read_deeds chread_state)
  | fnread =>
    unfold exec execFnread
    exact does_request (read_deeds fnread_state)
  | sceneread =>
    unfold exec execSceneread
    exact does_request (read_deeds fun _ _ => rfl)
  | supplyread =>
    unfold exec execSupplyread
    exact does_request (read_deeds supplyread_state)
  | fanread =>
    unfold exec execFanread
    exact does_request (read_deeds fanread_state)
  | gaugeread =>
    unfold exec execGaugeread
    exact does_request (read_deeds gaugeread_state)
  | chcfg =>
    unfold exec execChcfg
    exact does_request chcfg_deeds
  | subcfg =>
    unfold exec execSubcfg
    exact does_request subcfg_deeds
  | fncfg =>
    unfold exec execFncfg
    exact does_request fncfg_deeds
  | flashcfg =>
    unfold exec execFlashcfg
    exact does_request flashcfg_deeds
  | fancfg =>
    unfold exec execFancfg
    exact does_request fancfg_deeds
  | gaugecfg =>
    unfold exec execGaugecfg
    exact does_request gaugecfg_deeds
  | curvecfg =>
    unfold exec execCurvecfg
    exact does_request curvecfg_deeds
  | supplycfg =>
    unfold exec execSupplycfg
    exact does_request supplycfg_deeds
  | inputcfg =>
    unfold exec execInputcfg
    exact does_request inputcfg_deeds
  | linkcfg =>
    unfold exec execLinkcfg
    exact does_request linkcfg_deeds
  | unknownKind =>
    unfold exec execUnknownKind
    exact does_one (takeUnknown_quiet s).one
  | rxByte data parity stop =>
    unfold exec execRxByte
    exact does_one (receive_one s data parity stop)
  | gapTimeout =>
    unfold exec execGapTimeout
    exact does_one (quiet_assembler s .hunt).one
  | replySent =>
    unfold exec execReplySent
    exact does_one (quiet_sent s).one
  | restartReset =>
    unfold exec execRestartReset
    exact does_if fun _ => (holdReset_quiet ..).one
  | powerOn =>
    unfold exec execPowerOn
    exact does_hold _
  | brownout =>
    unfold exec execBrownout
    exact does_hold _
  | resetLine =>
    unfold exec execResetLine
    exact does_hold _
  | currentSample readings =>
    unfold exec execCurrentSample
    exact does_course (currentSample_course s readings).1 fun few =>
      (currentSample_course s readings).2 (by simpa [oneCause] using few)
  | channelAverage =>
    unfold exec execChannelAverage
    exact does_one (averageMark_quiet s).one
  | trip ch milliamps =>
    unfold exec execTrip
    exact does_if fun _ => Moves.one (lampSample_moves ..)
  | inrushEnd ch =>
    unfold exec execInrushEnd
    exact does_if fun on => (Act.inrushEnds ch on).one
  | retryExpiry ch =>
    unfold exec execRetryExpiry
    exact does_if fun on => (Act.retryEnds ch on).one
  | tripForgiveness ch =>
    unfold exec execTripForgiveness
    exact does_if fun _ => (quiet_setLamp (by constructor <;> rfl)).one
  | lampOutDecision ch milliamps =>
    unfold exec execLampOutDecision
    exact does_if fun _ => Moves.one (lampSample_moves ..)
  | fedDecision ch millivolts =>
    unfold exec execFedDecision
    exact does_if fun _ => (readBack_quiet ..).one
  | onPhaseEnd =>
    unfold exec execOnPhaseEnd
    exact does_if fun on => endOnPhase_one on
  | offPhaseEnd =>
    unfold exec execOffPhaseEnd
    exact does_if fun _ => endOffPhase_one s
  | kickEnd =>
    unfold exec execKickEnd
    exact does_if fun on => (Act.kickEnds on).one
  | rampTimerExpiry =>
    unfold exec execRampTimerExpiry
    exact does_if fun on => (Act.ramps on).one
  | stallFound milliamps =>
    unfold exec execStallFound
    exact does_if fun stalls => stallFound_one stalls
  | stallWaitEnd =>
    unfold exec execStallWaitEnd
    exact does_if fun on => (Act.waitEnds on).one
  | fanForgiveness =>
    unfold exec execFanForgiveness
    exact does_if fun _ => (quiet_fan (by constructor <;> rfl)).one
  | senseSample g code =>
    unfold exec execSenseSample
    exact does_one (senseSample_quiet ..).one
  | gaugeUpdate =>
    unfold exec execGaugeUpdate
    exact does_one (gaugeMark_quiet s).one
  | senderStatusChange g =>
    unfold exec execSenderStatusChange
    exact does_if fun _ => (gaugeMark_quiet s).one
  | gaugeOutputShort g milliamps =>
    unfold exec execGaugeOutputShort
    exact does_if fun _ => (gaugeSample_quiet ..).one
  | testComplete =>
    unfold exec execTestComplete
    exact does_if fun _ => (gaugeMark_quiet s).one
  | supplySample bat chg =>
    unfold exec execSupplySample
    exact does_one (supplySampled_one ..)
  | holdEnd bat chg =>
    unfold exec execHoldEnd
    exact does_if fun _ => supplySampled_one ..
  | supplyEvaluation =>
    unfold exec execSupplyEvaluation
    exact does_one (supplyMark_one s)
  | chargeChange =>
    unfold exec execChargeChange
    exact does_if fun _ => supplyMark_one s
  | voltageLevelChange =>
    unfold exec execVoltageLevelChange
    exact does_if fun _ => supplyMark_one s
  | inputSample pins =>
    unfold exec execInputSample
    exact does_course (sampleInputs_course ..) fun one => by cases one
  | inputLevelChange i =>
    unfold exec execInputLevelChange
    exact does_one (inputLevelChanged_one s i)
  | enterSleep =>
    unfold exec execEnterSleep
    refine does_if fun may => (Act.sleeps ?_).one
    simp only [State.maySleep, Bool.and_eq_true, beq_iff_eq] at may
    exact may.1.1
  | sleepEdge i =>
    unfold exec execSleepEdge
    exact does_if fun open_ => (quiet_window fun _ => open_.1).one
  | wakeConfirmed i pins =>
    unfold exec execWakeConfirmed
    exact does_course (wakeConfirmed_course ..) fun one => by cases one
  | windowTimeout =>
    unfold exec execWindowTimeout
    exact does_if fun _ => (quiet_window fun e => absurd rfl e).one
  | rxWake =>
    unfold exec execRxWake
    refine does_course (k := fun s => if s.op.state = .sleep then s.rxWakes else s) ?_ fun one => by cases one
    split
    · exact rxWakes_course ‹_›
    · exact .refl
  | receiverRestart =>
    unfold exec execReceiverRestart
    exact does_if fun _ => Quiet.one (quiet_link (fun h => h) fun h => h)
  | sceneExpiry id =>
    unfold exec execSceneExpiry
    refine does_course (k := fun s => if expiringScene s.resolver.scenes id then s.expireScene id else s) ?_ fun one => by
      cases one
    split
    · exact expireScene_course ..
    · exact .refl
  | dwellEnd =>
    unfold exec execDwellEnd
    exact does_if fun on => Moves.one (setCourtesy_moves (by simp [on]))
  | fadeStep =>
    unfold exec execFadeStep
    exact does_if fun on => Moves.one (setCourtesy_moves (by simp [on]))
  | linkTimeout =>
    unfold exec execLinkTimeout
    exact does_if fun _ => (goSilent_quiet s).one
  | limpLightingBegin =>
    unfold exec execLimpLightingBegin
    exact does_if fun ⟨limp, ign, _⟩ => Moves.one (.single (.lighting _ rfl rfl rfl rfl fun _ => ⟨limp, ign⟩))
  | timeCountTick =>
    unfold exec execTimeCountTick
    exact does_one (tick_quiet s).one

end Sys2Proof.Machine
end

section
/-! PROOF. What the composite moves write, record by record. -/

namespace Sys2Proof.Machine

/-! ### A change of serving function (R21, R38) -/

/-- The record of a channel whose serving function has changed. -/
def LampRec.remapped (c : LampRec) : LampRec :=
  { c with
    lampOut := false
    lampRun := { verdict := false, count := 0 }
    phaseSample := none
    entered := true
    state := if c.state = .queued then .off else c.state }

theorem functionChanged_lamp (s : State) (ch c : LampId) :
    (s.functionChanged ch).lamp c = if c = ch then (s.lamp ch).remapped else s.lamp c := by
  unfold State.functionChanged LampRec.remapped
  dsimp only
  split
  · rw [show ∀ t : State, (t.dropEntry ch).lamp c = t.lamp c from fun _ => rfl, State.lamp_setLamp]
  · rw [State.lamp_setLamp]

theorem functionChanged_queue (s : State) (ch : LampId) : (s.functionChanged ch).queue =
    if (s.lamp ch).state = .queued then s.queue.filter (fun e => e.ch.val != ch.val) else s.queue := by
  unfold State.functionChanged
  dsimp only
  split <;> rfl

@[simp] theorem functionChanged_op (s : State) (ch : LampId) : (s.functionChanged ch).op = s.op := by rw [functionChanged_rest]
@[simp] theorem functionChanged_report (s : State) (ch : LampId) : (s.functionChanged ch).report = s.report := by
  rw [functionChanged_rest]

theorem functionChanged_serving (s : State) (ch c : LampId) : (s.functionChanged ch).serving c = s.serving c := by
  refine serving_of_map (by simp) (fun k => ?_) c
  rw [functionChanged_lamp]
  split
  · rename_i e
    subst e
    exact ⟨rfl, rfl⟩
  · exact ⟨rfl, rfl⟩

/-! ### A change of the map (R21) -/

/-- The channels whose serving function differs from the one given have changed, in any list of channels. -/
theorem mapChanged_fold (old : LampId → Option Fn) (l : List LampId) (distinct : l.Nodup) (s : State) :
    let t := l.foldl (fun s ch => if s.serving ch = old ch then s else s.functionChanged ch) s
    (∀ c, t.lamp c = if c ∈ l ∧ s.serving c ≠ old c then (s.lamp c).remapped else s.lamp c) ∧
      t.queue = s.queue.filter (fun e => !l.any fun c => e.ch.val == c.val && s.serving c != old c && (s.lamp c).state == .queued) ∧
      t.report = s.report := by
  induction l generalizing s with
  | nil => simp
  | cons a l ih =>
    obtain ⟨fresh, distinct⟩ := List.nodup_cons.mp distinct
    dsimp only
    rw [List.foldl_cons]
    by_cases same : s.serving a = old a
    · rw [if_pos same]
      obtain ⟨lamps, queue, report⟩ := ih distinct s
      refine ⟨fun c => ?_, ?_, report⟩
      · rw [lamps c]
        by_cases e : c = a
        · subst e; simp [same]
        · simp [e]
      · rw [queue]
        simp [same]
    · rw [if_neg same]
      obtain ⟨lamps, queue, report⟩ := ih distinct (s.functionChanged a)
      have kept (c : LampId) (h : c ∈ l) : (s.functionChanged a).lamp c = s.lamp c :=
        functionChanged_lamp_other s fun e => fresh (e ▸ h)
      refine ⟨fun c => ?_, ?_, by rw [report, functionChanged_report]⟩
      · rw [lamps c, functionChanged_serving, functionChanged_lamp]
        by_cases e : c = a
        · subst e; simp [fresh, same]
        · simp [e]
      · rw [queue, functionChanged_queue]
        have rest : ∀ e : QEntry, (l.any fun c => e.ch.val == c.val && (s.functionChanged a).serving c != old c &&
            ((s.functionChanged a).lamp c).state == .queued) =
              l.any fun c => e.ch.val == c.val && s.serving c != old c && (s.lamp c).state == .queued := fun e => by
          rw [Bool.eq_iff_iff, List.any_eq_true, List.any_eq_true]
          exact exists_congr fun c => and_congr_right fun h => by rw [functionChanged_serving, kept c h]
        simp only [rest, List.any_cons]
        split
        · rename_i queued
          rw [List.filter_filter]
          refine List.filter_congr fun e _ => ?_
          simp only [queued, beq_self_eq_true, Bool.and_true, Bool.not_or, bne_iff_ne.mpr same]
          rw [Bool.and_comm]
          rfl
        · rename_i other
          refine List.filter_congr fun e _ => ?_
          simp [other]

theorem mapChanged_lamp (old : LampId → Option Fn) (s : State) (c : LampId) :
    (s.mapChanged old).lamp c = if s.serving c ≠ old c then (s.lamp c).remapped else s.lamp c := by
  have all : c ∈ allLamps := by revert c; decide
  rw [State.mapChanged, (mapChanged_fold old allLamps (by decide) s).1 c]
  simp [all]

theorem mapChanged_queue (old : LampId → Option Fn) (s : State) : (s.mapChanged old).queue =
    s.queue.filter (fun e => !allLamps.any fun c => e.ch.val == c.val && s.serving c != old c && (s.lamp c).state == .queued) :=
  (mapChanged_fold old allLamps (by decide) s).2.1

theorem mapChanged_report (old : LampId → Option Fn) (s : State) : (s.mapChanged old).report = s.report :=
  (mapChanged_fold old allLamps (by decide) s).2.2

/-! ### Engagement and release (R23, R24) -/

/-- The record of a spare that engages for a primary with given settings, before its serving function changes. -/
def LampRec.standsIn (c : LampRec) (p : LampId) (primary : LampCfg) : LampRec :=
  { c with setAside := some c.cfg, cfg := c.cfg.takenFrom primary, substituteFor := some p }

theorem engage_lamp (s : State) (e : Fin 3) (p q c : LampId) : (s.engage e p q).lamp c =
    if c = q then ((s.lamp q).standsIn p (s.lamp p).cfg).remapped else s.lamp c := by
  have raised (u : State) : (u.raise .subst p.val q.val).lamp c = u.lamp c := by rw [raise_rest]; rfl
  unfold State.engage
  dsimp only
  rw [raised, functionChanged_lamp]
  split
  · rw [State.lamp_setSub, State.lamp_setLamp_same]
    rfl
  · exact State.lamp_setLamp_other _ _ ‹_›

theorem engage_queue (s : State) (e : Fin 3) (p q : LampId) : (s.engage e p q).queue =
    if (s.lamp q).state = .queued then s.queue.filter (fun x => x.ch.val != q.val) else s.queue := by
  unfold State.engage
  dsimp only
  rw [raise_queue, functionChanged_queue, State.lamp_setSub, State.lamp_setLamp_same]
  rfl

theorem engage_subEntry (s : State) (e k : Fin 3) (p q : LampId) : (s.engage e p q).subEntry k =
    if k = e then { s.subEntry e with engaged := true } else s.subEntry k := by
  have raised (u : State) : (u.raise .subst p.val q.val).subEntry k = u.subEntry k := by rw [raise_rest]; rfl
  unfold State.engage
  dsimp only
  rw [raised, functionChanged_subEntry, State.subEntry_setSub]
  rfl

theorem engage_events {s : State} (e : Fin 3) (p q : LampId) (h : EventsOk s) : EventsOk (s.engage e p q) := by
  refine raise_eventsOk ?_ ..
  rw [eventsOk_iff, functionChanged_report]
  exact h

theorem release_lamp {s : State} {e : Fin 3} {p q : LampId} (pair : (s.subEntry e).pair = some (p, q))
    (engaged : (s.subEntry e).engaged = true) (c : LampId) :
    (s.releaseEntry e).lamp c = if c = q then (s.lamp q).release.remapped else s.lamp c := by
  rw [releaseEntry_engaged pair engaged]
  change ((((s.setSub e _).setLamp q _).functionChanged q)).lamp c = _
  rw [functionChanged_lamp]
  split
  · rw [State.lamp_setLamp_same]
  · exact State.lamp_setLamp_other _ _ ‹_›

theorem release_queue {s : State} {e : Fin 3} {p q : LampId} (pair : (s.subEntry e).pair = some (p, q))
    (engaged : (s.subEntry e).engaged = true) : (s.releaseEntry e).queue = s.queue.filter (fun x => x.ch.val != q.val) := by
  rw [releaseEntry_engaged pair engaged]
  change ((((s.setSub e _).setLamp q _).functionChanged q).queue).filter _ = _
  rw [functionChanged_queue, State.lamp_setLamp_same, if_neg (by simp [LampRec.release])]
  rfl

theorem release_report {s : State} {e : Fin 3} {p q : LampId} (pair : (s.subEntry e).pair = some (p, q))
    (engaged : (s.subEntry e).engaged = true) : (s.releaseEntry e).report = s.report := by
  rw [releaseEntry_engaged pair engaged]
  change ((((s.setSub e _).setLamp q _).functionChanged q)).report = _
  rw [functionChanged_report]
  rfl

theorem release_subEntry {s : State} {e : Fin 3} {p q : LampId} (pair : (s.subEntry e).pair = some (p, q))
    (engaged : (s.subEntry e).engaged = true) (k : Fin 3) :
    (s.releaseEntry e).subEntry k = if k = e then { s.subEntry e with engaged := false } else s.subEntry k := by
  rw [releaseEntry_engaged pair engaged, dropEntry_subEntry, functionChanged_subEntry, State.subEntry_setLamp,
    State.subEntry_setSub]

/-! ### Gauges written one after another -/

/-- Every gauge is written by one function of its record. -/
theorem gauges_fold (f : Gauge → Gauge) (s : State) :
    let t := allGauges.foldl (fun s g => s.setGauge g (f (s.gauge g))) s
    (∀ g, t.gauge g = f (s.gauge g)) ∧ t = { s with gauges := { s.gauges with gauges := t.gauges.gauges } } := by
  refine ⟨fun g => ?_, rfl⟩
  simp only [allGauges, List.foldl_cons, List.foldl_nil, State.gauge_setGauge]
  fin_cases g <;> simp

/-- Every lamp channel is written by one function of its record. -/
theorem lamps_fold (f : LampRec → LampRec) (l : List LampId) (distinct : l.Nodup) (s : State) :
    let t := l.foldl (fun s ch => s.setLamp ch (f (s.lamp ch))) s
    (∀ c, t.lamp c = if c ∈ l then f (s.lamp c) else s.lamp c) ∧
      t = { s with bank := { s.bank with lamps := t.bank.lamps } } := by
  induction l generalizing s with
  | nil => exact ⟨fun c => by simp, rfl⟩
  | cons a l ih =>
    obtain ⟨fresh, distinct⟩ := List.nodup_cons.mp distinct
    obtain ⟨lamps, rest⟩ := ih distinct (s.setLamp a (f (s.lamp a)))
    dsimp only at lamps rest ⊢
    rw [List.foldl_cons]
    refine ⟨fun c => ?_, rest⟩
    rw [lamps c, State.lamp_setLamp]
    by_cases e : c = a
    · subst e; simp [fresh]
    · simp [e]

/-! ### HOLD in every block (R20, R101, R118, R121) -/

/-- What the declaration of HOLD writes, before the cause is settled. -/
structure HoldDeclared (s t : State) : Prop where
  lamps : ∀ ch, t.lamp ch = (s.lamp ch).onHold
  subs : ∀ e, t.subEntry e = s.subEntry e
  queue : t.queue = s.queue
  resolver : t.resolver = s.resolver
  flash : t.flash = s.flash
  fan : t.fan = s.fan.onHold
  gauges : ∀ g, t.gauge g = (s.gauge g).onHold
  supply : t.supply = { s.supply with hold := true, releaseCount := 0 }
  inputs : t.inputs = s.inputs
  op : t.op = s.op
  link : t.link = s.link
  pending : t.pending = s.pending
  events : EventsOk s → EventsOk t

/-- The gauge unit after HOLD or on leaving DRIVE: each gauge is written, and a test that ran is aborted. -/
theorem abortIf_quiet (c : Bool) (s : State) : ∃ r n, (if c then s.abortTest else s) =
    { s with report := r, gauges := { s.gauges with testStep := n } } ∧ (EventsOk s → EventListOk r.events) := by
  cases c
  · exact ⟨s.report, s.gauges.testStep, rfl, id⟩
  · refine ⟨s.abortTest.report, 0, ?_, (abortTest_quiet s).events⟩
    unfold State.abortTest
    rw [raise_report]
    rfl

theorem holdDeclared_writes (s : State) (millivolts : Nat) : HoldDeclared s (s.holdDeclared millivolts) := by
  unfold State.holdDeclared
  dsimp only
  generalize raised : { s with supply := { s.supply with hold := true, releaseCount := 0 } }.raise .holdOn 0 millivolts = u
  have rest : u = { s with supply := { s.supply with hold := true, releaseCount := 0 }, report := u.report } := by
    rw [← raised, raise_report]
  have events : EventsOk s → EventsOk u := fun h => raised ▸ raise_eventsOk (by exact h) ..
  obtain ⟨lamps, lampsRest⟩ := lamps_fold LampRec.onHold allLamps (by decide) u
  dsimp only at lamps lampsRest
  generalize allLamps.foldl (fun s ch => s.setLamp ch (s.lamp ch).onHold) u = v at lamps lampsRest
  unfold State.gaugesOnHold
  dsimp only
  obtain ⟨gauges, gaugesRest⟩ := gauges_fold Gauge.onHold { v with fan := v.fan.onHold }
  dsimp only at gauges gaugesRest
  generalize allGauges.foldl (fun s g => s.setGauge g (s.gauge g).onHold) { v with fan := v.fan.onHold } = w at gauges gaugesRest
  obtain ⟨r, n, e, ok⟩ := abortIf_quiet ({ v with fan := v.fan.onHold } : State).testRunning w
  rw [e]
  have all (c : LampId) : c ∈ allLamps := by revert c; decide
  constructor
  · intro ch
    change w.lamp ch = _
    rw [gaugesRest]
    change v.lamp ch = _
    rw [lamps ch, if_pos (all ch), rest]
    rfl
  · intro k; change w.subEntry k = _; rw [gaugesRest]; change v.subEntry k = _; rw [lampsRest, rest]; rfl
  · change w.queue = _; rw [gaugesRest, lampsRest, rest]
  · change w.resolver = _; rw [gaugesRest, lampsRest, rest]
  · change w.flash = _; rw [gaugesRest, lampsRest, rest]
  · change w.fan = _; rw [gaugesRest, lampsRest, rest]
  · intro g
    change w.gauge g = _
    rw [gauges g]
    change (v.gauge g).onHold = _
    rw [lampsRest, rest]
    rfl
  · change w.supply = _; rw [gaugesRest, lampsRest, rest]
  · change w.inputs = _; rw [gaugesRest, lampsRest, rest]
  · change w.op = _; rw [gaugesRest, lampsRest, rest]
  · change w.link = _; rw [gaugesRest, lampsRest, rest]
  · change w.pending = _; rw [gaugesRest, lampsRest, rest]
  · intro h
    refine ok ?_
    have := events h
    rw [eventsOk_iff, gaugesRest, lampsRest]
    exact this

/-! ### Entering an operating state (R146, R102, R109) -/

/-- The gauge unit as the part leaves DRIVE writes the gauges, the test's step and the report. -/
theorem gaugesLeaveDrive_writes (s : State) : ∃ x r, s.gaugesLeaveDrive = { s with gauges := x, report := r } ∧
    (∀ g : GaugeId, x.gauges[g] = (s.gauge g).leaveDrive) ∧ (EventsOk s → EventListOk r.events) := by
  unfold State.gaugesLeaveDrive
  obtain ⟨gauges, rest⟩ := gauges_fold Gauge.leaveDrive s
  dsimp only at gauges rest ⊢
  generalize allGauges.foldl (fun s g => s.setGauge g (s.gauge g).leaveDrive) s = w at gauges rest
  obtain ⟨r, n, e, ok⟩ := abortIf_quiet s.testRunning w
  rw [e]
  refine ⟨{ w.gauges with testStep := n }, r, by rw [rest], gauges, fun h => ok ?_⟩
  rw [eventsOk_iff, rest]
  exact h

/-- Entering an operating state raises STATE, and the fan and the gauges act as the part leaves DRIVE. -/
theorem enterState_writes (s : State) (new : OpState) :
    (EventsOk s → EventsOk (s.enterState new)) ∧
      (s.enterState new).fan = (if s.op.state = .drive ∧ new ≠ .drive then s.fan.leaveDrive else s.fan) ∧
      ∀ g, (s.enterState new).gauge g = if s.op.state = .drive ∧ new ≠ .drive then (s.gauge g).leaveDrive else s.gauge g := by
  unfold State.enterState
  dsimp only
  rw [raise_withOp, raise_report]
  have raised : EventsOk s → EventListOk (s.raise .state 0 new.code).report.events := fun h => raise_eventsOk h ..
  generalize (s.raise .state 0 new.code).report = rep at raised
  split
  · obtain ⟨x, r, e, gauges, ok⟩ := gaugesLeaveDrive_writes
      { s with op := { s.op with state := new }, report := rep, fan := s.fan.leaveDrive }
    rw [e]
    exact ⟨fun h => ok (raised h), rfl, gauges⟩
  · exact ⟨raised, rfl, fun _ => rfl⟩

theorem enterState_fan (s : State) (new : OpState) :
    (s.enterState new).fan = if s.op.state = .drive ∧ new ≠ .drive then s.fan.leaveDrive else s.fan :=
  (enterState_writes s new).2.1

theorem enterState_gauge (s : State) (new : OpState) (g : GaugeId) :
    (s.enterState new).gauge g = if s.op.state = .drive ∧ new ≠ .drive then (s.gauge g).leaveDrive else s.gauge g :=
  (enterState_writes s new).2.2 g

/-! ### Going to and from LIMP (R148, R149) -/

theorem enterWith_examined (s : State) (o : OpCtl) (r : Resolver) (new : OpState) (old : LampId → Option Fn) :
    Examined ({ s with op := o, resolver := r }.enterState new) (s.enterWith o r new old) := mapChanged_examined ..

theorem enterWith_op (s : State) (o : OpCtl) (r : Resolver) (new : OpState) (old : LampId → Option Fn) :
    (s.enterWith o r new old).op = { o with state := new } := by
  rw [(enterWith_examined ..).op, enterState_op]

theorem enterWith_resolver (s : State) (o : OpCtl) (r : Resolver) (new : OpState) (old : LampId → Option Fn) :
    (s.enterWith o r new old).resolver = r := by
  rw [(enterWith_examined ..).resolver, enterState_resolver]

theorem mapChanged_subEntry (old : LampId → Option Fn) (s : State) (e : Fin 3) : (s.mapChanged old).subEntry e = s.subEntry e := by
  unfold State.mapChanged
  generalize allLamps = l
  induction l generalizing s with
  | nil => rfl
  | cons a l ih =>
    rw [List.foldl_cons, ih]
    split
    · rfl
    · exact functionChanged_subEntry ..

theorem enterWith_events {s : State} (o : OpCtl) (r : Resolver) (new : OpState) (old : LampId → Option Fn) (h : EventsOk s) :
    EventsOk (s.enterWith o r new old) := by
  rw [eventsOk_iff, State.enterWith, mapChanged_report]
  exact (enterState_writes { s with op := o, resolver := r } new).1 h

end Sys2Proof.Machine
end

section
/-! PROOF. What an invariant has to meet, once: that quiet writes, moves, the settling of a cause and the acts that end without it keep
it. What every command keeps follows, and the first obligations with it (O2, the bounds of O5, POL of O14). -/

namespace Sys2Proof.Machine

/-! ### From moves to steps -/

/-- An invariant `P` of the part between commands, with what stands of it (`Q`) within a cause that began in a given state. -/
structure Invariant (P : State → Prop) (Q : State → State → Prop) : Prop where
  begins : ∀ {a}, P a → Q a a
  quiet : ∀ {s t}, P s → Quiet s t → P t
  move : ∀ {a s t}, P a → Q a s → Move a s t → Q a t
  settle : ∀ {a s}, P a → Q a s → P s.settle
  act : ∀ {s t}, P s → Act s t → P t

variable {P : State → Prop} {Q : State → State → Prop}

theorem Invariant.moves (i : Invariant P Q) {a s t : State} (hP : P a) (h : Moves a s t) (hQ : Q a s) : Q a t := by
  induction h with
  | refl => exact hQ
  | tail _ m ih => exact i.move hP ih m

theorem Invariant.oneDeed (i : Invariant P Q) {s t : State} (hP : P s) (h : OneDeed s t) : P t := by
  obtain ⟨u, v, before, deed, after⟩ := h
  have hu := i.quiet hP before
  refine i.quiet ?_ after
  cases deed with
  | nothing => exact hu
  | settles m => exact i.settle hu (i.moves hu m (i.begins hu))
  | acts a => exact i.act hu a

theorem Invariant.course (i : Invariant P Q) {s t : State} (hP : P s) (h : Course s t) : P t := by
  induction h with
  | refl => exact hP
  | tail _ d ih => exact i.oneDeed ih d

/-- Every command but the release of a reset keeps an invariant. -/
theorem Invariant.exec (i : Invariant P Q) {c : Instr} {s t : State} (hP : P s) (awake : ∀ b, c ≠ .resetRelease b)
    (e : Machine.exec c s = .next t) : P t := by
  obtain ⟨u, eu, course, _⟩ := exec_does c s awake
  obtain rfl : u = t := by rw [eu] at e; exact Host.Outcome.next.inj e
  exact i.course hP course

/-- The release of a reset gives every block its reset values (R160), or changes nothing while none is held. -/
theorem exec_resetRelease (b : Bool) (s : State) :
    exec (.resetRelease b) s = .next (if s.op.resetHeld then s.afterReset b else s) := rfl

theorem Invariant.step (i : Invariant P Q) (release : ∀ (s : State) b, P (s.afterReset b)) (pending : ∀ s x, P s → P { s with pending := x })
    {s t : State} (hP : P s) (e : Machine.step s = .next t) : P t := by
  unfold Machine.step at e
  split at e
  · exact Host.Outcome.next.inj e ▸ hP
  · rename_i c rest _
    have hr := pending s rest hP
    by_cases awake : ∀ b, c ≠ .resetRelease b
    · exact i.exec hr awake e
    · obtain ⟨b, rfl⟩ := not_forall_not.mp awake
      rw [exec_resetRelease] at e
      rw [← Host.Outcome.next.inj e]
      split
      · exact release _ b
      · exact hr

/-! ### What every command keeps -/

/-- What every command but the release of a reset keeps: the queue of commands, the sample of POL, the bounds of the queues and of the
scene list, the form of the event queue, the ranges of the supply record. -/
structure Steady (s t : State) : Prop where
  pending : t.pending = s.pending
  earth : t.inputs.earthPositive = s.inputs.earthPositive
  inbound : s.link.inbound.length ≤ 4 → t.link.inbound.length ≤ 4
  waiting : (s.link.shifting = none → s.link.waiting = none) → (t.link.shifting = none → t.link.waiting = none)
  events : EventsOk s → EventsOk t
  scenes : SceneListOk s.resolver.scenes → SceneListOk t.resolver.scenes
  supply : SupplyFits s.supply → SupplyFits t.supply

theorem Steady.refl (s : State) : Steady s s := ⟨rfl, rfl, id, id, id, id, id⟩

theorem Steady.trans {s t u : State} (h : Steady s t) (k : Steady t u) : Steady s u where
  pending := k.pending.trans h.pending
  earth := k.earth.trans h.earth
  inbound e := k.inbound (h.inbound e)
  waiting e := k.waiting (h.waiting e)
  events e := k.events (h.events e)
  scenes e := k.scenes (h.scenes e)
  supply e := k.supply (h.supply e)

/-- The bounds of a scene list do not read the lifetimes. -/
theorem sceneListOk_content {l k : List Scene} (h : k.map Scene.content = l.map Scene.content) : SceneListOk l → SceneListOk k := by
  rintro ⟨len, ids, each⟩
  have length : k.length = l.length := by simpa using congrArg List.length h
  have names : k.map (·.id) = l.map (·.id) := by simpa [Scene.content, Function.comp_def] using congrArg (List.map Prod.fst) h
  refine ⟨length ▸ len, names ▸ ids, fun sc hsc => ?_⟩
  have : sc.content ∈ l.map Scene.content := h ▸ List.mem_map_of_mem hsc
  obtain ⟨sc', hsc', e⟩ := List.mem_map.mp this
  obtain ⟨hid, hentries⟩ := Prod.mk.inj e
  have := each sc' hsc'
  rwa [hid, hentries] at this

theorem Quiet.steady {s t : State} (h : Quiet s t) : Steady s t :=
  ⟨h.pending, h.earth, h.inbound, h.waiting, h.events, sceneListOk_content h.scenes, h.supply⟩

theorem SettleKeeps.steady {s t : State} (k : SettleKeeps s t) : Steady s t where
  pending := k.pending
  earth := by rw [k.inputs]
  inbound := by rw [k.link]; exact fun h => h
  waiting := by rw [k.link]; exact fun h => h
  events := by rw [eventsOk_iff, eventsOk_iff, k.report]; exact fun h => h
  scenes := by rw [k.scenes]; exact fun h => h
  supply := by rw [k.supply]; exact fun h => h

theorem Examined.steady {s t : State} (k : Examined s t) (events : EventsOk s → EventsOk t) : Steady s t where
  pending := k.pending
  earth := by rw [k.inputs]
  inbound := by rw [k.link]; exact fun h => h
  waiting := by rw [k.link]; exact fun h => h
  events := events
  scenes := by rw [k.resolver]; exact fun h => h
  supply := by rw [k.supply]; exact fun h => h

theorem enterState_steady (s : State) (new : OpState) : Steady s (s.enterState new) where
  pending := enterState_pending ..
  earth := by rw [enterState_inputs]
  inbound := by rw [enterState_link]; exact fun h => h
  waiting := by rw [enterState_link]; exact fun h => h
  events := (enterState_writes s new).1
  scenes := by rw [enterState_resolver]; exact fun h => h
  supply := by rw [enterState_supply]; exact fun h => h

theorem enterWith_steady {s : State} {o : OpCtl} {r : Resolver} (h : ResolverMoves s.resolver r) (new : OpState)
    (old : LampId → Option Fn) : Steady s (s.enterWith o r new old) :=
  have entered : Steady s { s with op := o, resolver := r } := { Steady.refl s with scenes := h.scenes }
  (entered.trans (enterState_steady _ new)).trans ((enterWith_examined s o r new old).steady fun k => by
    rw [eventsOk_iff, State.enterWith, mapChanged_report]; exact k)

theorem HoldDeclared.steady {s t : State} (h : HoldDeclared s t) : Steady s t where
  pending := h.pending
  earth := by rw [h.inputs]
  inbound := by rw [h.link]; exact fun h => h
  waiting := by rw [h.link]; exact fun h => h
  events := h.events
  scenes := by rw [h.resolver]; exact fun h => h
  supply := by rw [h.supply]; exact fun h => h

theorem Move.steady {a s t : State} (h : Move a s t) : Steady s t := by
  cases h with
  | quiet h => exact h.steady
  | engages e p q => exact (engage_examined s e p q).steady (engage_events e p q)
  | releases e p q pair engaged =>
    exact (releaseEntry_examined s e).steady fun h => by rw [eventsOk_iff, release_report pair engaged]; exact h
  | resolver r calm h => exact { Steady.refl s with scenes := h.scenes }
  | enters o new => exact (show Steady s { s with op := o } from { Steady.refl s with pending := rfl }).trans (enterState_steady _ new)
  | remaps o r new h => exact enterWith_steady h.resolver new a.serving
  | holds millivolts => exact (holdDeclared_writes s millivolts).steady
  | sheds x hold fits => exact { Steady.refl s with supply := fits }
  | trips | clears | marks | fan | gauges | flash | lighting | level | holdEnds => exact { Steady.refl s with pending := rfl }

theorem goToSleep_quiet (s : State) : Quiet (s.enterState .sleep) s.goToSleep := by
  have cleared := (quiet_foldl clearMeas_quiet allChans (s.enterState .sleep)).trans
    (quiet_foldl clearSamples_quiet allGauges (allChans.foldl State.clearMeas (s.enterState .sleep)))
  unfold State.goToSleep
  dsimp only
  generalize allGauges.foldl State.clearSamples (allChans.foldl State.clearMeas (s.enterState .sleep)) = u at cleared
  exact cleared.trans { Quiet.refl u with
    op := by constructor <;> simp
    supply := fun h => h
    gauges := fun _ => .refl .. }

theorem Act.steady {s t : State} (h : Act s t) : Steady s t := by
  have arbitrated {u : State} (k : Steady s u) : Steady s u.arbitrate := k.trans (arbitrate_keeps u).steady
  cases h with
  | inrushEnds | retryEnds | kickEnds | waitEnds | stalls => exact arbitrated { Steady.refl s with pending := rfl }
  | sleeps => exact (enterState_steady s .sleep).trans (goToSleep_quiet s).steady
  | ramps | chcfg | subcfg | fncfg | fancfg => exact { Steady.refl s with pending := rfl }

/-- What every command keeps is kept through each of its deeds. -/
theorem steady_invariant (s : State) : Invariant (Steady s) fun _ => Steady s where
  begins h := h
  quiet h q := h.trans q.steady
  move _ h m := h.trans m.steady
  settle _ h := h.trans (settle_keeps _).steady
  act h a := h.trans a.steady

theorem exec_steady {c : Instr} {s t : State} (awake : ∀ b, c ≠ .resetRelease b) (e : exec c s = .next t) : Steady s t :=
  (steady_invariant s).exec (.refl s) awake e

theorem exec_next (c : Instr) (s : State) : ∃ t, exec c s = .next t := by
  by_cases awake : ∀ b, c ≠ .resetRelease b
  · obtain ⟨t, e, _⟩ := exec_does c s awake
    exact ⟨t, e⟩
  · obtain ⟨b, rfl⟩ := not_forall_not.mp awake
    exact ⟨_, exec_resetRelease b s⟩

/-- Settles O2: every command is a course of deeds, and each keeps the queue of commands. -/
theorem commandsCompleteAndKeepTheQueue : Obligations.CommandsCompleteAndKeepTheQueue := by
  intro c s
  obtain ⟨t, e⟩ := exec_next c s
  refine ⟨t, e, ?_⟩
  by_cases awake : ∀ b, c ≠ .resetRelease b
  · exact (exec_steady awake e).pending
  · obtain ⟨b, rfl⟩ := not_forall_not.mp awake
    rw [exec_resetRelease] at e
    rw [← Host.Outcome.next.inj e]
    split <;> rfl

/-- The event queue, the link's queues and the scene list keep their form (R172, R164, R168, R57). -/
theorem boundsOk_iff {s : State} : BoundsOk s ↔
    s.link.inbound.length ≤ 4 ∧ (s.link.shifting = none → s.link.waiting = none) ∧ SceneListOk s.resolver.scenes := Iff.rfl

theorem bounds_invariant : Invariant (fun s => EventsOk s ∧ BoundsOk s) fun _ s => EventsOk s ∧ BoundsOk s :=
  have kept {s t : State} (h : EventsOk s ∧ BoundsOk s) (k : Steady s t) : EventsOk t ∧ BoundsOk t := by
    obtain ⟨events, inbound, waiting, scenes⟩ := h
    exact ⟨k.events events, k.inbound inbound, k.waiting waiting, k.scenes scenes⟩
  { begins := fun h => h
    quiet := fun h q => kept h q.steady
    move := fun _ h m => kept h m.steady
    settle := fun _ h => kept h (settle_keeps _).steady
    act := fun h a => kept h a.steady }

theorem eventsAndBounds_step {s t : State} (events : EventsOk s) (bounds : BoundsOk s) (e : step s = .next t) :
    EventsOk t ∧ BoundsOk t :=
  bounds_invariant.step
    (fun _ _ => by simp [EventsOk, BoundsOk, State.afterReset, State.reset, Report.reset, Link.reset, Resolver.reset])
    (fun _ _ h => h) ⟨events, bounds⟩ e

end Sys2Proof.Machine
end

section
/-! PROOF. The settling of a cause, record by record: what stands before the arbiter acts, and what the arbiter makes of it. -/

namespace Sys2Proof.Machine

/-! ### Before the arbiter -/

/-- The part with the values of the cause handed on, before the fan takes its step (R48, R73, R109). -/
def State.handedOn (s : State) : State := s.flashPoke.gaugePoke.resolveAll.handAll

/-- The fan's record after its step is taken and, where it stands stopped, after its start (R91, R92). -/
def Fan.follows (f : Fan) (step : Nat) (hold : Bool) : Fan :=
  let g := if step = f.step then f else f.takeStep step hold
  if g.state = .stopped ∧ g.step ≠ 0 ∧ hold = false then g.startWaiting else g

/-- What the arbiter finds as it acts on a settled cause. -/
def State.ready (s : State) : State := { s.handedOn with fan := s.fan.follows (s.resolve .fan).1 s.supply.hold }

theorem handedOn_keeps (s : State) : SettleKeeps s s.handedOn :=
  (flashPoke_keeps s).trans <| (gaugePoke_keeps _).trans <| (resolveAll_keeps _).trans (handAll_keeps _)

theorem handedOn_resolver (s : State) : s.handedOn.resolver = s.settle.resolver := by
  rw [settle_resolver, State.handedOn, State.handAll, (handList_resolver ..).1]

theorem handedOn_fnRec (s : State) (f : Fn) : s.handedOn.fnRec f = s.settle.fnRec f := by
  rw [State.fnRec, State.fnRec, handedOn_resolver]

/-- The stages before the fan's step leave the queue and the fan alone, and only the poke of the engine writes the flash record. -/
structure Unhanded (s t : State) : Prop where
  queue : t.queue = s.queue
  fan : t.fan = s.fan

theorem unhanded_foldl {α : Type} {f : State → α → State} (h : ∀ s a, Unhanded s (f s a)) (l : List α) (s : State) :
    Unhanded s (l.foldl f s) := by
  induction l generalizing s with
  | nil => exact ⟨rfl, rfl⟩
  | cons a l ih => exact ⟨(ih _).queue.trans (h s a).queue, (ih _).fan.trans (h s a).fan⟩

theorem unhanded_ite {c : Prop} [Decidable c] {s t : State} (h : Unhanded s t) : Unhanded s (if c then t else s) := by
  split
  · exact h
  · exact ⟨rfl, rfl⟩

theorem Unhanded.trans {s t u : State} (h : Unhanded s t) (k : Unhanded t u) : Unhanded s u :=
  ⟨k.queue.trans h.queue, k.fan.trans h.fan⟩

/-- An ON start clears the samples of the last phase, restarts the runs of channels that cease to be driven, and writes the flash
record. -/
theorem onStart_writes (s : State) (set : Sides) : ∃ fl, s.onStart set =
    { allLamps.foldl (State.restartIfCeased fl) (allLamps.foldl State.clearPhaseSample s) with flash := fl } ∧
      fl.phase = .on ∧ fl.active = set ∧ fl.timer ≠ none := by
  unfold State.onStart State.setFlash
  exact ⟨_, rfl, rfl, rfl, by simp⟩

theorem onStart_unhanded (s : State) (set : Sides) : Unhanded s (s.onStart set) := by
  obtain ⟨fl, e, _⟩ := onStart_writes s set
  have h := unhanded_foldl (f := State.clearPhaseSample) (fun _ _ => ⟨rfl, rfl⟩) allLamps s
  have k := unhanded_foldl (f := State.restartIfCeased fl) (fun _ _ => unhanded_ite ⟨rfl, rfl⟩) allLamps
    (allLamps.foldl State.clearPhaseSample s)
  have := h.trans k
  rw [e]
  generalize allLamps.foldl (State.restartIfCeased fl) _ = u at this
  exact ⟨this.queue, this.fan⟩

theorem handedOn_unhanded (s : State) : Unhanded s s.handedOn := by
  have poked : Unhanded s s.flashPoke := unhanded_ite (onStart_unhanded ..)
  have gauges := unhanded_foldl (f := State.gaugePokeOne) (fun _ _ => unhanded_ite ⟨rfl, rfl⟩) allGauges s.flashPoke
  have resolved := unhanded_foldl (f := State.resolveFn) (fun _ _ => ⟨rfl, rfl⟩) allFns s.flashPoke.gaugePoke
  have handed := unhanded_foldl (f := State.hand) (fun _ _ => unhanded_ite ⟨rfl, rfl⟩) allLamps s.flashPoke.gaugePoke.resolveAll
  exact poked.trans (gauges.trans (resolved.trans handed))

@[simp] theorem handedOn_queue (s : State) : s.handedOn.queue = s.queue := (handedOn_unhanded s).queue
@[simp] theorem handedOn_fan (s : State) : s.handedOn.fan = s.fan := (handedOn_unhanded s).fan

/-- The fan follows the resolved step and starts (R91, R92). -/
theorem fanFollow_start (s : State) :
    s.fanFollow.fanStart = { s with fan := s.fan.follows (s.fnRec .fan).resolved s.supply.hold } := by
  unfold State.fanStart State.fanFollow Fan.follows
  dsimp only
  by_cases same : (s.fnRec .fan).resolved = s.fan.step
  · simp only [same, if_true]
    split <;> rfl
  · simp only [same, if_false]
    split <;> rfl

/-- The settling of a cause is the arbiter's work on what stands ready for it. -/
theorem settle_eq (s : State) : s.settle = s.ready.arbitrate := by
  have e : s.settle = s.handedOn.fanFollow.fanStart.arbitrate := by unfold State.settle State.handedOn; rfl
  have resolved : (s.handedOn.fnRec .fan).resolved = (s.resolve .fan).1 := by rw [handedOn_fnRec, settle_fnRec]
  rw [e, fanFollow_start, resolved, handedOn_fan, State.ready, ← (handedOn_keeps s).supply]

theorem follows_settings (f : Fan) (step : Nat) (hold : Bool) :
    (f.follows step hold).settings = f.settings ∧ (f.follows step hold).retriesUsed = f.retriesUsed := by
  obtain ⟨settings, retries, _⟩ := takeStep_settings f step hold
  unfold Fan.follows
  dsimp only
  split <;> split <;> first | exact ⟨rfl, rfl⟩ | exact ⟨settings, retries⟩

theorem ready_keeps (s : State) : SettleKeeps s s.ready := by
  have k := handedOn_keeps s
  unfold State.ready
  generalize s.handedOn = u at k
  have f := follows_settings s.fan (s.resolve .fan).1 s.supply.hold
  exact { k with fanSettings := f.1, fanRetries := f.2 }

theorem ready_queue (s : State) : s.ready.queue = s.queue := by
  have h := handedOn_queue s
  unfold State.ready
  generalize s.handedOn = u at h
  exact h

theorem ready_fan (s : State) : s.ready.fan = s.fan.follows (s.resolve .fan).1 s.supply.hold := by
  unfold State.ready
  generalize s.handedOn = u
  rfl

theorem ready_lamp (s : State) (ch : LampId) : s.ready.lamp ch = s.handedOn.lamp ch := by
  unfold State.ready
  generalize s.handedOn = u
  rfl

/-! ### Lamp channels (R7, R48) -/

/-- A channel's record after it is handed a value, where it is due one (R48). -/
def LampRec.handed (c : LampRec) (w : Nat × Reason) (hold signalling : Bool) : LampRec :=
  if c.entered || w.1 != c.demand || w.2 != c.demandReason || (c.state == .off && w.1 != 0) then
    c.takeDemand w.1 w.2 hold signalling
  else c

theorem hand_lamp (s : State) (ch : LampId) :
    (s.hand ch).lamp ch = (s.lamp ch).handed (s.wantOf ch) s.supply.hold (s.signalling ch) := by
  unfold State.hand State.handDue LampRec.handed
  split
  · exact State.lamp_setLamp_same ..
  · rfl

theorem signalling_congr {s t : State} (k : SettleKeeps s t) (ch : LampId) : t.signalling ch = s.signalling ch := by
  rw [State.signalling, State.signalling, serving_congr k.op k.lamps]

theorem handList_lamp (l : List LampId) (distinct : l.Nodup) (s : State) (ch : LampId) :
    (l.foldl State.hand s).lamp ch =
      if ch ∈ l then (s.lamp ch).handed (s.wantOf ch) s.supply.hold (s.signalling ch) else s.lamp ch := by
  induction l generalizing s with
  | nil => simp
  | cons a l ih =>
    obtain ⟨fresh, distinct⟩ := List.nodup_cons.mp distinct
    have k := hand_keeps s a
    rw [List.foldl_cons, ih distinct, k.supply, signalling_congr k,
      wantOf_congr k (hand_resolver s a).1 (hand_resolver s a).2.1]
    by_cases e : ch = a
    · subst e
      simp [fresh, hand_lamp]
    · simp [e, hand_other s e]

theorem mem_allLamps (ch : LampId) : ch ∈ allLamps := by revert ch; decide

theorem flashPoke_quietLamps (s : State) (ch : LampId) : LampQuiet (s.lamp ch) (s.flashPoke.lamp ch) := by
  unfold State.flashPoke
  split
  · obtain ⟨fl, e, _⟩ := onStart_writes s s.wanted
    have q := (quiet_foldl clearPhaseSample_quiet allLamps s).trans (quiet_foldl (restartIfCeased_quiet fl) allLamps _)
    rw [e]
    generalize allLamps.foldl (State.restartIfCeased fl) _ = u at q
    exact q.lamps ch
  · exact .refl _

theorem gaugePoke_lamp (s : State) (ch : LampId) : s.gaugePoke.lamp ch = s.lamp ch := by
  unfold State.gaugePoke
  generalize allGauges = l
  induction l generalizing s with
  | nil => rfl
  | cons g l ih =>
    rw [List.foldl_cons, ih]
    unfold State.gaugePokeOne
    split <;> rfl

theorem resolveAll_lamp (s : State) (ch : LampId) : s.resolveAll.lamp ch = s.lamp ch := by
  unfold State.resolveAll
  generalize allFns = l
  induction l generalizing s with
  | nil => rfl
  | cons f l ih => exact (ih _).trans rfl

/-- The value that a channel is handed as a cause is settled. -/
theorem handedOn_wantOf (s : State) (ch : LampId) : s.flashPoke.gaugePoke.resolveAll.wantOf ch = s.handedOn.wantOf ch :=
  (wantOf_congr (handAll_keeps _) (handList_resolver ..).1 (handList_resolver ..).2.1 ch).symm

/-- Every channel is handed its value from a record that differs from the one before in samples and counts alone. -/
theorem handedOn_lamp (s : State) (ch : LampId) : ∃ c, LampQuiet (s.lamp ch) c ∧
    s.handedOn.lamp ch = c.handed (s.handedOn.wantOf ch) s.supply.hold (s.signalling ch) := by
  have k := (flashPoke_keeps s).trans ((gaugePoke_keeps _).trans (resolveAll_keeps _))
  refine ⟨s.flashPoke.lamp ch, flashPoke_quietLamps s ch, ?_⟩
  rw [← handedOn_wantOf, State.handedOn, State.handAll, handList_lamp allLamps (by decide), if_pos (mem_allLamps ch), k.supply,
    signalling_congr k, resolveAll_lamp, gaugePoke_lamp]

/-! ### Gauges and the flash engine -/

theorem handAll_gauges (s : State) : s.handAll.gauges = s.gauges := by
  unfold State.handAll
  generalize allLamps = l
  induction l generalizing s with
  | nil => rfl
  | cons c l ih =>
    rw [List.foldl_cons, ih]
    unfold State.hand
    split <;> rfl

theorem resolveAll_gauges (s : State) : s.resolveAll.gauges = s.gauges := by
  unfold State.resolveAll
  generalize allFns = l
  induction l generalizing s with
  | nil => rfl
  | cons f l ih => exact (ih _).trans rfl

/-- A gauge after a cause: it goes from OFF to RUN in DRIVE where it is enabled (R109). -/
def Gauge.poked (x : Gauge) (o : OpState) : Gauge := if x.state = .off ∧ x.cfg.enabled ∧ o = .drive then x.enterRun else x

theorem gaugePoke_gauge (s : State) (g : GaugeId) : s.gaugePoke.gauge g = (s.gauge g).poked s.op.state := by
  have one (t : State) (k : GaugeId) (j : GaugeId) : (t.gaugePokeOne k).gauge j =
      if j = k then (t.gauge k).poked t.op.state else t.gauge j := by
    unfold State.gaugePokeOne Gauge.poked
    split
    · exact State.gauge_setGauge ..
    · split
      · rename_i e; rw [e]
      · rfl
  have op (t : State) (k : GaugeId) : (t.gaugePokeOne k).op = t.op := by
    unfold State.gaugePokeOne
    split <;> rfl
  simp only [State.gaugePoke, allGauges, List.foldl_cons, List.foldl_nil, one, op]
  fin_cases g <;> simp

theorem onStart_examined (s : State) (set : Sides) : ∃ fl u, Examined s u ∧ s.onStart set = { u with flash := fl } ∧
    fl.phase = .on ∧ fl.active = set ∧ fl.timer ≠ none := by
  obtain ⟨fl, e, form⟩ := onStart_writes s set
  have cleared := examined_foldl (f := State.clearPhaseSample) (fun _ _ => setLamp_examined ..) allLamps s
  have restarted := examined_foldl (f := State.restartIfCeased fl)
    (fun t ch => by unfold State.restartIfCeased; split; exacts [setLamp_examined .., .refl t]) allLamps
    (allLamps.foldl State.clearPhaseSample s)
  exact ⟨fl, _, cleared.trans restarted, e, form⟩

theorem flashPoke_gauges (s : State) : s.flashPoke.gauges = s.gauges := by
  unfold State.flashPoke
  split
  · obtain ⟨fl, u, x, e, _⟩ := onStart_examined s s.wanted
    rw [e]
    exact x.gauges
  · rfl

theorem ready_gauge (s : State) (g : GaugeId) : s.ready.gauge g = (s.gauge g).poked s.op.state := by
  have e : s.handedOn.gauges = s.flashPoke.gaugePoke.gauges := by
    rw [State.handedOn, handAll_gauges, resolveAll_gauges]
  have poked : s.handedOn.gauge g = (s.gauge g).poked s.op.state := by
    rw [State.gauge, e]
    refine (gaugePoke_gauge s.flashPoke g).trans ?_
    rw [(flashPoke_keeps s).op, State.gauge, flashPoke_gauges]
    rfl
  unfold State.ready
  generalize s.handedOn = u at poked
  exact poked

/-! ### The arbiter leaves all but the lamp channels, the queue and the fan -/

theorem arbitrate_rest (s : State) : s.arbitrate =
    { s with bank := { s.bank with lamps := s.arbitrate.bank.lamps }, queue := s.arbitrate.queue, fan := s.arbitrate.fan } :=
  (arbitrate_grantPass s).rest

theorem arbitrate_gauges (s : State) : s.arbitrate.gauges = s.gauges := by rw [arbitrate_rest]

theorem settle_gauge (s : State) (g : GaugeId) : s.settle.gauge g = (s.gauge g).poked s.op.state := by
  rw [settle_eq, ← ready_gauge, State.gauge, arbitrate_gauges]
  rfl

end Sys2Proof.Machine
end

section
/-! PROOF. The controller's flags, the fan, the gauges and the supply record (O6). -/

namespace Sys2Proof.Machine

/-! ### The controller's flags (R146, R155, R159) -/

theorem flagsOk_congr {s t : State} (h : FlagsOk s) (op : t.op = s.op) (ign : t.level .ign = s.level .ign) : FlagsOk t := by
  obtain ⟨configured, sleepRequested, limpLighting, window⟩ := h
  constructor <;> simp only [op, ign] <;> assumption

theorem flagsOk_quiet {s t : State} (h : FlagsOk s) (q : Quiet s t) : FlagsOk t where
  configured := by rw [q.op.configured, q.op.state]; exact h.configured
  sleepRequested := by rw [q.op.sleepRequested, q.op.state]; exact h.sleepRequested
  limpLighting := by rw [q.op.limpLighting, q.op.state, q.levels .ign rfl]; exact h.limpLighting
  window := fun w => by
    rw [q.op.state]
    exact (q.op.window w).elim h.window id

theorem Examined.flagsOk {s t : State} (k : Examined s t) (h : FlagsOk s) : FlagsOk t :=
  flagsOk_congr h k.op (level_congr k.inputs _)

theorem SettleKeeps.flagsOk {s t : State} (k : SettleKeeps s t) (h : FlagsOk s) : FlagsOk t :=
  flagsOk_congr h k.op (level_congr k.inputs _)

theorem Enters.flagsOk {s : State} {o : OpCtl} {new : OpState} (e : Enters s o new) (h : FlagsOk s) :
    FlagsOk ({ s with op := o }.enterState new) := by
  obtain ⟨configured, sleepRequested, limpLighting, window⟩ := e.flags h
  have dark : s.op.limpLighting ≠ true := fun l => e.out (h.limpLighting l).1
  constructor
  · rw [enterState_op]
    exact ⟨fun _ => e.awake.1, fun _ => configured.trans (h.configured.mpr e.out)⟩
  · rw [enterState_op]
    simpa [e.awake.2] using sleepRequested
  · rw [enterState_op]
    exact fun l => absurd (limpLighting.symm.trans l) dark
  · rw [enterState_op]
    exact fun w => absurd window w

theorem Remaps.flagsOk {s : State} {o : OpCtl} {r : Resolver} {new : OpState} (e : Remaps s o r new) (h : FlagsOk s)
    (old : LampId → Option Fn) : FlagsOk (s.enterWith o r new old) := by
  obtain ⟨configured, sleepRequested, limpLighting, window⟩ := e.flags h
  constructor <;> rw [enterWith_op]
  · exact configured
  · simp [sleepRequested, e.awake.2.1, e.awake.2.2]
  · exact fun l => absurd l (by simp [limpLighting])
  · exact fun w => absurd window w

theorem Move.flagsOk {a s t : State} (m : Move a s t) (h : FlagsOk s) : FlagsOk t := by
  cases m with
  | quiet q => exact flagsOk_quiet h q
  | engages e p q => exact (engage_examined s e p q).flagsOk h
  | releases e p q => exact (releaseEntry_examined s e).flagsOk h
  | enters o new e => exact e.flagsOk h
  | remaps o r new e => exact e.flagsOk h _
  | holds millivolts =>
    have w := holdDeclared_writes s millivolts
    exact flagsOk_congr h w.op (level_congr w.inputs _)
  | lighting o state configured sleepRequested window lights =>
    exact ⟨by rw [configured, state]; exact h.configured, by rw [sleepRequested, state]; exact h.sleepRequested, lights, by
      rw [window, state]; exact h.window⟩
  | level i r stored =>
    refine { h with limpLighting := fun l => ⟨(h.limpLighting l).1, ?_⟩ }
    by_cases ign : i = .ign
    · subst ign
      rw [State.level, State.inRec_setInRec_same]
      exact Bool.eq_true_of_not_eq_false fun low => absurd l (by simp [stored rfl low h])
    · rw [State.level, State.inRec_setInRec_other _ _ (Ne.symm ign)]
      exact (h.limpLighting l).2
  | trips | clears | marks | fan | gauges | flash | resolver | holdEnds | sheds => exact flagsOk_congr h rfl rfl

theorem goToSleep_flagsOk {s : State} (watch : s.op.state = .watch) (h : FlagsOk s) : FlagsOk s.goToSleep := by
  refine flagsOk_quiet ?_ (goToSleep_quiet s)
  have window := h.window_none (by simp [watch])
  have configured := h.configured
  have sleepRequested := h.sleepRequested
  have dark : s.op.limpLighting ≠ true := fun l => absurd (h.limpLighting l).1 (by simp [watch])
  constructor <;> rw [enterState_op] <;> simp_all

theorem flags_invariant : Invariant FlagsOk fun _ s => FlagsOk s where
  begins h := h
  quiet := flagsOk_quiet
  move _ h m := m.flagsOk h
  settle _ h := (settle_keeps _).flagsOk h
  act h a := by
    cases a with
    | inrushEnds | retryEnds | kickEnds | waitEnds | stalls => exact (arbitrate_keeps _).flagsOk (flagsOk_congr h rfl rfl)
    | sleeps watch => exact goToSleep_flagsOk watch h
    | ramps | chcfg | subcfg | fncfg | fancfg => exact flagsOk_congr h rfl rfl

theorem flagsOk_step {s t : State} (h : FlagsOk s) (e : step s = .next t) : FlagsOk t :=
  flags_invariant.step (fun _ _ => by constructor <;> simp [State.afterReset, State.reset, OpCtl.reset])
    (fun _ _ h => flagsOk_congr h rfl rfl) h e

/-! ### The fan and the gauges go with the operating state (R90, R102, R108) -/

/-- What stands of the fan within a cause: outside DRIVE its step may still be nonzero. -/
structure FanGoes (f : Fan) (o : OpState) : Prop where
  granted : f.granted = true ↔ f.state = .kick
  kick : f.state = .kick → f.applied = 1000
  off : f.state.conducts = false → f.applied = 0
  outsideDrive : o ≠ .drive → f.state = .stopped ∨ f.state = .lockedOut

/-- What stands of the units within a cause. -/
structure UnitsGo (s : State) : Prop where
  fan : FanGoes s.fan s.op.state
  ignitionFed : (s.fnRec .fan).ignitionFed = true
  gauges : GaugesOk s
  supply : SupplyFits s.supply

theorem unitsOk_iff {s : State} : UnitsOk s ↔ UnitsGo s ∧ (s.op.state ≠ .drive → s.fan.step = 0) := by
  constructor
  · rintro ⟨fan, gauges, supply⟩
    exact ⟨⟨⟨fan.granted, fan.kick, fan.off, fun o => (fan.outsideDrive o).1⟩, fan.ignitionFed, gauges, supplyOk_iff.mp supply⟩,
      fun o => (fan.outsideDrive o).2⟩
  · rintro ⟨⟨fan, ignitionFed, gauges, supply⟩, step⟩
    exact ⟨⟨fan.granted, fan.kick, fan.off, fun o => ⟨fan.outsideDrive o, step o⟩, ignitionFed⟩, gauges, supplyOk_iff.mpr supply⟩

theorem unitsGo_congr {s t : State} (h : UnitsGo s) (fan : t.fan = s.fan) (op : t.op.state = s.op.state)
    (fed : (t.fnRec .fan).ignitionFed = (s.fnRec .fan).ignitionFed) (gauges : ∀ g, t.gauge g = s.gauge g)
    (supply : SupplyFits s.supply → SupplyFits t.supply) : UnitsGo t :=
  ⟨by rw [fan, op]; exact h.fan, fed.trans h.ignitionFed, fun g => by rw [gauges, op]; exact h.gauges g, supply h.supply⟩

theorem FanQuiet.goes {f g : Fan} (q : FanQuiet f g) {o : OpState} (h : FanGoes f o) : FanGoes g o := by
  obtain ⟨granted, kick, off, outside⟩ := h
  constructor <;> simp only [q.granted, q.state, q.applied] <;> assumption

theorem GaugeQuiet.goes {o : OpState} {hold : Bool} {x y : Gauge} (q : GaugeQuiet o hold x y)
    (h : (x.state = .run ∨ x.state = .test → o = .drive) ∧ (x.state = .off ∨ x.state = .outputFault → x.d = 0)) :
    (y.state = .run ∨ y.state = .test → o = .drive) ∧ (y.state = .off ∨ y.state = .outputFault → y.d = 0) := by
  refine ⟨fun r => h.1 (q.runs r), fun e => ?_⟩
  obtain dark | ⟨same, state⟩ := q.dark e
  · exact dark
  · rw [same]
    exact h.2 (state ▸ e)

theorem unitsGo_quiet {s t : State} (h : UnitsGo s) (q : Quiet s t) : UnitsGo t where
  fan := by rw [q.op.state]; exact q.fan.goes h.fan
  ignitionFed := by rw [q.fns]; exact h.ignitionFed
  gauges g := by rw [q.op.state]; exact (q.gauges g).goes (h.gauges g)
  supply := q.supply h.supply

theorem Examined.unitsGo {s t : State} (k : Examined s t) (h : UnitsGo s) : UnitsGo t :=
  unitsGo_congr h k.fan (by rw [k.op]) (by rw [State.fnRec, k.resolver]; rfl) (fun g => by rw [State.gauge, k.gauges]; rfl)
    (by rw [k.supply]; exact fun h => h)

theorem stop_goes (f : Fan) (o : OpState) : FanGoes f.stop o := by constructor <;> simp [Fan.stop]

theorem leaveDrive_goes (f : Fan) {o : OpState} (h : FanGoes f o) (o' : OpState) : FanGoes f.leaveDrive o' := by
  unfold Fan.leaveDrive
  split
  · rename_i locked
    exact ⟨h.granted, h.kick, h.off, fun _ => .inr locked⟩
  · exact stop_goes f o'

theorem FanMoves.goes {f g : Fan} (m : FanMoves f g) {o : OpState} (h : FanGoes f o) : FanGoes g o := by
  cases m with
  | stalls st wait retries driven ends =>
    have drive : o = .drive := Classical.byContradiction fun e => by
      obtain stopped | locked := h.outsideDrive e
      · simp [stopped, FanState.conducts] at driven
      · simp [locked, FanState.conducts] at driven
    constructor
    · obtain rfl | rfl := ends <;> simp [Fan.stop]
    · obtain rfl | rfl := ends <;> simp
    · exact fun _ => rfl
    · exact fun e => absurd drive e
  | clears =>
    unfold Fan.clearLockout
    split
    · have s := stop_goes f o
      exact ⟨s.granted, s.kick, s.off, s.outsideDrive⟩
    · exact h

theorem enterState_unitsGo {s : State} {new : OpState} (h : UnitsGo s) : UnitsGo (s.enterState new) := by
  refine ⟨?_, ?_, fun g => ?_, ?_⟩
  · rw [enterState_fan, enterState_op]
    by_cases leaves : s.op.state = .drive ∧ new ≠ .drive
    · rw [if_pos leaves]
      exact leaveDrive_goes _ h.fan _
    · rw [if_neg leaves]
      refine { h.fan with outsideDrive := fun away => h.fan.outsideDrive fun drive => leaves ⟨drive, away⟩ }
  · rw [State.fnRec, enterState_resolver]
    exact h.ignitionFed
  · rw [enterState_gauge, enterState_op]
    by_cases leaves : s.op.state = .drive ∧ new ≠ .drive
    · rw [if_pos leaves]
      have dark := (h.gauges g).2
      cases state : (s.gauge g).state <;> simp [Gauge.leaveDrive, Gauge.leaveRun, state] at dark ⊢ <;> exact dark
    · rw [if_neg leaves]
      refine ⟨fun r => Classical.byContradiction fun away => leaves ⟨(h.gauges g).1 r, away⟩, (h.gauges g).2⟩
  · rw [enterState_supply]
    exact h.supply

theorem onHold_goes {f : Fan} {o : OpState} (h : FanGoes f o) : FanGoes f.onHold o := by
  unfold Fan.onHold
  split
  · exact stop_goes f o
  · exact stop_goes f o
  · exact stop_goes f o
  · exact stop_goes f o
  all_goals exact h

theorem holdDeclared_unitsGo {s : State} (h : UnitsGo s) (millivolts : Nat) : UnitsGo (s.holdDeclared millivolts) := by
  have w := holdDeclared_writes s millivolts
  refine ⟨by rw [w.fan, w.op]; exact onHold_goes h.fan, ?_, fun g => ?_, ?_⟩
  · rw [State.fnRec, w.resolver]
    exact h.ignitionFed
  · rw [w.gauges, w.op]
    obtain ⟨runs, -⟩ := h.gauges g
    cases state : (s.gauge g).state <;> simp [Gauge.onHold, state] at runs ⊢ <;> exact runs
  · rw [w.supply]
    exact h.supply

theorem Move.unitsGo {a s t : State} (m : Move a s t) (h : UnitsGo s) : UnitsGo t := by
  cases m with
  | quiet q => exact unitsGo_quiet h q
  | engages e p q => exact (engage_examined s e p q).unitsGo h
  | releases e p q => exact (releaseEntry_examined s e).unitsGo h
  | fan f m => exact { h with fan := m.goes h.fan }
  | gauges x m =>
    refine { h with gauges := fun g => ?_ }
    change (x[g].state = .run ∨ x[g].state = .test → s.op.state = .drive) ∧
      (x[g].state = .off ∨ x[g].state = .outputFault → x[g].d = 0)
    obtain ⟨runs, dark⟩ := h.gauges g
    obtain e | e := m g
    · rw [e]; exact ⟨runs, dark⟩
    · rw [e]
      unfold Gauge.clearFault
      split
      · rename_i fault
        exact ⟨by simp, fun _ => dark (.inr fault)⟩
      · exact ⟨runs, dark⟩
  | resolver r calm m =>
    exact { h with ignitionFed := (m.attributes .fan).2.trans h.ignitionFed }
  | enters o new e =>
    exact enterState_unitsGo (unitsGo_congr h rfl e.state rfl (fun _ => rfl) id)
  | remaps o r new e =>
    refine (enterWith_examined s o r new a.serving).unitsGo (enterState_unitsGo ?_)
    exact unitsGo_congr h rfl e.state (e.resolver.attributes .fan).2 (fun _ => rfl) id
  | holds millivolts => exact holdDeclared_unitsGo h millivolts
  | lighting o state => exact unitsGo_congr h rfl state rfl (fun _ => rfl) id
  | sheds x hold fits => exact { h with supply := fits h.supply }
  | trips | clears | marks | flash | level | holdEnds => exact unitsGo_congr h rfl rfl rfl (fun _ => rfl) fun h => h

/-! ### The settling of a cause -/

/-- Outside DRIVE the ignition gate keeps the fan's step at 0 (R51, R42). -/
theorem resolve_fan_outsideDrive {s : State} (fed : (s.fnRec .fan).ignitionFed = true) (away : s.op.state ≠ .drive) :
    (s.resolve .fan).1 = 0 := by
  have shut : s.ignitionGateOpen .fan = false := by
    unfold State.ignitionGateOpen
    cases e : s.op.state <;> first | exact absurd e away | rfl
  change (s.gatedValue .fan).1 = 0
  simp [State.gatedValue, fed, shut]

theorem takeStep_goes {f : Fan} {o : OpState} {step : Nat} (hold : Bool) (h : FanGoes f o) (away : o ≠ .drive → step = 0) :
    FanGoes (f.takeStep step hold) o := by
  obtain ⟨granted, kick, off, outside⟩ := h
  by_cases drive : o = .drive
  · subst drive
    unfold Fan.takeStep
    cases state : f.state <;> dsimp only <;> (try split) <;> (try split) <;>
      constructor <;> simp_all [Fan.stop, Fan.startWaiting, FanState.conducts]
  · obtain rfl := away drive
    obtain stopped | locked := outside drive
    · simp [Fan.takeStep, stopped] at *
      constructor <;> simp_all
    · simp [Fan.takeStep, locked] at *
      constructor <;> simp_all

theorem follows_goes {f : Fan} {o : OpState} {step : Nat} (hold : Bool) (h : FanGoes f o) (away : o ≠ .drive → step = 0) :
    FanGoes (f.follows step hold) o := by
  have taken : FanGoes (if step = f.step then f else f.takeStep step hold) o := by
    split
    · exact h
    · exact takeStep_goes hold h away
  have stepped : (if step = f.step then f else f.takeStep step hold).step = step := by
    split
    · exact ‹step = f.step›.symm
    · exact (takeStep_settings ..).2.2
  unfold Fan.follows
  dsimp only
  generalize (if step = f.step then f else f.takeStep step hold) = g at taken stepped
  split
  · rename_i starts
    obtain ⟨stopped, some, _⟩ := starts
    obtain ⟨granted, kick, off, outside⟩ := taken
    constructor
    · simpa [Fan.startWaiting, stopped] using granted
    · simp [Fan.startWaiting]
    · exact fun _ => off (by simp [stopped, FanState.conducts])
    · exact fun e => absurd (stepped.trans (away e)) some
  · exact taken

theorem follows_step (f : Fan) (step : Nat) (hold : Bool) : (f.follows step hold).step = step := by
  have stepped : (if step = f.step then f else f.takeStep step hold).step = step := by
    split
    · exact ‹step = f.step›.symm
    · exact (takeStep_settings ..).2.2
  unfold Fan.follows
  dsimp only
  generalize (if step = f.step then f else f.takeStep step hold) = g at stepped
  split <;> exact stepped

theorem takeGrant_goes {f : Fan} {o : OpState} (drive : o = .drive) : FanGoes f.takeGrant o := by
  unfold Fan.takeGrant Fan.enterRamping
  split
  · split <;> constructor <;> simp [drive, FanState.conducts]
  · constructor <;> simp [drive, FanState.conducts]

/-- The fan is granted only where it waits, which it does in DRIVE alone. -/
theorem GrantPass.fanGoes {s t : State} (p : GrantPass s t) {o : OpState} (h : FanGoes s.fan o) : FanGoes t.fan o := by
  obtain e | ⟨waiting, e⟩ := p.fan
  · rw [e]
    exact h
  · rw [e]
    refine takeGrant_goes (Classical.byContradiction fun away => ?_)
    obtain stopped | locked := h.outsideDrive away
    · rw [waiting] at stopped; cases stopped
    · rw [waiting] at locked; cases locked

theorem arbitrate_unitsOk {s : State} (h : UnitsOk s) : UnitsOk s.arbitrate := by
  obtain ⟨⟨fan, fed, gauges, supply⟩, step⟩ := unitsOk_iff.mp h
  have k := arbitrate_keeps s
  refine unitsOk_iff.mpr ⟨⟨?_, (k.fns .fan).2.1.trans fed, fun g => ?_, by rw [k.supply]; exact supply⟩, ?_⟩
  · rw [k.op]
    exact (arbitrate_grantPass s).fanGoes fan
  · rw [k.op, State.gauge, arbitrate_gauges]
    exact gauges g
  · rw [k.op, (arbitrate_resolver s).2.2]
    exact step

theorem ready_unitsOk {s : State} (h : UnitsGo s) : UnitsOk s.ready := by
  have k := ready_keeps s
  have away : s.op.state ≠ .drive → (s.resolve .fan).1 = 0 := resolve_fan_outsideDrive h.ignitionFed
  refine unitsOk_iff.mpr ⟨⟨?_, (k.fns .fan).2.1.trans h.ignitionFed, fun g => ?_, by rw [k.supply]; exact h.supply⟩, ?_⟩
  · rw [k.op, ready_fan]
    exact follows_goes _ h.fan away
  · rw [k.op, ready_gauge]
    unfold Gauge.poked
    split
    · rename_i starts
      exact ⟨fun _ => starts.2.2, fun _ => rfl⟩
    · exact h.gauges g
  · rw [k.op, ready_fan, follows_step]
    exact away

theorem unitsOk_quiet {s t : State} (h : UnitsOk s) (q : Quiet s t) : UnitsOk t := by
  obtain ⟨go, step⟩ := unitsOk_iff.mp h
  refine unitsOk_iff.mpr ⟨unitsGo_quiet go q, ?_⟩
  rw [q.op.state, q.fan.step]
  exact step

theorem unitsOk_fan {s : State} (h : UnitsOk s) {f : Fan} (m : FanGoes s.fan s.op.state → FanGoes f s.op.state)
    (same : f.step = s.fan.step) : UnitsOk { s with fan := f } := by
  obtain ⟨go, step⟩ := unitsOk_iff.mp h
  refine unitsOk_iff.mpr ⟨{ go with fan := m go.fan }, fun away => same.trans (step away)⟩

theorem unitsOk_same {s t : State} (h : UnitsOk s) (fan : t.fan = s.fan) (op : t.op = s.op)
    (fed : (t.fnRec .fan).ignitionFed = (s.fnRec .fan).ignitionFed) (gauges : t.gauges = s.gauges) (supply : t.supply = s.supply) :
    UnitsOk t := by
  obtain ⟨go, step⟩ := unitsOk_iff.mp h
  refine unitsOk_iff.mpr ⟨unitsGo_congr go fan (by rw [op]) fed (fun g => ?_) (by rw [supply]; exact id), ?_⟩
  · rw [State.gauge, gauges]; rfl
  · rw [fan, op]; exact step

theorem Act.unitsOk {s t : State} (a : Act s t) (h : UnitsOk s) : UnitsOk t := by
  have drive (driven : s.fan.state ≠ .stopped ∧ s.fan.state ≠ .lockedOut) : s.op.state = .drive :=
    Classical.byContradiction fun away => (h.fan.outsideDrive away).1.elim driven.1 driven.2
  cases a with
  | inrushEnds | retryEnds => exact arbitrate_unitsOk (unitsOk_same h rfl rfl rfl rfl rfl)
  | kickEnds kick =>
    have := drive (by simp [kick])
    refine arbitrate_unitsOk (unitsOk_fan h (fun g => ?_) ?_)
    · unfold Fan.kickEnds Fan.enterRamping
      split <;> constructor <;> simp [this, FanState.conducts]
    · exact (enterRamping_settings ..).2.2
  | waitEnds wait =>
    have := drive (by simp [wait])
    refine arbitrate_unitsOk (unitsOk_fan h (fun g => ?_) ?_)
    · unfold Fan.waitEnds
      split
      · have idle : s.fan.granted = false := Bool.eq_false_of_not_eq_true fun e => absurd (g.granted.mp e) (by simp [wait])
        have dark := g.off (by simp [wait, FanState.conducts])
        constructor <;> simp [Fan.startWaiting, this, idle, dark]
      · exact stop_goes ..
    · unfold Fan.waitEnds
      split <;> rfl
  | stalls f m driven =>
    refine arbitrate_unitsOk (unitsOk_fan h m.goes ?_)
    cases m with
    | stalls => rfl
    | clears =>
      unfold Fan.clearLockout
      split <;> rfl
  | ramps ramping =>
    have := drive (by simp [ramping])
    refine unitsOk_fan h (fun g => ?_) ?_
    · have idle : s.fan.granted = false := Bool.eq_false_of_not_eq_true fun e => absurd (g.granted.mp e) (by simp [ramping])
      unfold Fan.rampExpiry
      split <;> constructor <;> simp [this, idle, ramping, FanState.conducts]
    · unfold Fan.rampExpiry
      split <;> rfl
  | sleeps watch =>
    refine unitsOk_quiet ?_ (goToSleep_quiet s)
    obtain ⟨go, step⟩ := unitsOk_iff.mp h
    refine unitsOk_iff.mpr ⟨enterState_unitsGo go, fun _ => ?_⟩
    rw [enterState_fan, if_neg (by simp [watch])]
    exact step (by simp [watch])
  | fncfg f r c limp configurable base fan courtesy =>
    refine unitsOk_same h rfl rfl ?_ rfl rfl
    change ((s.setFn f r).fnRec .fan).ignitionFed = _
    rw [State.fnRec_setFn]
    split
    · rename_i e
      rw [fan e.symm, e]
    · rfl
  | chcfg | subcfg => exact unitsOk_same h rfl rfl rfl rfl rfl
  | fancfg x => exact unitsOk_fan h (fun g => ⟨g.granted, g.kick, g.off, g.outsideDrive⟩) rfl

theorem units_invariant : Invariant UnitsOk fun _ s => UnitsGo s where
  begins h := (unitsOk_iff.mp h).1
  quiet := unitsOk_quiet
  move _ h m := m.unitsGo h
  settle _ h := by
    rw [settle_eq]
    exact arbitrate_unitsOk (ready_unitsOk h)
  act h a := a.unitsOk h

theorem unitsOk_reset : UnitsOk State.reset := by
  refine unitsOk_iff.mpr ⟨⟨by constructor <;> decide, rfl, fun g => ?_, by unfold SupplyFits; decide⟩, fun _ => rfl⟩
  revert g
  decide

theorem unitsOk_step {s t : State} (h : UnitsOk s) (e : step s = .next t) : UnitsOk t :=
  units_invariant.step (fun _ _ => unitsOk_same unitsOk_reset rfl rfl rfl rfl rfl)
    (fun _ _ h => unitsOk_same h rfl rfl rfl rfl rfl) h e

theorem flagsOk_reset : FlagsOk State.reset := by constructor <;> decide

/-- Settles O6: the flags and the units are kept by every quiet write and every move, and the settling of a cause brings the fan's step
back to 0 outside DRIVE. -/
theorem flagsGoWithTheState : Obligations.FlagsGoWithTheState := ⟨fun _ _ => flagsOk_step, fun _ _ => unitsOk_step⟩

end Sys2Proof.Machine
end

section
/-! PROOF. HOLD keeps every output off (O7). -/

namespace Sys2Proof.Machine

/-! ### Nothing is driven and nothing waits -/

/-- The states a lamp channel may have while HOLD stands. -/
abbrev LampState.dark (st : LampState) : Prop := st = .off ∨ st = .tripped ∨ st = .lockedOut

/-- The states the fan may have while HOLD stands. -/
abbrev FanState.still (st : FanState) : Prop := st = .stopped ∨ st = .stallWait ∨ st = .lockedOut

/-- What stands within a cause while HOLD stands: entries may be left in the queue until the arbiter acts. -/
def HoldGoes (s : State) : Prop :=
  s.supply.hold = true → (∀ ch, (s.lamp ch).state.dark) ∧ s.fan.state.still ∧ ∀ g, (s.gauge g).d = 0

theorem holdOk_iff {s : State} : HoldOk s ↔ HoldGoes s ∧ (s.supply.hold = true → s.queue = []) := by
  constructor
  · exact fun h => ⟨fun e => ⟨(h e).1, (h e).2.1, (h e).2.2.1⟩, fun e => (h e).2.2.2⟩
  · rintro ⟨go, queue⟩ e
    obtain ⟨lamps, fan, gauges⟩ := go e
    exact ⟨lamps, fan, gauges, queue e⟩

/-- One record after another: what stands while HOLD stands is kept where every record keeps it. -/
theorem HoldGoes.of {s t : State} (h : HoldGoes s) (hold : t.supply.hold = s.supply.hold)
    (lamps : s.supply.hold = true → ∀ ch, (s.lamp ch).state.dark → (t.lamp ch).state.dark)
    (fan : s.supply.hold = true → s.fan.state.still → t.fan.state.still)
    (gauges : s.supply.hold = true → ∀ g, (s.gauge g).d = 0 → (t.gauge g).d = 0) : HoldGoes t := by
  rw [HoldGoes, hold]
  intro e
  obtain ⟨l, f, g⟩ := h e
  exact ⟨fun ch => lamps e ch (l ch), fan e f, fun k => gauges e k (g k)⟩

theorem holdGoes_quiet {s t : State} (h : HoldGoes s) (q : Quiet s t) : HoldGoes t :=
  h.of q.hold (fun _ ch l => (q.lamps ch).state ▸ l) (fun _ l => q.fan.state ▸ l) fun e g d => (q.gauges g).held e d

theorem holdOk_quiet {s t : State} (h : HoldOk s) (q : Quiet s t) : HoldOk t := by
  obtain ⟨go, queue⟩ := holdOk_iff.mp h
  exact holdOk_iff.mpr ⟨holdGoes_quiet go q, fun e => q.queue.trans (queue (q.hold ▸ e))⟩

theorem dark_not_conducts {st : LampState} (dark : st.dark) : st.conducts = false := by
  obtain rfl | rfl | rfl := dark <;> rfl

theorem still_not_conducts {st : FanState} (still : st.still) : st.conducts = false := by
  obtain rfl | rfl | rfl := still <;> rfl

theorem remapped_dark {c : LampRec} (h : c.state.dark) : c.remapped.state.dark := by
  unfold LampRec.remapped
  dsimp only
  split
  · exact .inl rfl
  · exact h

theorem leaveDrive_still {f : Fan} (h : f.state.still) : f.leaveDrive.state.still := by
  unfold Fan.leaveDrive
  split
  · exact h
  · exact .inl rfl

theorem leaveDrive_dark {x : Gauge} (h : x.d = 0) : x.leaveDrive.d = 0 := by
  unfold Gauge.leaveDrive
  split
  · rfl
  · rfl
  all_goals exact h

theorem enterState_holdGoes {s : State} (new : OpState) (h : HoldGoes s) : HoldGoes (s.enterState new) := by
  refine h.of (by rw [enterState_supply]) (fun _ ch l => ?_) (fun _ f => ?_) fun _ g d => ?_
  · rw [State.lamp, enterState_bank]
    exact l
  · rw [enterState_fan]
    split
    · exact leaveDrive_still f
    · exact f
  · rw [enterState_gauge]
    split
    · exact leaveDrive_dark d
    · exact d

theorem FanMoves.still {f g : Fan} (m : FanMoves f g) (h : f.state.still) : g.state.still := by
  cases m with
  | stalls st wait retries driven ends => exact ends.elim (fun e => .inr (.inl e)) fun e => .inr (.inr e)
  | clears =>
    unfold Fan.clearLockout
    split
    · exact .inl rfl
    · exact h

theorem clearLockout_dark {c : LampRec} (h : c.state.dark) : c.clearLockout.state.dark := by
  unfold LampRec.clearLockout
  split
  · exact .inl rfl
  · exact h

/-- A write of one lamp record keeps what stands while HOLD stands. -/
theorem holdGoes_setLamp {s : State} (h : HoldGoes s) {ch : LampId} {c : LampRec}
    (dark : s.supply.hold = true → (s.lamp ch).state.dark → c.state.dark) : HoldGoes (s.setLamp ch c) := by
  refine h.of rfl (fun e k l => ?_) (fun _ f => f) fun _ _ d => d
  rw [State.lamp_setLamp]
  split
  · rename_i same
    exact dark e (same ▸ l)
  · exact l

theorem Examined.holdGoes {s t : State} (k : Examined s t) (h : HoldGoes s)
    (lamps : ∀ ch, (s.lamp ch).state.dark → (t.lamp ch).state.dark) : HoldGoes t :=
  h.of (by rw [k.supply]) (fun _ => lamps) (fun _ f => by rw [k.fan]; exact f) fun _ g d => by
    rw [State.gauge, k.gauges]; exact d

theorem onHold_dark (c : LampRec) : c.onHold.state.dark := by
  unfold LampRec.onHold
  split
  · exact .inl rfl
  · exact .inl rfl
  · exact .inl rfl
  · rename_i off
    split
    · exact .inl off
    · exact .inl off
  · rename_i tripped
    exact .inr (.inl tripped)
  · rename_i locked
    exact .inr (.inr locked)

theorem onHold_still (f : Fan) : f.onHold.state.still := by
  cases e : f.state <;> simp [Fan.onHold, e, Fan.stop, FanState.still]

theorem holdDeclared_holdGoes (s : State) (millivolts : Nat) : HoldGoes (s.holdDeclared millivolts) := by
  have w := holdDeclared_writes s millivolts
  refine fun _ => ⟨fun ch => ?_, ?_, fun g => ?_⟩
  · rw [w.lamps]
    exact onHold_dark _
  · rw [w.fan]
    exact onHold_still _
  · rw [w.gauges]
    unfold Gauge.onHold
    split <;> rfl

theorem Move.holdGoes {a s t : State} (m : Move a s t) (h : HoldGoes s) : HoldGoes t := by
  cases m with
  | quiet q => exact holdGoes_quiet h q
  | trips ch c conducts e =>
    refine holdGoes_setLamp h fun _ dark => ?_
    rw [dark_not_conducts dark] at conducts
    cases conducts
  | engages e p q =>
    refine (engage_examined s e p q).holdGoes h fun ch l => ?_
    rw [engage_lamp]
    split
    · rename_i same
      exact remapped_dark (c := (s.lamp q).standsIn p (s.lamp p).cfg) (same ▸ l)
    · exact l
  | releases e p q pair engaged =>
    refine (releaseEntry_examined s e).holdGoes h fun ch l => ?_
    rw [release_lamp pair engaged]
    split
    · exact remapped_dark (.inl rfl)
    · exact l
  | clears ch => exact holdGoes_setLamp h fun _ => clearLockout_dark
  | marks ch => exact holdGoes_setLamp h fun _ dark => dark
  | fan f m => exact h.of rfl (fun _ _ l => l) (fun _ => m.still) fun _ _ d => d
  | gauges x m =>
    refine h.of rfl (fun _ _ l => l) (fun _ f => f) fun _ g d => ?_
    change (x[g] : Gauge).d = 0
    obtain e | e := m g
    · rw [e]; exact d
    · rw [e, Gauge.clearFault]
      split <;> exact d
  | enters o new => exact enterState_holdGoes (s := { s with op := o }) new (h.of rfl (fun _ _ l => l) (fun _ f => f) fun _ _ d => d)
  | remaps o r new =>
    have entered := enterState_holdGoes (s := { s with op := o, resolver := r }) new
      (h.of rfl (fun _ _ l => l) (fun _ f => f) fun _ _ d => d)
    refine (enterWith_examined s o r new a.serving).holdGoes entered fun ch l => ?_
    rw [State.enterWith, mapChanged_lamp]
    split
    · exact remapped_dark l
    · exact l
  | holds millivolts => exact holdDeclared_holdGoes s millivolts
  | holdEnds => exact fun e => absurd e (by simp)
  | sheds x hold => exact h.of hold (fun _ _ l => l) (fun _ f => f) fun _ _ d => d
  | flash | resolver | lighting | level => exact h.of rfl (fun _ _ l => l) (fun _ f => f) fun _ _ d => d

/-! ### The settling of a cause -/

theorem handed_dark {c : LampRec} (w : Nat × Reason) (signalling : Bool) (h : c.state.dark) :
    (c.handed w true signalling).state.dark := by
  unfold LampRec.handed
  split
  · obtain e | e | e := h
    · by_cases z : w.1 = 0 <;> simp [LampRec.takeDemand, LampRec.turnOn, e, z, LampState.dark]
    · simp [LampRec.takeDemand, e, LampState.dark]
    · simp [LampRec.takeDemand, e, LampState.dark]
  · exact h

theorem follows_still {f : Fan} (step : Nat) (h : f.state.still) : (f.follows step true).state.still := by
  have taken : (if step = f.step then f else f.takeStep step true).state.still := by
    split
    · exact h
    · obtain e | e | e := h <;> simp [Fan.takeStep, e, FanState.still]
  unfold Fan.follows
  dsimp only
  generalize (if step = f.step then f else f.takeStep step true) = g at taken
  rw [if_neg (by simp)]
  exact taken

theorem ready_holdGoes {s : State} (h : HoldGoes s) : HoldGoes s.ready := by
  refine h.of (by rw [(ready_keeps s).supply]) (fun e ch l => ?_) (fun e f => ?_) fun e g d => ?_
  · obtain ⟨c, q, lamp⟩ := handedOn_lamp s ch
    rw [ready_lamp, lamp, e]
    exact handed_dark _ _ (q.state ▸ l)
  · rw [ready_fan, e]
    exact follows_still _ f
  · rw [ready_gauge]
    unfold Gauge.poked
    split
    · rfl
    · exact d

/-- Where nothing waits the arbiter empties the queue. -/
theorem arbitrate_queue_empty {s : State} (h : ∀ ch, s.waits ch = false) : s.arbitrate.queue = [] := by
  have still : s.stillQueued = [] := List.filter_eq_nil_iff.mpr fun e _ => by simp [h e.ch]
  have removed : s.removalPass = { s with queue := [] } := by rw [State.removalPass, still]; rfl
  have waits (ch : Fin 15) : s.removalPass.waits ch = false := by rw [removed]; exact h ch
  have joined : s.removalPass.joinedQueue = [] := by
    refine List.eq_nil_iff_forall_not_mem.mpr fun e he => ?_
    have := mem_joinedQueue he
    rw [waits] at this
    cases this
  rw [State.arbitrate, State.joinPass, joined]
  rfl

theorem arbitrate_holdOk {s : State} (h : HoldGoes s) : HoldOk s.arbitrate := by
  have p := arbitrate_grantPass s
  have supply := (arbitrate_keeps s).supply
  refine holdOk_iff.mpr ⟨h.of (by rw [supply]) (fun _ ch l => ?_) (fun _ f => ?_) (fun _ g d => ?_), fun e => ?_⟩
  · obtain e | ⟨queued, -⟩ := p.lamps ch
    · rw [e]; exact l
    · rw [queued] at l
      simp [LampState.dark] at l
  · obtain e | ⟨waiting, -⟩ := p.fan
    · rw [e]; exact f
    · rw [waiting] at f
      simp [FanState.still] at f
  · rw [State.gauge, arbitrate_gauges]
    exact d
  · obtain ⟨lamps, fan, -⟩ := h (supply ▸ e)
    refine arbitrate_queue_empty fun ch => ?_
    unfold State.waits
    split
    · obtain l | l | l := lamps ⟨ch.val, ‹_›⟩ <;> simp [l]
    · obtain f | f | f := fan <;> simp [f]

theorem holdOk_same {s t : State} (h : HoldOk s) (bank : ∀ ch, (t.lamp ch).state = (s.lamp ch).state)
    (fan : s.supply.hold = true → s.fan.state.still → t.fan.state.still)
    (gauges : t.gauges = s.gauges) (hold : t.supply.hold = s.supply.hold) (queue : t.queue = s.queue) : HoldOk t := by
  obtain ⟨go, empty⟩ := holdOk_iff.mp h
  refine holdOk_iff.mpr ⟨go.of hold (fun _ ch l => by rw [bank]; exact l) fan (fun _ g d => ?_), fun e => queue.trans (empty (hold ▸ e))⟩
  rw [State.gauge, gauges]
  exact d

theorem Act.holdOk {s t : State} (a : Act s t) (h : HoldOk s) : HoldOk t := by
  obtain ⟨go, queue⟩ := holdOk_iff.mp h
  cases a with
  | inrushEnds ch inrush => exact arbitrate_holdOk (holdGoes_setLamp go fun _ dark => by rw [inrush] at dark; simp [LampState.dark] at dark)
  | retryEnds ch tripped =>
    refine arbitrate_holdOk (holdGoes_setLamp go fun e _ => ?_)
    rw [e]
    unfold LampRec.retryEnds
    split <;> exact .inl rfl
  | kickEnds kick => exact arbitrate_holdOk (go.of rfl (fun _ _ l => l) (fun _ f => by rw [kick] at f; simp [FanState.still] at f) fun _ _ d => d)
  | waitEnds wait =>
    refine arbitrate_holdOk (go.of rfl (fun _ _ l => l) (fun e _ => ?_) fun _ _ d => d)
    rw [Fan.waitEnds, if_neg (by simp [e])]
    exact .inl rfl
  | stalls f m => exact arbitrate_holdOk (go.of rfl (fun _ _ l => l) (fun _ => m.still) fun _ _ d => d)
  | ramps ramping => exact holdOk_same h (fun _ => rfl) (fun _ f => by rw [ramping] at f; simp [FanState.still] at f) rfl rfl rfl
  | sleeps watch =>
    refine holdOk_quiet ?_ (goToSleep_quiet s)
    refine holdOk_iff.mpr ⟨enterState_holdGoes _ go, ?_⟩
    rw [enterState_supply, enterState_queue]
    exact queue
  | chcfg ch c =>
    refine holdOk_same h (fun k => ?_) (fun _ f => f) rfl rfl rfl
    rw [State.lamp_setLamp]
    split
    · rename_i e; rw [e]
    · rfl
  | subcfg | fncfg | fancfg => exact holdOk_same h (fun _ => rfl) (fun _ f => f) rfl rfl rfl

theorem hold_invariant : Invariant HoldOk fun _ s => HoldGoes s where
  begins h := (holdOk_iff.mp h).1
  quiet := holdOk_quiet
  move _ h m := m.holdGoes h
  settle _ h := by
    rw [settle_eq]
    exact arbitrate_holdOk (ready_holdGoes h)
  act h a := a.holdOk h

theorem holdOk_reset : HoldOk State.reset := fun e => absurd e (by decide)

/-- Settles O7: within a cause no record is driven, and the arbiter empties the queue as the cause is settled. -/
theorem holdKeepsEveryOutputOff : Obligations.HoldKeepsEveryOutputOff := fun _ _ h e =>
  hold_invariant.step (fun _ _ => holdOk_same holdOk_reset (fun _ => rfl) (fun _ f => f) rfl rfl rfl)
    (fun _ _ h => holdOk_same h (fun _ => rfl) (fun _ f => f) rfl rfl rfl) h e

end Sys2Proof.Machine
end

section
/-! PROOF. The queues keep their form, but the last clause of the statement about them fails (O5). A channel that waits with demand 0
and is marked to be handed its value, which neither `QueueOk` nor `Consistent` excludes, is put out by the first level change of an input
sample and waits again after the second, with an entry of another class. -/

namespace Sys2Proof.Machine

/-- A channel in QUEUED with a demand of 0 that is marked to be handed its value. -/
def strayLamp : LampRec :=
  { LampRec.reset 4 with cfg := { (LampRec.reset 4).cfg with fn := some .interior }, state := .queued, entered := true }

/-- A channel that serves no function. -/
def idleLamp (ch : LampId) : LampRec := { LampRec.reset ch with cfg := { (LampRec.reset ch).cfg with fn := none } }

/-- A channel in INRUSH that holds a grant. -/
def grantHolder (ch : LampId) : LampRec :=
  { idleLamp ch with state := .inrush, granted := true }

/-- A part in PARK in which two HEAVY channels hold the allowance, channel 4 waits for INTERIOR with an entry of class 2 and a demand of
0, and the counts of BRAKE and DOOR stand one sample before a change of level. -/
def strayQueued : State :=
  { State.reset with
    bank := { Bank.reset with
      lamps := #v[grantHolder 0, grantHolder 1, idleLamp 2, idleLamp 3, strayLamp, idleLamp 5, idleLamp 6, idleLamp 7,
        idleLamp 8, idleLamp 9, idleLamp 10, idleLamp 11, idleLamp 12, idleLamp 13] }
    queue := [{ ch := 4, cls := 2 }]
    op := { OpCtl.reset with state := .park, configured := true }
    inputs := { Inputs.reset with
      recs := { Inputs.reset.recs with brake := { InRec.reset with count := 3 }, door := { InRec.reset with count := 3 } } } }

/-- Pins at which BRAKE and DOOR read asserted, in a negative-earth car. -/
def brakeAndDoor : PinLevels := { ign := false, brake := true, haz := false, door := false, sw0 := true, sw1 := true }

theorem strayQueued_queueOk : QueueOk strayQueued where
  distinct := by decide
  lampWaits := by decide
  fanWaits := by decide
  groups := by decide
  head e rest h := by
    obtain ⟨rfl, -⟩ := List.cons.inj (show [({ ch := 4, cls := 2 } : QEntry)] = e :: rest from h)
    decide

theorem strayQueued_consistent : Consistent strayQueued where
  resolved f := by cases f <;> decide
  demands := by decide
  fanStep := by decide

/-- The entry that channel 4 held has left, and another of INTERIOR's class stands in its place. -/
theorem strayQueued_sampled : (strayQueued.sampleInputs brakeAndDoor).queue = [{ ch := 4, cls := 3 }] := by decide +kernel

theorem strayQueued_serving : (strayQueued.sampleInputs brakeAndDoor).serving 4 = strayQueued.serving 4 := by decide +kernel

theorem mem_of_mem_joinOrder {e : QEntry} {kept new : List QEntry} (h : e ∈ kept) : e ∈ joinOrder kept new := by
  by_cases c : e.cls = 0 <;> simp [joinOrder, h, c]

/-- Refutes O5: two changes of level in one sample put a stray channel out and let it join again. -/
theorem not_queuesKeepTheirForm : ¬ Obligations.QueuesKeepTheirForm := by
  rintro ⟨-, -, commands⟩
  obtain ⟨kept, new, -, queue, -, -, stays⟩ :=
    commands (.inputSample brakeAndDoor) strayQueued (strayQueued.sampleInputs brakeAndDoor) strayQueued_queueOk rfl
  have entry : ({ ch := 4, cls := 2 } : QEntry) ∈ strayQueued.queue := List.mem_singleton.mpr rfl
  have waits : ∃ x ∈ (strayQueued.sampleInputs brakeAndDoor).queue, x.ch = 4 := by
    rw [strayQueued_sampled]
    exact ⟨_, List.mem_singleton.mpr rfl, rfl⟩
  have same (ch : LampId) (h : (4 : Nat) = ch.val) :
      (strayQueued.sampleInputs brakeAndDoor).serving ch = strayQueued.serving ch ∧
        ∀ i p, (strayQueued.subEntry i).pair = some (p, ch) →
          ((strayQueued.sampleInputs brakeAndDoor).subEntry i).engaged = (strayQueued.subEntry i).engaged := by
    obtain rfl : ch = 4 := Fin.ext h.symm
    refine ⟨strayQueued_serving, fun i p pair => ?_⟩
    have none : ∀ i, (strayQueued.subEntry i).pair = none := by decide
    rw [none i] at pair
    cases pair
  have left := stays (.inr ⟨strayQueued_consistent, by decide⟩) _ entry waits same
  have := mem_of_mem_joinOrder (new := new) left
  rw [← queue, strayQueued_sampled] at this
  simp at this

end Sys2Proof.Machine
end

section
/-! PROOF. Signalling channels never wait, and the substitution table agrees with the spares' records (O8). -/

namespace Sys2Proof.Machine

/-! ### The substitution table and the spares (R23, R24) -/

/-- The substitution table reads the entries, the spares' records and whether the part is in LIMP. -/
theorem substitutionOk_congr {s t : State} (h : SubstitutionOk s) (subs : ∀ e, t.subEntry e = s.subEntry e)
    (lamps : ∀ ch, (t.lamp ch).cfg.fn = (s.lamp ch).cfg.fn ∧ (t.lamp ch).setAside = (s.lamp ch).setAside ∧
      (t.lamp ch).substituteFor = (s.lamp ch).substituteFor)
    (limp : t.op.state = .limp → s.op.state = .limp ∨ ∀ e, (s.subEntry e).engaged = false) : SubstitutionOk t where
  engaged q p := by simp only [subs, (lamps q).2.2]; exact h.engaged q p
  paired e := by simp only [subs]; exact h.paired e
  single e e' p p' q := by simp only [subs]; exact h.single e e' p p' q
  setAside q := by rw [(lamps q).2.1, (lamps q).2.2]; exact h.setAside q
  function q c := by rw [(lamps q).1, (lamps q).2.1]; exact h.function q c
  limp e k := by rw [subs]; exact (limp e).elim (fun l => h.limp l k) fun idle => idle k

theorem SettleKeeps.substitutionOk {s t : State} (k : SettleKeeps s t) (h : SubstitutionOk s) : SubstitutionOk t :=
  substitutionOk_congr h (fun e => by rw [State.subEntry, k.subs]; rfl)
    (fun ch => ⟨by rw [(k.lamps ch).cfg], (k.lamps ch).setAside, (k.lamps ch).substituteFor⟩) (by rw [k.op]; exact .inl)

theorem Quiet.substitutionOk {s t : State} (q : Quiet s t) (h : SubstitutionOk s) : SubstitutionOk t :=
  substitutionOk_congr h q.subs
    (fun ch => ⟨by rw [(q.lamps ch).cfg], (q.lamps ch).setAside, (q.lamps ch).substituteFor⟩) (by rw [q.op.state]; exact .inl)

/-- A lamp record is written that keeps its function and what it stands in for. -/
theorem substitutionOk_setLamp {s : State} (h : SubstitutionOk s) {ch : LampId} {c : LampRec} (fn : c.cfg.fn = (s.lamp ch).cfg.fn)
    (setAside : c.setAside = (s.lamp ch).setAside) (substituteFor : c.substituteFor = (s.lamp ch).substituteFor) :
    SubstitutionOk (s.setLamp ch c) := by
  refine substitutionOk_congr h (fun _ => rfl) (fun k => ?_) .inl
  rw [State.lamp_setLamp]
  split
  · rename_i e; subst e; exact ⟨fn, setAside, substituteFor⟩
  · exact ⟨rfl, rfl, rfl⟩

/-- An entry that may engage: its primary is locked out outside LIMP, it is not engaged, and its spare is free (R23). -/
theorem mayEngage_iff {s : State} {e : Fin 3} {p q : LampId} (pair : (s.subEntry e).pair = some (p, q)) :
    s.mayEngage e = true ↔ (s.lamp p).state = .lockedOut ∧ s.op.state ≠ .limp ∧ (s.subEntry e).engaged = false ∧
      (∀ k p', (s.subEntry k).engaged = true → (s.subEntry k).pair ≠ some (p', q)) ∧ (s.lamp q).state ≠ .lockedOut := by
  have busy : s.spareBusy q = false ↔ ∀ k p', (s.subEntry k).engaged = true → (s.subEntry k).pair ≠ some (p', q) := by
    have all (k : Fin 3) : k ∈ allSubs := by revert k; decide
    simp only [State.spareBusy, List.any_eq_false, Bool.and_eq_true, not_and, Option.any_eq_true]
    constructor
    · exact fun h k p' on e => h k (all k) on ⟨_, e, by simp⟩
    · rintro h k - on ⟨⟨p', q'⟩, e, same⟩
      obtain rfl : q' = q := by simpa using same
      exact h k p' on e
  unfold State.mayEngage
  split
  · rename_i e'; rw [pair] at e'; cases e'
  · rename_i p' q' e'
    rw [pair] at e'
    cases e'
    simp only [Bool.and_eq_true, beq_iff_eq, bne_iff_ne, Bool.not_eq_true', busy, ne_eq]
    tauto

theorem engage_substitutionOk {s : State} {e : Fin 3} {p q : LampId} (h : SubstitutionOk s)
    (pair : (s.subEntry e).pair = some (p, q)) (may : s.mayEngage e = true) : SubstitutionOk (s.engage e p q) := by
  obtain ⟨-, out, idle, free, -⟩ := (mayEngage_iff pair).mp may
  have entry (k : Fin 3) : ((s.engage e p q).subEntry k).pair = (s.subEntry k).pair ∧
      (((s.engage e p q).subEntry k).engaged = true ↔ k = e ∨ (s.subEntry k).engaged = true) := by
    rw [engage_subEntry]
    split
    · rename_i same; subst same; simp
    · rename_i other; simp [other]
  constructor
  · intro r p'
    simp only [entry, engage_lamp]
    split
    · rename_i same
      subst same
      constructor
      · intro stands
        obtain rfl : p = p' := Option.some.inj stands
        exact ⟨e, .inl rfl, pair⟩
      · rintro ⟨k, rfl | on, pair'⟩
        · rw [pair] at pair'
          cases pair'
          rfl
        · exact absurd pair' (free k p' on)
    · rename_i other
      rw [h.engaged r p']
      refine exists_congr fun k => ⟨fun ⟨on, pr⟩ => ⟨.inr on, pr⟩, ?_⟩
      rintro ⟨rfl | on, pr⟩
      · rw [pair] at pr
        cases pr
        exact absurd rfl other
      · exact ⟨on, pr⟩
  · intro k
    simp only [entry]
    rintro (rfl | on)
    · rw [pair]; exact Option.some_ne_none _
    · exact h.paired k on
  · intro k k' p1 p2 r
    simp only [entry]
    rintro (rfl | on) (rfl | on') pr pr'
    · rfl
    · rw [pair] at pr; cases pr; exact absurd pr' (free k' p2 on')
    · rw [pair] at pr'; cases pr'; exact absurd pr (free k p1 on)
    · exact h.single k k' p1 p2 r on on' pr pr'
  · intro r
    rw [engage_lamp]
    split
    · simp [LampRec.remapped, LampRec.standsIn]
    · exact h.setAside r
  · intro r c
    rw [engage_lamp]
    split
    · intro aside
      obtain rfl : (s.lamp q).cfg = c := Option.some.inj aside
      rfl
    · exact h.function r c
  · intro limp
    rw [(engage_examined s e p q).op] at limp
    exact absurd limp out

theorem release_substitutionOk {s : State} {e : Fin 3} {p q : LampId} (h : SubstitutionOk s)
    (pair : (s.subEntry e).pair = some (p, q)) (engaged : (s.subEntry e).engaged = true) : SubstitutionOk (s.releaseEntry e) := by
  have entry (k : Fin 3) : ((s.releaseEntry e).subEntry k).pair = (s.subEntry k).pair ∧
      (((s.releaseEntry e).subEntry k).engaged = true ↔ k ≠ e ∧ (s.subEntry k).engaged = true) := by
    rw [release_subEntry pair engaged]
    split
    · rename_i same; subst same; simp
    · rename_i other; simp [other]
  constructor
  · intro r p'
    simp only [entry, release_lamp pair engaged]
    split
    · rename_i same
      subst same
      refine ⟨fun stands => (by cases stands), ?_⟩
      rintro ⟨k, ⟨other, on⟩, pr⟩
      exact absurd (h.single k e p' p r on engaged pr pair) other
    · rename_i other
      rw [h.engaged r p']
      refine exists_congr fun k => ⟨fun ⟨on, pr⟩ => ⟨⟨?_, on⟩, pr⟩, fun ⟨⟨_, on⟩, pr⟩ => ⟨on, pr⟩⟩
      rintro rfl
      rw [pair] at pr
      cases pr
      exact other rfl
  · intro k
    simp only [entry]
    exact fun ⟨_, on⟩ => h.paired k on
  · intro k k' p1 p2 r
    simp only [entry]
    exact fun ⟨_, on⟩ ⟨_, on'⟩ => h.single k k' p1 p2 r on on'
  · intro r
    rw [release_lamp pair engaged]
    split
    · simp [LampRec.remapped, LampRec.release]
    · exact h.setAside r
  · intro r c
    rw [release_lamp pair engaged]
    split
    · exact fun aside => by cases aside
    · exact h.function r c
  · intro limp k
    rw [(releaseEntry_examined s e).op] at limp
    exact Bool.eq_false_of_not_eq_true fun on => by
      have := ((entry k).2.mp on).2
      rw [h.limp limp k] at this
      cases this

theorem remapped_keeps (c : LampRec) : c.remapped.cfg = c.cfg ∧ c.remapped.setAside = c.setAside ∧
    c.remapped.substituteFor = c.substituteFor := ⟨rfl, rfl, rfl⟩

theorem enterWith_substitutionOk {s : State} {o : OpCtl} {r : Resolver} {new : OpState} (h : SubstitutionOk s)
    (m : Remaps s o r new) (old : LampId → Option Fn) : SubstitutionOk (s.enterWith o r new old) := by
  have subs (e : Fin 3) : (s.enterWith o r new old).subEntry e = s.subEntry e := by
    rw [State.enterWith, mapChanged_subEntry, State.subEntry, enterState_bank]
    rfl
  have idle : new = .limp → ∀ e, (s.subEntry e).engaged = false := fun limp e =>
    Bool.eq_false_of_not_eq_true fun on => h.paired e on (m.freed limp e on)
  have lamps (ch : LampId) : ((s.enterWith o r new old).lamp ch).cfg = (s.lamp ch).cfg ∧
      ((s.enterWith o r new old).lamp ch).setAside = (s.lamp ch).setAside ∧
      ((s.enterWith o r new old).lamp ch).substituteFor = (s.lamp ch).substituteFor := by
    have entered : ({ s with op := o, resolver := r }.enterState new).lamp ch = s.lamp ch := by
      rw [State.lamp, enterState_bank]; rfl
    rw [State.enterWith, mapChanged_lamp, entered]
    split <;> exact ⟨rfl, rfl, rfl⟩
  refine substitutionOk_congr h subs (fun ch => ⟨by rw [(lamps ch).1], (lamps ch).2⟩) fun limp => .inr (idle ?_)
  rw [enterWith_op] at limp
  exact limp

/-! ### Signalling channels never wait (R36) -/

/-- A cause that began in `a`: the table agrees, signalling channels do not wait, and no channel waits that did not as it began. -/
structure SignallingGoes (a s : State) : Prop where
  subst : SubstitutionOk s
  signalling : SignallingOk s
  fresh : ∀ ch, (s.lamp ch).state = .queued → (a.lamp ch).state = .queued

/-- Serving functions are kept, and no channel begins to wait. -/
theorem SignallingGoes.of {a s t : State} (h : SignallingGoes a s) (subst : SubstitutionOk t)
    (serving : ∀ ch, (t.lamp ch).state = .queued → t.serving ch = s.serving ch)
    (waits : ∀ ch, (t.lamp ch).state = .queued → (s.lamp ch).state = .queued) : SignallingGoes a t where
  subst := subst
  signalling ch signals queued := by
    rw [State.signalling, serving ch queued] at signals
    exact h.signalling ch signals (waits ch queued)
  fresh ch queued := h.fresh ch (waits ch queued)

theorem remapped_not_queued (c : LampRec) : c.remapped.state ≠ .queued := by
  unfold LampRec.remapped
  dsimp only
  split
  · simp
  · assumption

/-- A write of one lamp record that keeps its function and what it stands in for. -/
theorem SignallingGoes.setLamp {a s : State} (h : SignallingGoes a s) {ch : LampId} {c : LampRec}
    (fn : c.cfg.fn = (s.lamp ch).cfg.fn) (setAside : c.setAside = (s.lamp ch).setAside)
    (substituteFor : c.substituteFor = (s.lamp ch).substituteFor) (waits : c.state = .queued → (s.lamp ch).state = .queued) :
    SignallingGoes a (s.setLamp ch c) := by
  have lamps (k : LampId) (p : LampRec → Prop) (new : p c) (old : p (s.lamp k)) : p ((s.setLamp ch c).lamp k) := by
    rw [State.lamp_setLamp]
    split <;> assumption
  refine h.of (substitutionOk_setLamp h.subst fn setAside substituteFor) (fun k _ => ?_) fun k => ?_
  · refine serving_of_map (s := s) (t := s.setLamp ch c) Iff.rfl (fun d => ?_) k
    rw [State.lamp_setLamp]
    split
    · rename_i e; subst e; exact ⟨fn, substituteFor⟩
    · exact ⟨rfl, rfl⟩
  · rw [State.lamp_setLamp]
    split
    · rename_i e; subst e; exact waits
    · exact id

/-- The serving function of a channel reads the operating state, its own record and its primary's function. -/
theorem serving_eq (s : State) (ch : LampId) : s.serving ch =
    if s.op.state = .limp then limpMap ch
    else match (s.lamp ch).substituteFor with
      | some p => (s.lamp p).cfg.fn
      | none => (s.lamp ch).cfg.fn := rfl

theorem engage_serving {s : State} (e : Fin 3) (p : LampId) {q ch : LampId} (other : ch ≠ q) :
    (s.engage e p q).serving ch = s.serving ch := by
  have fn (k : LampId) : ((s.engage e p q).lamp k).cfg.fn = (s.lamp k).cfg.fn := by
    rw [engage_lamp]
    split
    · rename_i same; subst same; rfl
    · rfl
  rw [serving_eq, serving_eq, (engage_examined s e p q).op, engage_lamp, if_neg other]
  simp only [fn]

theorem release_serving {s : State} {e : Fin 3} {p q ch : LampId} (h : SubstitutionOk s)
    (pair : (s.subEntry e).pair = some (p, q)) (engaged : (s.subEntry e).engaged = true) (other : ch ≠ q) :
    (s.releaseEntry e).serving ch = s.serving ch := by
  have fn (k : LampId) : ((s.releaseEntry e).lamp k).cfg.fn = (s.lamp k).cfg.fn := by
    rw [release_lamp pair engaged]
    split
    · rename_i same
      subst same
      change ((s.lamp k).setAside.getD (s.lamp k).cfg).fn = _
      rcases aside : (s.lamp k).setAside with _ | c
      · rfl
      · exact h.function k c aside
    · rfl
  rw [serving_eq, serving_eq, (releaseEntry_examined s e).op, release_lamp pair engaged, if_neg other]
  simp only [fn]

theorem mapChanged_serving (old : LampId → Option Fn) (s : State) (ch : LampId) : (s.mapChanged old).serving ch = s.serving ch := by
  refine serving_of_map (by rw [(mapChanged_examined old s).op]) (fun c => ?_) ch
  rw [mapChanged_lamp]
  split <;> exact ⟨rfl, rfl⟩

theorem enterState_serving {s : State} {new : OpState} (same : new = .limp ↔ s.op.state = .limp) (ch : LampId) :
    (s.enterState new).serving ch = s.serving ch := by
  rw [State.serving, State.serving, enterState_bank, enterState_op]
  simp only [Bank.servingIn, same]

theorem onHold_not_queued (c : LampRec) : c.onHold.state ≠ .queued := by
  intro queued
  have dark := onHold_dark c
  rw [queued] at dark
  simp [LampState.dark] at dark

theorem onHold_rest (c : LampRec) : c.onHold.cfg = c.cfg ∧ c.onHold.setAside = c.setAside ∧
    c.onHold.substituteFor = c.substituteFor := by
  unfold LampRec.onHold
  split
  · exact ⟨rfl, rfl, rfl⟩
  · exact ⟨rfl, rfl, rfl⟩
  · exact ⟨rfl, rfl, rfl⟩
  · split <;> exact ⟨rfl, rfl, rfl⟩
  · exact ⟨rfl, rfl, rfl⟩
  · exact ⟨rfl, rfl, rfl⟩

theorem Move.signallingGoes {a s t : State} (start : SignallingOk a) (m : Move a s t) (h : SignallingGoes a s) :
    SignallingGoes a t := by
  cases m with
  | quiet q =>
    refine h.of (q.substitutionOk h.subst) (fun ch _ => serving_of_map (by rw [q.op.state]) (fun c => ?_) ch) fun ch queued => ?_
    · rw [(q.lamps c).cfg, (q.lamps c).substituteFor]
      exact ⟨rfl, rfl⟩
    · rwa [(q.lamps ch).state] at queued
  | trips ch c conducts e =>
    refine h.setLamp ?_ ?_ ?_ ?_
    · obtain rfl | rfl := e <;> rfl
    · obtain rfl | rfl := e <;> rfl
    · obtain rfl | rfl := e <;> rfl
    · obtain rfl | rfl := e <;> exact fun queued => by cases queued
  | engages e p q may pair =>
    refine h.of (engage_substitutionOk h.subst pair may) (fun ch queued => ?_) fun ch queued => ?_
    · refine engage_serving e p fun same => ?_
      rw [engage_lamp, if_pos same] at queued
      exact remapped_not_queued _ queued
    · rw [engage_lamp] at queued
      split at queued
      · exact absurd queued (remapped_not_queued _)
      · exact queued
  | releases e p q pair engaged =>
    refine h.of (release_substitutionOk h.subst pair engaged) (fun ch queued => ?_) fun ch queued => ?_
    · refine release_serving h.subst pair engaged fun same => ?_
      rw [release_lamp pair engaged, if_pos same] at queued
      exact remapped_not_queued _ queued
    · rw [release_lamp pair engaged] at queued
      split at queued
      · exact absurd queued (remapped_not_queued _)
      · exact queued
  | clears ch =>
    have rest : (s.lamp ch).clearLockout.cfg = (s.lamp ch).cfg ∧ (s.lamp ch).clearLockout.setAside = (s.lamp ch).setAside ∧
        (s.lamp ch).clearLockout.substituteFor = (s.lamp ch).substituteFor ∧
        ((s.lamp ch).clearLockout.state = .queued → (s.lamp ch).state = .queued) := by
      unfold LampRec.clearLockout
      split
      · exact ⟨rfl, rfl, rfl, fun queued => by cases queued⟩
      · exact ⟨rfl, rfl, rfl, id⟩
    obtain ⟨cfg, setAside, substituteFor, waits⟩ := rest
    exact h.setLamp (by rw [cfg]) setAside substituteFor waits
  | marks ch => exact h.setLamp rfl rfl rfl id
  | enters o new m =>
    have same : new = .limp ↔ ({ s with op := o } : State).op.state = .limp :=
      ⟨fun e => absurd e m.awake.1, fun e => absurd (m.state.symm.trans e) m.out⟩
    have subst : SubstitutionOk ({ s with op := o }.enterState new) := by
      refine substitutionOk_congr h.subst (fun e => ?_) (fun ch => ?_) fun limp => ?_
      · rw [State.subEntry, enterState_bank]; rfl
      · rw [State.lamp, enterState_bank]; exact ⟨rfl, rfl, rfl⟩
      · rw [enterState_op] at limp
        exact absurd limp m.awake.1
    refine h.of subst (fun ch _ => (enterState_serving same ch).trans ?_) fun ch queued => ?_
    · exact serving_of_map (s := s) (t := { s with op := o }) (by rw [m.state]) (fun _ => ⟨rfl, rfl⟩) ch
    · rw [State.lamp, enterState_bank] at queued
      exact queued
  | remaps o r new m =>
    have entered (ch : LampId) : ({ s with op := o, resolver := r }.enterState new).lamp ch = s.lamp ch := by
      rw [State.lamp, enterState_bank]; rfl
    have waits (ch : LampId) (queued : ((s.enterWith o r new a.serving).lamp ch).state = .queued) :
        (s.enterWith o r new a.serving).serving ch = a.serving ch ∧ (s.lamp ch).state = .queued := by
      rw [State.enterWith, mapChanged_lamp, entered] at queued
      split at queued
      · exact absurd queued (remapped_not_queued _)
      · rename_i same
        exact ⟨(mapChanged_serving ..).trans (not_not.mp same), queued⟩
    refine ⟨enterWith_substitutionOk h.subst m _, fun ch signals queued => ?_, fun ch queued => h.fresh ch (waits ch queued).2⟩
    obtain ⟨same, before⟩ := waits ch queued
    rw [State.signalling, same] at signals
    exact start ch signals (h.fresh ch before)
  | lighting o state =>
    refine h.of (substitutionOk_congr h.subst (fun _ => rfl) (fun _ => ⟨rfl, rfl, rfl⟩) fun e => .inl (state.symm.trans e))
      (fun ch _ => serving_of_map (s := s) (t := { s with op := o }) (by rw [state]) (fun _ => ⟨rfl, rfl⟩) ch) fun _ => id
  | holds millivolts =>
    have w := holdDeclared_writes s millivolts
    refine h.of (substitutionOk_congr h.subst w.subs (fun ch => ?_) (by rw [w.op]; exact .inl)) (fun ch queued => ?_)
      fun ch queued => ?_
    · obtain ⟨cfg, setAside, substituteFor⟩ := onHold_rest (s.lamp ch)
      rw [w.lamps, cfg, setAside, substituteFor]
      exact ⟨rfl, rfl, rfl⟩
    · rw [w.lamps] at queued
      exact absurd queued (onHold_not_queued _)
    · rw [w.lamps] at queued
      exact absurd queued (onHold_not_queued _)
  | fan | gauges | flash | resolver | level | holdEnds | sheds =>
    exact h.of (substitutionOk_congr h.subst (fun _ => rfl) (fun _ => ⟨rfl, rfl, rfl⟩) .inl) (fun _ _ => rfl) fun _ => id

theorem handed_not_queued {c : LampRec} (w : Nat × Reason) (hold : Bool) (h : c.state ≠ .queued) :
    (c.handed w hold true).state ≠ .queued := by
  unfold LampRec.handed
  split
  · unfold LampRec.takeDemand
    dsimp only
    split
    · split
      · rename_i off _; simp [off]
      · unfold LampRec.turnOn
        split
        · rename_i off _ _; simp [off]
        · simp [LampRec.enterInrush]
    · contradiction
    · split
      · simp [LampRec.turnOff]
      · exact h
    · split
      · simp [LampRec.turnOff]
      · exact h
    · exact h
    · exact h
  · exact h

/-- The arbiter turns waiting channels on and lets none wait. -/
theorem arbitrate_queued {s : State} {ch : LampId} (h : (s.arbitrate.lamp ch).state = .queued) : (s.lamp ch).state = .queued := by
  obtain e | ⟨_, e⟩ := (arbitrate_grantPass s).lamps ch
  · rwa [e] at h
  · rw [e] at h
    simp [LampRec.enterInrush] at h

theorem arbitrate_signallingOk {s : State} (h : SignallingOk s) : SignallingOk s.arbitrate := fun ch signals queued => by
  rw [signalling_congr (arbitrate_keeps s)] at signals
  exact h ch signals (arbitrate_queued queued)

theorem settle_signallingOk {s : State} (h : SignallingOk s) : SignallingOk s.settle := by
  rw [settle_eq]
  refine arbitrate_signallingOk fun ch signals queued => ?_
  rw [signalling_congr (ready_keeps s)] at signals
  obtain ⟨c, q, lamp⟩ := handedOn_lamp s ch
  rw [ready_lamp, lamp, signals] at queued
  exact handed_not_queued _ _ (fun e => h ch signals (q.state.symm.trans e)) queued

theorem substitutionOk_same {s t : State} (h : SubstitutionOk s) (bank : t.bank = s.bank) (op : t.op = s.op) : SubstitutionOk t :=
  substitutionOk_congr h (fun e => by rw [State.subEntry, bank]; rfl)
    (fun ch => by rw [State.lamp, bank]; exact ⟨rfl, rfl, rfl⟩) (by rw [op]; exact .inl)

theorem signallingOk_same {s t : State} (h : SignallingOk s) (bank : t.bank = s.bank) (op : t.op = s.op) : SignallingOk t := by
  intro ch
  rw [State.signalling, State.serving, State.lamp, bank, op]
  exact h ch

/-- A write of one lamp record outside a cause. -/
theorem signallingOk_setLamp {s : State} (h : SignallingOk s) {ch : LampId} {c : LampRec} (fn : c.cfg.fn = (s.lamp ch).cfg.fn)
    (substituteFor : c.substituteFor = (s.lamp ch).substituteFor) (waits : s.signalling ch = true → c.state ≠ .queued) :
    SignallingOk (s.setLamp ch c) := by
  have serving (k : LampId) : (s.setLamp ch c).serving k = s.serving k := by
    refine serving_of_map (s := s) (t := s.setLamp ch c) Iff.rfl (fun d => ?_) k
    rw [State.lamp_setLamp]
    split
    · rename_i e; subst e; exact ⟨fn, substituteFor⟩
    · exact ⟨rfl, rfl⟩
  intro k
  rw [State.signalling, serving, State.lamp_setLamp]
  split
  · rename_i e; subst e; exact waits
  · exact h k

theorem retryEnds_keeps (c : LampRec) (hold signalling : Bool) : (c.retryEnds hold signalling).cfg = c.cfg ∧
    (c.retryEnds hold signalling).setAside = c.setAside ∧ (c.retryEnds hold signalling).substituteFor = c.substituteFor ∧
    (signalling = true → (c.retryEnds hold signalling).state ≠ .queued) := by
  unfold LampRec.retryEnds LampRec.turnOn
  split
  · exact ⟨rfl, rfl, rfl, fun _ => by simp⟩
  · split
    · exact ⟨rfl, rfl, rfl, fun _ => by simp⟩
    · split
      · exact ⟨rfl, rfl, rfl, fun _ => by simp [LampRec.enterInrush]⟩
      · exact ⟨rfl, rfl, rfl, fun e => absurd e ‹_›⟩

theorem Act.substitutionOk {s t : State} (a : Act s t) (h : SubstitutionOk s) : SubstitutionOk t := by
  have arbitrated {u : State} (k : SubstitutionOk u) : SubstitutionOk u.arbitrate := (arbitrate_keeps u).substitutionOk k
  cases a with
  | inrushEnds ch => exact arbitrated (substitutionOk_setLamp h rfl rfl rfl)
  | retryEnds ch =>
    obtain ⟨cfg, setAside, substituteFor, -⟩ := retryEnds_keeps (s.lamp ch) s.supply.hold (s.signalling ch)
    exact arbitrated (substitutionOk_setLamp h (by rw [cfg]) setAside substituteFor)
  | kickEnds | waitEnds | stalls => exact arbitrated (substitutionOk_same h rfl rfl)
  | sleeps watch =>
    refine (goToSleep_quiet s).substitutionOk (substitutionOk_congr h (fun e => ?_) (fun ch => ?_) fun limp => ?_)
    · rw [State.subEntry, enterState_bank]; rfl
    · rw [State.lamp, enterState_bank]; exact ⟨rfl, rfl, rfl⟩
    · rw [enterState_op] at limp; cases limp
  | chcfg ch c limp =>
    have idle := h.limp limp
    have none (q : LampId) : (s.lamp q).setAside = none := by
      refine (h.setAside q).mpr (Option.eq_none_iff_forall_ne_some.mpr fun p stands => ?_)
      obtain ⟨e, on, -⟩ := (h.engaged q p).mp stands
      rw [idle e] at on
      cases on
    have lamps (k : LampId) : ((s.setLamp ch { s.lamp ch with cfg := c }).lamp k).setAside = (s.lamp k).setAside ∧
        ((s.setLamp ch { s.lamp ch with cfg := c }).lamp k).substituteFor = (s.lamp k).substituteFor := by
      rw [State.lamp_setLamp]
      split
      · rename_i e; subst e; exact ⟨rfl, rfl⟩
      · exact ⟨rfl, rfl⟩
    exact { h with
      engaged := fun q p => by rw [(lamps q).2]; exact h.engaged q p
      setAside := fun q => by rw [(lamps q).1, (lamps q).2]; exact h.setAside q
      function := fun q c aside => by rw [(lamps q).1, none q] at aside; cases aside }
  | subcfg e pair limp =>
    have idle (k : Fin 3) : ((s.writeSub e pair).subEntry k).engaged = false := by
      rw [State.writeSub, State.subEntry_setSub]
      split
      · rfl
      · exact h.limp limp k
    constructor
    · intro q p
      refine (h.engaged q p).trans ⟨?_, ?_⟩
      · rintro ⟨k, on, -⟩
        rw [h.limp limp k] at on
        cases on
      · rintro ⟨k, on, -⟩
        rw [idle k] at on
        cases on
    · exact fun k on => by rw [idle k] at on; cases on
    · exact fun k _ _ _ _ on => by rw [idle k] at on; cases on
    · exact h.setAside
    · exact h.function
    · exact fun _ => idle
  | ramps | fncfg | fancfg => exact substitutionOk_same h rfl rfl

theorem Act.signallingOk {s t : State} (a : Act s t) (h : SignallingOk s) : SignallingOk t := by
  cases a with
  | inrushEnds ch => exact arbitrate_signallingOk (signallingOk_setLamp h rfl rfl fun _ => by simp [LampRec.inrushEnds])
  | retryEnds ch =>
    obtain ⟨cfg, -, substituteFor, waits⟩ := retryEnds_keeps (s.lamp ch) s.supply.hold (s.signalling ch)
    exact arbitrate_signallingOk (signallingOk_setLamp h (by rw [cfg]) substituteFor waits)
  | kickEnds | waitEnds | stalls => exact arbitrate_signallingOk (signallingOk_same h rfl rfl)
  | sleeps watch =>
    have q := goToSleep_quiet s
    intro ch
    have serving : s.goToSleep.serving ch = s.serving ch := by
      refine (serving_of_map (by rw [q.op.state]) (fun c => ?_) ch).trans (enterState_serving (by simp [watch]) ch)
      rw [(q.lamps c).cfg, (q.lamps c).substituteFor]
      exact ⟨rfl, rfl⟩
    rw [State.signalling, serving, (q.lamps ch).state, State.lamp, enterState_bank]
    exact h ch
  | chcfg ch c limp =>
    intro k
    have serving : (s.setLamp ch { s.lamp ch with cfg := c }).serving k = s.serving k := by
      rw [serving_eq, serving_eq, State.setLamp_op, if_pos limp, if_pos limp]
    rw [State.signalling, serving, State.lamp_setLamp]
    split
    · rename_i e; subst e; exact h k
    · exact h k
  | subcfg e pair => exact fun ch => h ch
  | ramps | fncfg | fancfg => exact signallingOk_same h rfl rfl

theorem signalling_invariant : Invariant (fun s => SubstitutionOk s ∧ SignallingOk s) SignallingGoes where
  begins h := ⟨h.1, h.2, fun _ => id⟩
  quiet h q := by
    have k := (Move.quiet q).signallingGoes h.2 ⟨h.1, h.2, fun _ => id⟩
    exact ⟨k.subst, k.signalling⟩
  move start h m := m.signallingGoes start.2 h
  settle _ h := ⟨(settle_keeps _).substitutionOk h.subst, settle_signallingOk h.signalling⟩
  act h a := ⟨a.substitutionOk h.1, a.signallingOk h.2⟩

theorem substitutionOk_reset : SubstitutionOk State.reset := by
  have idle : ∀ e, (State.reset.subEntry e).engaged = false := by decide
  have none : ∀ ch, (State.reset.lamp ch).substituteFor = none ∧ (State.reset.lamp ch).setAside = none := by decide
  constructor
  · exact fun q p => ⟨fun e => (by rw [(none q).1] at e; cases e), fun ⟨e, on, _⟩ => (by rw [idle e] at on; cases on)⟩
  · exact fun e on => by rw [idle e] at on; cases on
  · exact fun e _ _ _ _ on => by rw [idle e] at on; cases on
  · exact fun q => by simp [(none q).1, (none q).2]
  · exact fun q c aside => by rw [(none q).2] at aside; cases aside
  · exact fun _ => idle

theorem signallingOk_reset : SignallingOk State.reset := by unfold SignallingOk; decide

/-- Settles O8: a channel that waits through a change of the map serves the function it served as the cause began. -/
theorem signallingChannelsNeverQueue : Obligations.SignallingChannelsNeverQueue := fun _ _ subst signalling e =>
  signalling_invariant.step
    (fun _ _ => ⟨substitutionOk_same substitutionOk_reset rfl rfl, signallingOk_same signallingOk_reset rfl rfl⟩)
    (fun _ _ h => ⟨substitutionOk_same h.1 rfl rfl, signallingOk_same h.2 rfl rfl⟩) ⟨subst, signalling⟩ e

end Sys2Proof.Machine
end

section
/-! PROOF. Records hold what they resolve to, lamp channels carry the value of their serving functions, and the fan the resolved step
(O9, first part). -/

namespace Sys2Proof.Machine

/-! ### What resolution reads (R48 to R56) -/

/-- Two states agree in what resolution reads. -/
structure ResolvesAlike (s t : State) : Prop where
  fns : ∀ f, (t.fnRec f).cls = (s.fnRec f).cls ∧ (t.fnRec f).ignitionFed = (s.fnRec f).ignitionFed ∧
    (t.fnRec f).base = (s.fnRec f).base
  scenes : t.resolver.scenes.map Scene.content = s.resolver.scenes.map Scene.content
  courtesy : t.resolver.courtesy.level = s.resolver.courtesy.level
  brake : t.level .brake = s.level .brake
  state : t.op.state = s.op.state
  ign : t.op.state = .limp → t.level .ign = s.level .ign
  lighting : t.op.limpLighting = s.op.limpLighting
  hold : t.supply.hold = s.supply.hold
  shed : t.supply.l = s.supply.l

theorem newestScene_content {l k : List Scene} (h : k.map Scene.content = l.map Scene.content) (f : Fn) :
    newestScene k f = newestScene l f := by
  have value (l : List Scene) : newestScene l f =
      (l.map Scene.content).reverse.findSome? fun c => (c.2.find? fun e => e.1 == f).map (·.2) := by
    rw [newestScene, ← List.map_reverse, List.findSome?_map]
    rfl
  rw [value, value, h]

theorem ResolvesAlike.resolve {s t : State} (h : ResolvesAlike s t) (f : Fn) : t.resolve f = s.resolve f := by
  have start (f : Fn) : t.startValue f = s.startValue f := by
    simp only [State.startValue, h.state, h.lighting, (h.fns f).2.2]
  have scene (f : Fn) : t.sceneValue f = s.sceneValue f := by
    simp only [State.sceneValue, start, newestScene_content h.scenes]
  have opened (f : Fn) : t.openValue f = s.openValue f := by
    cases f <;> simp only [State.openValue, scene, h.courtesy, h.brake]
  have gate (f : Fn) : t.ignitionGateOpen f = s.ignitionGateOpen f := by
    unfold State.ignitionGateOpen
    rw [h.state]
    split
    · rfl
    · rename_i limp
      rw [h.ign (h.state.trans limp)]
    all_goals rfl
  have gated (f : Fn) : t.gatedValue f = s.gatedValue f := by
    simp only [State.gatedValue, opened, gate, (h.fns f).1, (h.fns f).2.1, h.shed]
  cases f <;> simp only [State.resolve, gated]

/-- Two states agree in what a channel is to carry. -/
structure WantsAlike (s t : State) : Prop where
  serving : ∀ ch, t.serving ch = s.serving ch
  stopTurn : ∀ ch, t.stopTurnChannel ch = s.stopTurnChannel ch
  phase : t.flash.phase = s.flash.phase
  active : t.flash.active = s.flash.active
  fns : ∀ f, (t.fnRec f).resolved = (s.fnRec f).resolved ∧ (t.fnRec f).reason = (s.fnRec f).reason

theorem WantsAlike.wantOf {s t : State} (h : WantsAlike s t) (ch : LampId) : t.wantOf ch = s.wantOf ch := by
  unfold State.wantOf State.flashValue
  simp only [h.serving, h.stopTurn, h.phase, h.active, (h.fns _).1, (h.fns _).2]

/-- A part that agrees with a consistent one in what its records follow from, and in the records, is consistent. -/
theorem Consistent.alike {s t : State} (h : Consistent s) (resolves : ResolvesAlike s t) (wants : WantsAlike s t)
    (demands : ∀ ch, (t.lamp ch).demand = (s.lamp ch).demand ∧ (t.lamp ch).demandReason = (s.lamp ch).demandReason)
    (step : t.fan.step = s.fan.step) : Consistent t where
  resolved f := by
    rw [(wants.fns f).1, (wants.fns f).2, resolves.resolve, State.resolvedReason, resolves.hold]
    exact h.resolved f
  demands ch := by
    rw [(demands ch).1, (demands ch).2, wants.wantOf]
    exact h.demands ch
  fanStep := by
    rw [step, (wants.fns .fan).1]
    exact h.fanStep

theorem stopTurn_of_map {s t : State} (state : t.op.state = .limp ↔ s.op.state = .limp)
    (stopTurn : s.op.state ≠ .limp → ∀ ch, (t.lamp ch).cfg.stopTurn = (s.lamp ch).cfg.stopTurn)
    (serving : ∀ ch, t.serving ch = s.serving ch) (ch : LampId) : t.stopTurnChannel ch = s.stopTurnChannel ch := by
  unfold State.stopTurnChannel
  by_cases limp : s.op.state = .limp
  · simp [limp, state.mpr limp]
  · have : t.op.state ≠ .limp := fun e => limp (state.mp e)
    simp only [bne_iff_ne.mpr this, bne_iff_ne.mpr limp, stopTurn limp ch, serving ch]

theorem Quiet.consistent {s t : State} (q : Quiet s t) (h : Consistent s) : Consistent t := by
  have serving (ch : LampId) : t.serving ch = s.serving ch :=
    serving_of_map (by rw [q.op.state]) (fun c => ⟨by rw [(q.lamps c).cfg], (q.lamps c).substituteFor⟩) ch
  refine h.alike ?_ ?_ (fun ch => ⟨(q.lamps ch).demand, (q.lamps ch).demandReason⟩) q.fan.step
  · exact ⟨fun f => by rw [q.fns]; exact ⟨rfl, rfl, rfl⟩, q.scenes, q.courtesyLevel, q.levels .brake rfl, q.op.state,
      fun _ => q.levels .ign rfl, q.op.limpLighting, q.hold, q.shed⟩
  · exact ⟨serving, stopTurn_of_map (by rw [q.op.state]) (fun _ ch => by rw [(q.lamps ch).cfg]) serving, q.flash.phase,
      q.flash.active, fun f => by rw [q.fns]; exact ⟨rfl, rfl⟩⟩

/-- Writes of the lamp channels, the queue and the fan that keep the demands, the configurations and the fan's step. -/
theorem Consistent.lampsAlike {s t : State} (h : Consistent s) (op : t.op = s.op) (resolver : t.resolver = s.resolver)
    (flash : t.flash = s.flash) (inputs : t.inputs = s.inputs) (supply : t.supply = s.supply) (step : t.fan.step = s.fan.step)
    (lamps : ∀ ch, (t.lamp ch).cfg = (s.lamp ch).cfg ∧ (t.lamp ch).substituteFor = (s.lamp ch).substituteFor ∧
      (t.lamp ch).demand = (s.lamp ch).demand ∧ (t.lamp ch).demandReason = (s.lamp ch).demandReason) : Consistent t := by
  have fns (f : Fn) : t.fnRec f = s.fnRec f := by rw [State.fnRec, resolver]; rfl
  have serving (ch : LampId) : t.serving ch = s.serving ch :=
    serving_of_map (by rw [op]) (fun c => ⟨by rw [(lamps c).1], (lamps c).2.1⟩) ch
  refine h.alike ?_ ?_ (fun ch => (lamps ch).2.2) step
  · exact ⟨fun f => by rw [fns]; exact ⟨rfl, rfl, rfl⟩, by rw [resolver], by rw [resolver], level_congr inputs _, by rw [op],
      fun _ => level_congr inputs _, by rw [op], by rw [supply], by rw [supply]⟩
  · exact ⟨serving, stopTurn_of_map (by rw [op]) (fun _ ch => by rw [(lamps ch).1]) serving, by rw [flash], by rw [flash],
      fun f => by rw [fns]; exact ⟨rfl, rfl⟩⟩

theorem arbitrate_consistent {s : State} (h : Consistent s) : Consistent s.arbitrate := by
  have k := arbitrate_keeps s
  obtain ⟨resolver, flash, step⟩ := arbitrate_resolver s
  exact h.lampsAlike k.op resolver flash k.inputs k.supply step fun ch =>
    ⟨(k.lamps ch).cfg, (k.lamps ch).substituteFor, arbitrate_demand s ch⟩

/-- A lamp record is written that keeps its demand and its configuration. -/
theorem consistent_setLamp {s : State} (h : Consistent s) {ch : LampId} {c : LampRec} (cfg : c.cfg = (s.lamp ch).cfg)
    (substituteFor : c.substituteFor = (s.lamp ch).substituteFor) (demand : c.demand = (s.lamp ch).demand)
    (reason : c.demandReason = (s.lamp ch).demandReason) : Consistent (s.setLamp ch c) := by
  refine h.lampsAlike rfl rfl rfl rfl rfl rfl fun k => ?_
  rw [State.lamp_setLamp]
  split
  · rename_i e; subst e; exact ⟨cfg, substituteFor, demand, reason⟩
  · exact ⟨rfl, rfl, rfl, rfl⟩

theorem consistent_fan {s : State} (h : Consistent s) {f : Fan} (step : f.step = s.fan.step) : Consistent { s with fan := f } :=
  h.lampsAlike rfl rfl rfl rfl rfl step fun _ => ⟨rfl, rfl, rfl, rfl⟩

/-! ### In LIMP nothing configurable is on (R65) -/

/-- A configurable function of a part in LIMP without demands resolves to 0 by no gate. -/
theorem resolve_limpQuiet {s : State} (quiet : LimpQuiet s) (limp : s.op.state = .limp) {f : Fn} (configurable : f.configurable = true) :
    s.resolve f = (0, .none) := by
  obtain ⟨base, scenes, -, level⟩ := quiet limp
  have dark : s.openValue f = 0 := by
    have start (g : Fn) (h : g ≠ .dip ∧ g ≠ .side) : s.startValue g = 0 := by
      simp [State.startValue, h, base]
    have scene (g : Fn) (h : g ≠ .dip ∧ g ≠ .side) : s.sceneValue g = 0 := by
      simp [State.sceneValue, start g h, scenes, newestScene]
    cases f <;> simp [Fn.configurable] at configurable <;> simp [State.openValue, scene, level]
  have gated : s.gatedValue f = (0, .none) := by
    have shed : shedValue f (s.fnRec f).cls s.supply.l 0 = 0 := by
      cases f <;> simp [shedValue, panelShed]
    simp [State.gatedValue, dark, shed]
  cases f <;> first | exact gated | simp [Fn.configurable] at configurable

/-! ### LIMP stays quiet -/

theorem limpQuiet_congr {s t : State} (h : LimpQuiet s) (state : t.op.state = .limp → s.op.state = .limp)
    (fns : ∀ f, (t.fnRec f).base = (s.fnRec f).base) (scenes : s.resolver.scenes = [] → t.resolver.scenes = [])
    (phase : t.resolver.courtesy.phase = s.resolver.courtesy.phase) (level : t.resolver.courtesy.level = s.resolver.courtesy.level) :
    LimpQuiet t := by
  intro limp
  obtain ⟨base, noScenes, quiet, dark⟩ := h (state limp)
  exact ⟨fun f => (fns f).trans (base f), scenes noScenes, phase.trans quiet, level.trans dark⟩

theorem limpQuiet_same {s t : State} (h : LimpQuiet s) (state : t.op.state = s.op.state) (resolver : t.resolver = s.resolver) :
    LimpQuiet t :=
  limpQuiet_congr h (fun e => state ▸ e) (fun f => by rw [State.fnRec, resolver]; rfl) (by rw [resolver]; exact id)
    (by rw [resolver]) (by rw [resolver])

theorem Quiet.limpQuiet {s t : State} (q : Quiet s t) (h : LimpQuiet s) : LimpQuiet t :=
  limpQuiet_congr h (fun e => q.op.state ▸ e) (fun f => by rw [q.fns])
    (fun none => by have := q.scenes; rw [none] at this; simpa using this) q.courtesyPhase q.courtesyLevel

theorem SettleKeeps.limpQuiet {s t : State} (k : SettleKeeps s t) (h : LimpQuiet s) : LimpQuiet t :=
  limpQuiet_congr h (fun e => k.op ▸ e) (fun f => (k.fns f).2.2) (by rw [k.scenes]; exact id) (by rw [k.courtesy])
    (by rw [k.courtesy])

theorem Move.limpQuiet {a s t : State} (m : Move a s t) (h : LimpQuiet s) : LimpQuiet t := by
  cases m with
  | quiet q => exact q.limpQuiet h
  | engages e p q =>
    exact limpQuiet_same h (by rw [(engage_examined s e p q).op]) (engage_examined s e p q).resolver
  | releases e p q =>
    exact limpQuiet_same h (by rw [(releaseEntry_examined s e).op]) (releaseEntry_examined s e).resolver
  | resolver r calm => exact calm h
  | enters o new m =>
    intro limp
    rw [enterState_op] at limp
    exact absurd limp m.awake.1
  | remaps o r new m =>
    intro limp
    rw [enterWith_op] at limp
    obtain ⟨base, scenes, phase, level⟩ := m.calm limp
    rw [enterWith_resolver]
    refine ⟨fun f => ?_, scenes, phase, level⟩
    rw [State.fnRec, enterWith_resolver]
    exact base f
  | holds millivolts =>
    have w := holdDeclared_writes s millivolts
    exact limpQuiet_same h (by rw [w.op]) w.resolver
  | lighting o state => exact limpQuiet_same h state rfl
  | trips | clears | marks | fan | gauges | flash | level | holdEnds | sheds => exact limpQuiet_same h rfl rfl

/-! ### Acts -/

theorem goToSleep_consistent {s : State} (watch : s.op.state = .watch) (h : Consistent s) : Consistent s.goToSleep := by
  refine (goToSleep_quiet s).consistent ?_
  have fns (f : Fn) : (s.enterState .sleep).fnRec f = s.fnRec f := by rw [State.fnRec, enterState_resolver]; rfl
  have lamps (ch : LampId) : (s.enterState .sleep).lamp ch = s.lamp ch := by rw [State.lamp, enterState_bank]; rfl
  have serving := enterState_serving (s := s) (new := .sleep) (by simp [watch])
  have step : (s.enterState .sleep).fan = s.fan := by rw [enterState_fan, if_neg (by simp [watch])]
  have wants : WantsAlike s (s.enterState .sleep) :=
    ⟨serving, stopTurn_of_map (by simp [watch]) (fun _ ch => by rw [lamps]) serving, by simp, by simp,
      fun f => by rw [fns]; exact ⟨rfl, rfl⟩⟩
  have resolve (f : Fn) : (s.enterState .sleep).resolve f = s.resolve f := by
    have level (i : InputId) : (s.enterState .sleep).level i = s.level i := level_congr (enterState_inputs ..) i
    have start (f : Fn) : (s.enterState .sleep).startValue f = s.startValue f := by
      simp [State.startValue, watch, fns]
    have opened (f : Fn) : (s.enterState .sleep).openValue f = s.openValue f := by
      cases f <;> simp [State.openValue, State.sceneValue, start, level]
    have gate (f : Fn) : (s.enterState .sleep).ignitionGateOpen f = s.ignitionGateOpen f := by
      simp [State.ignitionGateOpen, watch]
    have gated (f : Fn) : (s.enterState .sleep).gatedValue f = s.gatedValue f := by
      simp only [State.gatedValue, opened, gate, fns, enterState_supply]
    cases f <;> simp only [State.resolve, gated]
  constructor
  · intro f
    rw [fns, resolve, State.resolvedReason, enterState_supply]
    exact h.resolved f
  · intro ch
    rw [lamps, wants.wantOf]
    exact h.demands ch
  · rw [step, fns]
    exact h.fanStep

theorem fncfg_consistent {s : State} (quiet : LimpQuiet s) (limp : s.op.state = .limp) (h : Consistent s) {f : Fn} {r : FnRec}
    {c : Courtesy} (configurable : f.configurable = true)
    (base : r = { s.fnRec f with cls := r.cls, ignitionFed := r.ignitionFed })
    (courtesy : c.phase = s.resolver.courtesy.phase ∧ c.level = s.resolver.courtesy.level) :
    Consistent { s.setFn f r with resolver := { (s.setFn f r).resolver with courtesy := c } } ∧
      LimpQuiet { s.setFn f r with resolver := { (s.setFn f r).resolver with courtesy := c } } := by
  generalize e : ({ s.setFn f r with resolver := { (s.setFn f r).resolver with courtesy := c } } : State) = t
  have written (g : Fn) : t.fnRec g = if g = f then r else s.fnRec g := by
    rw [← e]
    exact State.fnRec_setFn s f g r
  have kept (g : Fn) : (t.fnRec g).base = (s.fnRec g).base ∧ (t.fnRec g).resolved = (s.fnRec g).resolved ∧
      (t.fnRec g).reason = (s.fnRec g).reason := by
    rw [written]
    split
    · rename_i same
      rw [base, same]
      exact ⟨rfl, rfl, rfl⟩
    · exact ⟨rfl, rfl, rfl⟩
  have op : t.op = s.op := by rw [← e]; rfl
  have calm : LimpQuiet t := limpQuiet_congr quiet (by rw [op]; exact id) (fun g => (kept g).1) (by rw [← e]; exact id)
    (by rw [← e]; exact courtesy.1) (by rw [← e]; exact courtesy.2)
  have serving (ch : LampId) : t.serving ch = s.serving ch := by rw [← e]; rfl
  have wants : WantsAlike s t := ⟨serving, by rw [← e]; exact fun _ => rfl, by rw [← e]; rfl, by rw [← e]; rfl, fun g => (kept g).2⟩
  have resolve (g : Fn) : t.resolve g = s.resolve g := by
    by_cases same : g = f
    · subst same
      rw [resolve_limpQuiet quiet limp configurable, resolve_limpQuiet calm (by rw [op]; exact limp) configurable]
    · have gated (k : Fn) (other : k ≠ f) : t.gatedValue k = s.gatedValue k := by
        have same : t.fnRec k = s.fnRec k := by rw [written, if_neg other]
        have start : t.startValue k = s.startValue k := by simp only [State.startValue, op, same]
        have opened : t.openValue k = s.openValue k := by
          have level : t.resolver.courtesy.level = s.resolver.courtesy.level := by rw [← e]; exact courtesy.2
          have scenes : t.resolver.scenes = s.resolver.scenes := by rw [← e]; rfl
          have brake : t.level .brake = s.level .brake := by rw [← e]; rfl
          cases k <;> simp only [State.openValue, State.sceneValue, start, level, scenes, brake]
        have gate : t.ignitionGateOpen k = s.ignitionGateOpen k := by rw [← e]; rfl
        have supply : t.supply = s.supply := by rw [← e]; rfl
        simp only [State.gatedValue, same, opened, gate, supply]
      have main : Fn.main ≠ f := by rintro rfl; cases configurable
      cases g <;> first | rfl | exact gated _ same | simp only [State.resolve, gated _ main]
  refine ⟨⟨fun g => ?_, fun ch => ?_, ?_⟩, calm⟩
  · have hold : t.supply = s.supply := by rw [← e]; rfl
    rw [(kept g).2.1, (kept g).2.2, resolve, State.resolvedReason, hold]
    exact h.resolved g
  · have lamp : t.lamp ch = s.lamp ch := by rw [← e]; rfl
    rw [lamp, wants.wantOf]
    exact h.demands ch
  · have fan : t.fan = s.fan := by rw [← e]; rfl
    rw [fan, (kept .fan).2.1]
    exact h.fanStep

theorem chcfg_consistent {s : State} (limp : s.op.state = .limp) (h : Consistent s) (ch : LampId) (c : LampCfg) :
    Consistent (s.setLamp ch { s.lamp ch with cfg := c }) := by
  have serving (k : LampId) : (s.setLamp ch { s.lamp ch with cfg := c }).serving k = s.serving k := by
    rw [serving_eq, serving_eq, State.setLamp_op, if_pos limp, if_pos limp]
  refine h.alike ?_ ⟨serving, ?_, rfl, rfl, fun _ => ⟨rfl, rfl⟩⟩ (fun k => ?_) rfl
  · exact ⟨fun _ => ⟨rfl, rfl, rfl⟩, rfl, rfl, rfl, rfl, fun _ => rfl, rfl, rfl, rfl⟩
  · exact stopTurn_of_map Iff.rfl (fun out => absurd limp out) serving
  · rw [State.lamp_setLamp]
    split
    · rename_i e; subst e; exact ⟨rfl, rfl⟩
    · exact ⟨rfl, rfl⟩

theorem retryEnds_demand (c : LampRec) (hold signalling : Bool) : (c.retryEnds hold signalling).demand = c.demand ∧
    (c.retryEnds hold signalling).demandReason = c.demandReason := by
  unfold LampRec.retryEnds LampRec.turnOn
  split
  · exact ⟨rfl, rfl⟩
  · split
    · exact ⟨rfl, rfl⟩
    · split <;> exact ⟨rfl, rfl⟩

theorem FanMoves.step {f g : Fan} (m : FanMoves f g) : g.step = f.step := by
  cases m with
  | stalls => rfl
  | clears =>
    unfold Fan.clearLockout
    split <;> rfl

theorem waitEnds_step (f : Fan) (hold : Bool) : (f.waitEnds hold).step = f.step := by
  unfold Fan.waitEnds
  split <;> rfl

theorem rampExpiry_step (f : Fan) : f.rampExpiry.step = f.step := by
  unfold Fan.rampExpiry
  split <;> rfl

theorem Act.consistent {s t : State} (a : Act s t) (h : Consistent s) (quiet : LimpQuiet s) : Consistent t ∧ LimpQuiet t := by
  have arbitrated {u : State} (k : Consistent u) (q : LimpQuiet u) : Consistent u.arbitrate ∧ LimpQuiet u.arbitrate :=
    ⟨arbitrate_consistent k, (arbitrate_keeps u).limpQuiet q⟩
  cases a with
  | inrushEnds ch => exact arbitrated (consistent_setLamp h rfl rfl rfl rfl) (limpQuiet_same quiet rfl rfl)
  | retryEnds ch =>
    obtain ⟨cfg, -, substituteFor, -⟩ := retryEnds_keeps (s.lamp ch) s.supply.hold (s.signalling ch)
    obtain ⟨demand, reason⟩ := retryEnds_demand (s.lamp ch) s.supply.hold (s.signalling ch)
    exact arbitrated (consistent_setLamp h cfg substituteFor demand reason) (limpQuiet_same quiet rfl rfl)
  | kickEnds => exact arbitrated (consistent_fan h (enterRamping_settings ..).2.2) (limpQuiet_same quiet rfl rfl)
  | waitEnds => exact arbitrated (consistent_fan h (waitEnds_step ..)) (limpQuiet_same quiet rfl rfl)
  | stalls f m => exact arbitrated (consistent_fan h m.step) (limpQuiet_same quiet rfl rfl)
  | ramps => exact ⟨consistent_fan h (rampExpiry_step _), limpQuiet_same quiet rfl rfl⟩
  | sleeps watch =>
    refine ⟨goToSleep_consistent watch h, (goToSleep_quiet s).limpQuiet fun limp => ?_⟩
    rw [enterState_op] at limp
    cases limp
  | chcfg ch c limp => exact ⟨chcfg_consistent limp h ch c, limpQuiet_same quiet rfl rfl⟩
  | subcfg e pair =>
    exact ⟨h.lampsAlike rfl rfl rfl rfl rfl rfl fun _ => ⟨rfl, rfl, rfl, rfl⟩, limpQuiet_same quiet rfl rfl⟩
  | fncfg f r c limp configurable base fan courtesy => exact fncfg_consistent quiet limp h configurable base courtesy
  | fancfg x => exact ⟨consistent_fan h rfl, limpQuiet_same quiet rfl rfl⟩

theorem consistent_invariant : Invariant (fun s => Consistent s ∧ LimpQuiet s) fun _ s => LimpQuiet s where
  begins h := h.2
  quiet h q := ⟨q.consistent h.1, q.limpQuiet h.2⟩
  move _ h m := m.limpQuiet h
  settle _ h := ⟨settle_consistent _, (settle_keeps _).limpQuiet h⟩
  act h a := a.consistent h.1 h.2

theorem consistent_same {s t : State} (h : Consistent s) (bank : t.bank = s.bank) (op : t.op = s.op)
    (resolver : t.resolver = s.resolver) (flash : t.flash = s.flash) (inputs : ∀ i, t.level i = s.level i)
    (supply : t.supply = s.supply) (fan : t.fan = s.fan) : Consistent t := by
  have fns (f : Fn) : t.fnRec f = s.fnRec f := by rw [State.fnRec, resolver]; rfl
  have lamps (ch : LampId) : t.lamp ch = s.lamp ch := by rw [State.lamp, bank]; rfl
  have serving (ch : LampId) : t.serving ch = s.serving ch := by rw [State.serving, State.serving, bank, op]
  refine h.alike ?_ ?_ (fun ch => by rw [lamps]; exact ⟨rfl, rfl⟩) (by rw [fan])
  · exact ⟨fun f => by rw [fns]; exact ⟨rfl, rfl, rfl⟩, by rw [resolver], by rw [resolver], inputs _, by rw [op],
      fun _ => inputs _, by rw [op], by rw [supply], by rw [supply]⟩
  · exact ⟨serving, stopTurn_of_map (by rw [op]) (fun _ ch => by rw [lamps]) serving, by rw [flash], by rw [flash],
      fun f => by rw [fns]; exact ⟨rfl, rfl⟩⟩

theorem consistent_reset : Consistent State.reset where
  resolved f := by cases f <;> decide
  demands := by decide
  fanStep := by decide

theorem limpQuiet_reset : LimpQuiet State.reset := fun _ => ⟨fun f => by cases f <;> rfl, rfl, rfl, rfl⟩

theorem consistent_step {s t : State} (h : Consistent s) (quiet : LimpQuiet s) (e : step s = .next t) : Consistent t ∧ LimpQuiet t :=
  consistent_invariant.step
    (fun _ _ => ⟨consistent_same consistent_reset rfl rfl rfl rfl (fun i => by cases i <;> rfl) rfl rfl,
      limpQuiet_same limpQuiet_reset rfl rfl⟩)
    (fun _ _ h => ⟨consistent_same h.1 rfl rfl rfl rfl (fun _ => rfl) rfl rfl, limpQuiet_same h.2 rfl rfl⟩) ⟨h, quiet⟩ e

end Sys2Proof.Machine
end

section
/-! PROOF. A lamp channel's state and off_reason go with its demand (O9, second part). -/

namespace Sys2Proof.Machine

/-! ### One lamp record (R6, R7, R8, R20) -/

/-- What stands of a lamp record within a cause. -/
structure LampGoes (c : LampRec) : Prop where
  dark : c.demand = 0 → c.state.dark
  off : c.state = .off → c.demand = 0 → c.offReason = c.demandReason ∨ c.offReason = .none
  lit : c.state = .queued ∨ c.state = .inrush ∨ c.state = .on → c.offReason = .none
  tripped : c.state = .tripped → c.offReason = .fault
  lockedOut : c.state = .lockedOut → c.offReason = .lockout
  granted : c.granted = true → c.state = .inrush

/-- What stands of a lamp record between causes. -/
structure LampFits (hold : Bool) (c : LampRec) : Prop extends LampGoes c where
  heldOff : c.state = .off → c.demand ≠ 0 → hold = true ∧ c.offReason = .hold
  handed : c.entered = false

theorem lampsOk_iff {s : State} : LampsOk s ↔ ∀ ch, LampFits s.supply.hold (s.lamp ch) := by
  constructor
  · rintro ⟨dark, heldOff, off, lit, tripped, lockedOut, granted, handed⟩ ch
    exact ⟨⟨dark ch, off ch, lit ch, tripped ch, lockedOut ch, granted ch⟩, heldOff ch, handed ch⟩
  · intro h
    exact ⟨fun ch => (h ch).dark, fun ch => (h ch).heldOff, fun ch => (h ch).off, fun ch => (h ch).lit, fun ch => (h ch).tripped,
      fun ch => (h ch).lockedOut, fun ch => (h ch).granted, fun ch => (h ch).handed⟩

theorem LampQuiet.goes {c d : LampRec} (q : LampQuiet c d) (h : LampGoes c) : LampGoes d := by
  obtain ⟨dark, off, lit, tripped, lockedOut, granted⟩ := h
  constructor <;> simp only [q.state, q.demand, q.demandReason, q.offReason, q.granted] <;> assumption

theorem LampQuiet.fits {hold : Bool} {c d : LampRec} (q : LampQuiet c d) (h : LampFits hold c) : LampFits hold d where
  toLampGoes := q.goes h.toLampGoes
  heldOff := by rw [q.state, q.demand, q.offReason]; exact h.heldOff
  handed := q.entered.trans h.handed

theorem LampGoes.bright {c : LampRec} (h : LampGoes c) (lit : c.state = .queued ∨ c.state = .inrush ∨ c.state = .on) : c.demand ≠ 0 := by
  intro none
  obtain e | e | e := lit <;> have := h.dark none <;> simp [e, LampState.dark] at this

theorem remapped_goes {c : LampRec} (h : LampGoes c) : LampGoes c.remapped := by
  by_cases queued : c.state = .queued
  · have bright := h.bright (.inl queued)
    have idle : c.granted ≠ true := fun g => by have := h.granted g; rw [queued] at this; cases this
    constructor <;> simp [LampRec.remapped, queued, LampState.dark, bright, idle]
  · obtain ⟨dark, off, lit, tripped, lockedOut, granted⟩ := h
    constructor <;> simp only [LampRec.remapped, if_neg queued] <;> assumption

theorem standsIn_goes {c : LampRec} (h : LampGoes c) (p : LampId) (primary : LampCfg) : LampGoes (c.standsIn p primary) :=
  ⟨h.dark, h.off, h.lit, h.tripped, h.lockedOut, h.granted⟩

theorem release_goes (c : LampRec) : LampGoes c.release := by
  constructor <;> simp [LampRec.release, LampState.dark]

theorem trips_goes {c d : LampRec} (h : d = c.tripped ∨ d = c.lockedOut) : LampGoes d := by
  obtain rfl | rfl := h
  · constructor <;> simp [LampRec.tripped, LampState.dark]
  · constructor <;> simp [LampRec.lockedOut, LampState.dark]

theorem clearLockout_goes {c : LampRec} (h : LampGoes c) : LampGoes c.clearLockout := by
  unfold LampRec.clearLockout
  split
  · rename_i locked
    have idle : c.granted ≠ true := fun g => by have := h.granted g; rw [locked] at this; cases this
    constructor <;> simp [LampState.dark, idle]
  · exact h

theorem turnOff_goes {c : LampRec} {r : Reason} (h : c.demand = 0 → r = c.demandReason) : LampGoes (c.turnOff r) := by
  constructor <;> simp [LampRec.turnOff, LampState.dark]
  exact fun none => .inl (h none)

theorem onHold_goes_lamp {c : LampRec} (h : LampGoes c) : LampGoes c.onHold := by
  unfold LampRec.onHold
  split
  · exact turnOff_goes fun none => absurd none (h.bright (.inl ‹_›))
  · exact turnOff_goes fun none => absurd none (h.bright (.inr (.inl ‹_›)))
  · exact turnOff_goes fun none => absurd none (h.bright (.inr (.inr ‹_›)))
  · rename_i off
    split
    · exact h
    · rename_i some
      have idle : c.granted ≠ true := fun g => by have := h.granted g; rw [off] at this; cases this
      constructor <;> simp [off, LampState.dark, some, idle]
  · exact h
  · exact h

/-! ### Within a cause -/

/-- What stands of every lamp record within a cause. -/
def LampsGo (s : State) : Prop := ∀ ch, LampGoes (s.lamp ch)

theorem lampsGo_setLamp {s : State} (h : LampsGo s) {ch : LampId} {c : LampRec} (new : LampGoes c) : LampsGo (s.setLamp ch c) := by
  intro k
  rw [State.lamp_setLamp]
  split
  · exact new
  · exact h k

theorem lampsGo_same {s t : State} (h : LampsGo s) (bank : t.bank = s.bank) : LampsGo t := by
  intro ch
  rw [State.lamp, bank]
  exact h ch

theorem Move.lampsGo {a s t : State} (m : Move a s t) (h : LampsGo s) : LampsGo t := by
  cases m with
  | quiet q => exact fun ch => (q.lamps ch).goes (h ch)
  | trips ch c conducts e => exact lampsGo_setLamp h (trips_goes e)
  | engages e p q may pair =>
    intro ch
    rw [engage_lamp]
    split
    · exact remapped_goes (standsIn_goes (h q) ..)
    · exact h ch
  | releases e p q pair engaged =>
    intro ch
    rw [release_lamp pair engaged]
    split
    · exact remapped_goes (release_goes _)
    · exact h ch
  | clears ch => exact lampsGo_setLamp h (clearLockout_goes (h ch))
  | marks ch => exact lampsGo_setLamp h ⟨(h ch).dark, (h ch).off, (h ch).lit, (h ch).tripped, (h ch).lockedOut, (h ch).granted⟩
  | enters o new => exact lampsGo_same h (enterState_bank ..)
  | remaps o r new =>
    intro ch
    have entered : ({ s with op := o, resolver := r }.enterState new).lamp ch = s.lamp ch := by
      rw [State.lamp, enterState_bank]; rfl
    rw [State.enterWith, mapChanged_lamp, entered]
    split
    · exact remapped_goes (h ch)
    · exact h ch
  | holds millivolts =>
    intro ch
    rw [(holdDeclared_writes s millivolts).lamps]
    exact onHold_goes_lamp (h ch)
  | fan | gauges | flash | resolver | lighting | level | holdEnds | sheds => exact lampsGo_same h rfl

/-! ### The settling of a cause -/

theorem turnOn_fits {c : LampRec} (hold signalling : Bool) (off : c.state = .off) (some : c.demand ≠ 0) (idle : c.granted ≠ true)
    (handed : c.entered = false) : LampFits hold (c.turnOn hold signalling) := by
  unfold LampRec.turnOn
  split
  · rename_i held
    refine ⟨?_, fun _ _ => ⟨held, rfl⟩, handed⟩
    constructor <;> simp [off, some, idle]
  · split
    · refine ⟨?_, fun e => (by cases e), handed⟩
      constructor <;> simp [LampRec.enterInrush, some]
    · refine ⟨?_, fun e => (by cases e), handed⟩
      constructor <;> simp [some, idle]

/-- A channel that is handed its value, or is due none, is as `LampsOk` has it. -/
theorem handed_fits {c : LampRec} (h : LampGoes c) (w : Nat × Reason) (hold signalling : Bool) :
    LampFits hold (c.handed w hold signalling) := by
  have idle (other : c.state ≠ .inrush) : c.granted ≠ true := fun g => other (h.granted g)
  unfold LampRec.handed
  split
  · unfold LampRec.takeDemand
    dsimp only
    have lit (st : c.state = .queued ∨ c.state = .inrush ∨ c.state = .on) : LampFits hold
        (if w.1 = 0 then { c with demand := w.1, demandReason := w.2, entered := false }.turnOff w.2
          else { c with demand := w.1, demandReason := w.2, entered := false }) := by
      split
      · rename_i none
        exact ⟨turnOff_goes fun _ => rfl, fun _ some => absurd none some, rfl⟩
      · rename_i some
        have on : c.state ≠ .off ∧ c.state ≠ .tripped ∧ c.state ≠ .lockedOut := by obtain e | e | e := st <;> simp [e]
        refine ⟨⟨fun none => absurd none some, fun e => absurd e on.1, fun _ => h.lit st, fun e => absurd e on.2.1,
          fun e => absurd e on.2.2, h.granted⟩, fun e => absurd e on.1, rfl⟩
    split
    · rename_i off
      split
      · rename_i none
        refine ⟨?_, fun _ some => absurd none some, rfl⟩
        constructor <;> simp [off, LampState.dark, idle]
      · rename_i some
        exact turnOn_fits hold signalling off some (idle (by simp [off])) rfl
    · exact lit (.inl ‹_›)
    · exact lit (.inr (.inl ‹_›))
    · exact lit (.inr (.inr ‹_›))
    · rename_i tripped
      have := h.tripped tripped
      have := idle (by simp [tripped])
      refine ⟨?_, fun e => absurd e (by simp [tripped]), rfl⟩
      constructor <;> simp_all [LampState.dark]
    · rename_i locked
      have := h.lockedOut locked
      have := idle (by simp [locked])
      refine ⟨?_, fun e => absurd e (by simp [locked]), rfl⟩
      constructor <;> simp_all [LampState.dark]
  · rename_i due
    simp only [Bool.or_eq_true, bne_iff_ne, ne_eq, Bool.and_eq_true, beq_iff_eq, not_or, not_not, not_and] at due
    obtain ⟨⟨⟨entered, demand⟩, -⟩, off⟩ := due
    exact ⟨h, fun e some => absurd (demand.symm.trans (off e)) some, by simpa using entered⟩

theorem arbitrate_lampsOk {s : State} (h : LampsOk s) : LampsOk s.arbitrate := by
  have fits := lampsOk_iff.mp h
  refine lampsOk_iff.mpr fun ch => ?_
  rw [(arbitrate_keeps s).supply]
  obtain e | ⟨queued, e⟩ := (arbitrate_grantPass s).lamps ch
  · rw [e]
    exact fits ch
  · rw [e]
    have bright := (fits ch).bright (.inl queued)
    refine ⟨?_, fun off => (by cases off), (fits ch).handed⟩
    constructor <;> simp [LampRec.enterInrush, bright]

theorem settle_lampsOk {s : State} (h : LampsGo s) : LampsOk s.settle := by
  rw [settle_eq]
  refine arbitrate_lampsOk (lampsOk_iff.mpr fun ch => ?_)
  obtain ⟨c, q, lamp⟩ := handedOn_lamp s ch
  rw [ready_lamp, lamp, (ready_keeps s).supply]
  exact handed_fits (q.goes (h ch)) ..

theorem lampsOk_same {s t : State} (h : LampsOk s) (bank : ∀ ch, t.lamp ch = s.lamp ch) (hold : t.supply.hold = s.supply.hold) :
    LampsOk t := by
  refine lampsOk_iff.mpr fun ch => ?_
  rw [bank, hold]
  exact lampsOk_iff.mp h ch

theorem lampsOk_setLamp {s : State} (h : LampsOk s) {ch : LampId} {c : LampRec} (new : LampFits s.supply.hold c) :
    LampsOk (s.setLamp ch c) := by
  refine lampsOk_iff.mpr fun k => ?_
  rw [State.lamp_setLamp]
  split
  · exact new
  · exact lampsOk_iff.mp h k

theorem retryEnds_fits {c : LampRec} {hold : Bool} (h : LampFits hold c) (tripped : c.state = .tripped) (signalling : Bool) :
    LampFits hold (c.retryEnds hold signalling) := by
  have idle : c.granted ≠ true := fun g => by have := h.granted g; rw [tripped] at this; cases this
  unfold LampRec.retryEnds
  split
  · rename_i none
    refine ⟨?_, fun _ some => absurd none some, h.handed⟩
    constructor <;> simp [LampState.dark, idle]
  · rename_i some
    exact turnOn_fits hold signalling rfl some idle h.handed

theorem Act.lampsOk {s t : State} (a : Act s t) (h : LampsOk s) : LampsOk t := by
  have fits := lampsOk_iff.mp h
  cases a with
  | inrushEnds ch inrush =>
    refine arbitrate_lampsOk (lampsOk_setLamp h ?_)
    have bright := (fits ch).bright (.inr (.inl inrush))
    have lit := (fits ch).lit (.inr (.inl inrush))
    refine ⟨?_, fun off => (by cases off), (fits ch).handed⟩
    constructor <;> simp [LampRec.inrushEnds, bright, lit]
  | retryEnds ch tripped => exact arbitrate_lampsOk (lampsOk_setLamp h (retryEnds_fits (fits ch) tripped _))
  | kickEnds | waitEnds | stalls => exact arbitrate_lampsOk (lampsOk_same h (fun _ => rfl) rfl)
  | sleeps =>
    have q := goToSleep_quiet s
    refine lampsOk_iff.mpr fun ch => ?_
    have entered : (s.enterState .sleep).lamp ch = s.lamp ch := by rw [State.lamp, enterState_bank]; rfl
    rw [q.hold, enterState_supply]
    exact (q.lamps ch).fits (by rw [entered]; exact fits ch)
  | chcfg ch c =>
    have old := fits ch
    exact lampsOk_setLamp h ⟨⟨old.dark, old.off, old.lit, old.tripped, old.lockedOut, old.granted⟩, old.heldOff, old.handed⟩
  | ramps | subcfg | fncfg | fancfg => exact lampsOk_same h (fun _ => rfl) rfl

theorem lamps_invariant : Invariant LampsOk fun _ s => LampsGo s where
  begins h ch := (lampsOk_iff.mp h ch).toLampGoes
  quiet h q := lampsOk_iff.mpr fun ch => by
    rw [q.hold]
    exact (q.lamps ch).fits (lampsOk_iff.mp h ch)
  move _ h m := m.lampsGo h
  settle _ h := settle_lampsOk h
  act h a := a.lampsOk h

theorem lampsOk_reset : LampsOk State.reset := by constructor <;> decide

theorem lampsOk_step {s t : State} (h : LampsOk s) (e : step s = .next t) : LampsOk t :=
  lamps_invariant.step (fun _ _ => lampsOk_same lampsOk_reset (fun _ => rfl) rfl) (fun _ _ h => lampsOk_same h (fun _ => rfl) rfl) h e

end Sys2Proof.Machine
end

section
/-! PROOF. The fan, the gauges and the flash engine follow what drives them (O9). -/

namespace Sys2Proof.Machine

/-! ### The fan (R91, R92, R94, R95) -/

/-- What stands of the fan's record within a cause. -/
structure FanFollows (f : Fan) : Prop where
  target : f.target = f.settings.dutyOf f.step
  turning : f.state = .waiting ∨ f.state = .kick ∨ f.state = .ramping ∨ f.state = .running → f.step ≠ 0
  running : f.state = .running → f.applied = f.target

/-- The duty of a step as the statement spells it (Table 5-2). -/
theorem dutyOf_eq (x : FanSettings) (step : Nat) : x.dutyOf step =
    if step = 0 then 0 else if step = 1 then x.duty1 else if step = 2 then x.duty2 else if step = 3 then x.duty3 else x.duty4 := by
  match step with
  | 0 | 1 | 2 | 3 => rfl
  | _ + 4 => simp [FanSettings.dutyOf]

theorem followsOk_iff {s : State} : FollowsOk s ↔ FanFollows s.fan ∧
    (s.fan.state = .stopped → s.fan.step ≠ 0 → s.supply.hold = true) ∧
    ∀ g, s.op.state = .drive → (s.gauge g).cfg.enabled = true → (s.gauge g).state ≠ .off := by
  constructor
  · rintro ⟨target, stopped, turning, running, enabled⟩
    exact ⟨⟨by rw [dutyOf_eq]; exact target, turning, running⟩, stopped, enabled⟩
  · rintro ⟨⟨target, turning, running⟩, stopped, enabled⟩
    exact ⟨by rw [← dutyOf_eq]; exact target, stopped, turning, running, enabled⟩

theorem FanQuiet.follows {f g : Fan} (q : FanQuiet f g) (h : FanFollows f) : FanFollows g := by
  obtain ⟨target, turning, running⟩ := h
  constructor <;> simp only [q.target, q.settings, q.step, q.state, q.applied] <;> assumption

/-- A fan that neither waits nor turns has its target alone to follow. -/
theorem still_follows {f g : Fan} (h : FanFollows f) (target : g.target = f.target) (settings : g.settings = f.settings)
    (step : g.step = f.step) (still : g.state.still) : FanFollows g := by
  refine ⟨by rw [target, settings, step]; exact h.target, fun turns => ?_, fun runs => ?_⟩
  · obtain e | e | e := still <;> simp [e] at turns
  · obtain e | e | e := still <;> simp [e] at runs

theorem stop_follows {f : Fan} (h : FanFollows f) : FanFollows f.stop := still_follows h rfl rfl rfl (.inl rfl)

theorem FanMoves.follows {f g : Fan} (m : FanMoves f g) (h : FanFollows f) : FanFollows g := by
  cases m with
  | stalls st wait retries driven ends =>
    exact still_follows h rfl rfl rfl (ends.elim (fun e => .inr (.inl e)) fun e => .inr (.inr e))
  | clears =>
    unfold Fan.clearLockout
    split
    · exact still_follows h rfl rfl rfl (.inl rfl)
    · exact h

theorem Move.fanFollows {a s t : State} (m : Move a s t) (h : FanFollows s.fan) : FanFollows t.fan := by
  have leaves (f : Fan) (k : FanFollows f) : FanFollows f.leaveDrive := by
    unfold Fan.leaveDrive
    split
    · exact k
    · exact stop_follows k
  cases m with
  | quiet q => exact q.fan.follows h
  | engages e p q => rw [(engage_examined s e p q).fan]; exact h
  | releases e p q => rw [(releaseEntry_examined s e).fan]; exact h
  | fan f m => exact m.follows h
  | enters o new =>
    rw [enterState_fan]
    split
    · exact leaves _ h
    · exact h
  | remaps o r new =>
    rw [(enterWith_examined s o r new a.serving).fan, enterState_fan]
    split
    · exact leaves _ h
    · exact h
  | holds millivolts =>
    rw [(holdDeclared_writes s millivolts).fan]
    unfold Fan.onHold
    split
    · exact stop_follows h
    · exact stop_follows h
    · exact stop_follows h
    · exact stop_follows h
    all_goals exact h
  | trips | clears | marks | gauges | flash | resolver | lighting | level | holdEnds | sheds => exact h

theorem takeStep_follows (f : Fan) (step : Nat) (hold : Bool) : FanFollows (f.takeStep step hold) := by
  have taken (g : Fan) (target : g.target = f.settings.dutyOf step) (same : g.step = step) (settings : g.settings = f.settings)
      (turning : g.state = .waiting ∨ g.state = .kick ∨ g.state = .ramping ∨ g.state = .running → step ≠ 0)
      (running : g.state = .running → g.applied = g.target) : FanFollows g :=
    ⟨by rw [target, settings, same], by rw [same]; exact turning, running⟩
  unfold Fan.takeStep
  dsimp only
  have steady (st : f.state = .waiting ∨ f.state = .kick ∨ f.state = .ramping) : FanFollows
      (if step = 0 then { f with step := step, target := f.settings.dutyOf step }.stop
        else { f with step := step, target := f.settings.dutyOf step }) := by
    split
    · exact taken _ rfl rfl rfl (fun e => by simp [Fan.stop] at e) fun e => by simp [Fan.stop] at e
    · rename_i some
      refine taken _ rfl rfl rfl (fun _ => some) fun e => ?_
      obtain k | k | k := st <;> simp [k] at e
  split
  · rename_i stopped
    split
    · rename_i starts
      simp only [Bool.and_eq_true, bne_iff_ne] at starts
      exact taken _ rfl rfl rfl (fun _ => starts.1) fun e => by simp [Fan.startWaiting] at e
    · exact taken _ rfl rfl rfl (fun e => by simp [stopped] at e) fun e => by simp [stopped] at e
  · exact steady (.inl ‹_›)
  · exact steady (.inr (.inl ‹_›))
  · exact steady (.inr (.inr ‹_›))
  · rename_i runs
    split
    · exact taken _ rfl rfl rfl (fun e => by simp [Fan.stop] at e) fun e => by simp [Fan.stop] at e
    · rename_i some
      split
      · rename_i same
        exact taken _ rfl rfl rfl (fun _ => some) fun _ => same.symm
      · exact taken _ rfl rfl rfl (fun _ => some) fun e => by simp at e
  · rename_i waits
    exact taken _ rfl rfl rfl (fun e => by simp [waits] at e) fun e => by simp [waits] at e
  · rename_i locked
    exact taken _ rfl rfl rfl (fun e => by simp [locked] at e) fun e => by simp [locked] at e

/-- After its step is taken the fan stands stopped at a nonzero step only while HOLD stands. -/
theorem follows_follows {f : Fan} (h : FanFollows f) (step : Nat) (hold : Bool) : FanFollows (f.follows step hold) ∧
    ((f.follows step hold).state = .stopped → (f.follows step hold).step ≠ 0 → hold = true) := by
  have taken : FanFollows (if step = f.step then f else f.takeStep step hold) := by
    split
    · exact h
    · exact takeStep_follows f step hold
  unfold Fan.follows
  dsimp only
  generalize (if step = f.step then f else f.takeStep step hold) = g at taken
  split
  · rename_i starts
    exact ⟨⟨taken.target, fun _ => starts.2.1, fun e => by simp [Fan.startWaiting] at e⟩,
      fun e => by simp [Fan.startWaiting] at e⟩
  · rename_i stays
    refine ⟨taken, fun stopped some => ?_⟩
    simpa using fun e => stays ⟨stopped, some, e⟩

theorem enterRamping_follows {f : Fan} (target : f.target = f.settings.dutyOf f.step) (some : f.step ≠ 0) (d : Nat) :
    FanFollows (f.enterRamping d) := by
  unfold Fan.enterRamping
  split
  · rename_i same
    exact ⟨target, fun _ => some, fun _ => same⟩
  · exact ⟨target, fun _ => some, fun e => by simp at e⟩

theorem takeGrant_follows {f : Fan} (h : FanFollows f) (waiting : f.state = .waiting) :
    FanFollows f.takeGrant ∧ f.takeGrant.state ≠ .stopped := by
  have some := h.turning (.inl waiting)
  unfold Fan.takeGrant
  split
  · refine ⟨enterRamping_follows (f := { f with granted := false, stallTimer := 0 }) h.target some 0, ?_⟩
    unfold Fan.enterRamping
    split <;> simp
  · exact ⟨⟨h.target, fun _ => some, fun e => by simp at e⟩, by simp⟩

/-! ### The fan and the gauges after every step -/

theorem arbitrate_followsOk {s : State} (h : FollowsOk s) : FollowsOk s.arbitrate := by
  obtain ⟨fan, stopped, enabled⟩ := followsOk_iff.mp h
  have k := arbitrate_keeps s
  refine followsOk_iff.mpr ?_
  rw [k.supply, k.op]
  have gauges (g : GaugeId) : s.arbitrate.gauge g = s.gauge g := by rw [State.gauge, arbitrate_gauges]; rfl
  refine ⟨?_, ?_, fun g => by rw [gauges]; exact enabled g⟩
  · obtain e | ⟨waiting, e⟩ := (arbitrate_grantPass s).fan
    · rw [e]; exact fan
    · rw [e]; exact (takeGrant_follows fan waiting).1
  · obtain e | ⟨waiting, e⟩ := (arbitrate_grantPass s).fan
    · rw [e]; exact stopped
    · rw [e]; exact fun st => absurd st (takeGrant_follows fan waiting).2

theorem settle_followsOk {s : State} (h : FanFollows s.fan) : FollowsOk s.settle := by
  rw [settle_eq]
  have k := ready_keeps s
  obtain ⟨fan, stopped⟩ := follows_follows h (s.resolve .fan).1 s.supply.hold
  refine arbitrate_followsOk (followsOk_iff.mpr ?_)
  rw [ready_fan, k.supply, k.op]
  refine ⟨fan, stopped, fun g drive on => ?_⟩
  rw [ready_gauge] at on ⊢
  unfold Gauge.poked at on ⊢
  split
  · simp [Gauge.enterRun]
  · rename_i other
    rw [if_neg other] at on
    exact fun off => other ⟨off, on, drive⟩

/-- A write of the fan alone. -/
theorem followsOk_fan {s : State} (h : FollowsOk s) {f : Fan} (fan : FanFollows f)
    (stopped : f.state = .stopped → f.step ≠ 0 → s.supply.hold = true) : FollowsOk { s with fan := f } := by
  obtain ⟨-, -, enabled⟩ := followsOk_iff.mp h
  exact followsOk_iff.mpr ⟨fan, stopped, enabled⟩

theorem followsOk_same {s t : State} (h : FollowsOk s) (fan : t.fan = s.fan) (supply : t.supply = s.supply) (op : t.op = s.op)
    (gauges : t.gauges = s.gauges) : FollowsOk t := by
  obtain ⟨follows, stopped, enabled⟩ := followsOk_iff.mp h
  refine followsOk_iff.mpr ?_
  rw [fan, supply, op]
  exact ⟨follows, stopped, fun g => by rw [State.gauge, gauges]; exact enabled g⟩

theorem followsOk_quiet {s t : State} (h : FollowsOk s) (q : Quiet s t) : FollowsOk t := by
  obtain ⟨follows, stopped, enabled⟩ := followsOk_iff.mp h
  refine followsOk_iff.mpr ⟨q.fan.follows follows, ?_, fun g => ?_⟩
  · rw [q.fan.state, q.fan.step, q.hold]
    exact stopped
  · rw [q.op.state]
    exact fun drive on off => enabled g drive ((q.gauges g).enabled drive on) ((q.gauges g).off off)

theorem Act.followsOk {s t : State} (a : Act s t) (h : FollowsOk s) (units : UnitsOk s) : FollowsOk t := by
  obtain ⟨follows, stopped, enabled⟩ := followsOk_iff.mp h
  cases a with
  | inrushEnds | retryEnds => exact arbitrate_followsOk (followsOk_same h rfl rfl rfl rfl)
  | kickEnds kick =>
    have some := follows.turning (.inr (.inl kick))
    refine arbitrate_followsOk (followsOk_fan h (enterRamping_follows
      (f := { s.fan with granted := false, kickTimer := none, stallTimer := 0 }) follows.target some 1000) fun e => ?_)
    unfold Fan.kickEnds Fan.enterRamping at e
    split at e <;> simp at e
  | waitEnds wait =>
    refine arbitrate_followsOk (followsOk_fan h ?_ ?_)
    · unfold Fan.waitEnds
      split
      · rename_i starts
        exact ⟨follows.target, fun _ => starts.1, fun e => by simp [Fan.startWaiting] at e⟩
      · exact stop_follows follows
    · unfold Fan.waitEnds
      split
      · exact fun e => by simp [Fan.startWaiting] at e
      · rename_i stays
        exact fun _ some => by simpa using fun e => stays ⟨some, e⟩
  | stalls f m driven =>
    refine arbitrate_followsOk (followsOk_fan h (m.follows follows) ?_)
    cases m with
    | stalls st wait retries driven ends => exact fun e => by obtain rfl | rfl := ends <;> simp at e
    | clears =>
      rw [Fan.clearLockout, if_neg (fun locked => by simp [locked, FanState.conducts] at driven)]
      exact stopped
  | ramps ramping =>
    have some := follows.turning (.inr (.inr (.inl ramping)))
    refine followsOk_fan h ?_ ?_
    · unfold Fan.rampExpiry
      split
      · exact ⟨follows.target, fun _ => some, fun _ => rfl⟩
      · exact ⟨follows.target, fun _ => some, fun e => by simp [ramping] at e⟩
    · unfold Fan.rampExpiry
      split
      · exact fun e => by simp at e
      · exact fun e => by simp [ramping] at e
  | sleeps watch =>
    refine followsOk_quiet (followsOk_iff.mpr ?_) (goToSleep_quiet s)
    rw [enterState_fan, if_neg (by simp [watch]), enterState_supply, enterState_op]
    exact ⟨follows, stopped, fun _ drive => by cases drive⟩
  | fancfg x limp =>
    have none : s.fan.step = 0 := (units.fan.outsideDrive (by simp [limp])).2
    refine followsOk_fan h ⟨?_, follows.turning, follows.running⟩ stopped
    rw [follows.target, none]
    rfl
  | chcfg | subcfg | fncfg => exact followsOk_same h rfl rfl rfl rfl

theorem follows_invariant : Invariant (fun s => FollowsOk s ∧ UnitsOk s) fun _ s => FanFollows s.fan ∧ UnitsGo s where
  begins h := ⟨(followsOk_iff.mp h.1).1, units_invariant.begins h.2⟩
  quiet h q := ⟨followsOk_quiet h.1 q, unitsOk_quiet h.2 q⟩
  move _ g m := ⟨m.fanFollows g.1, m.unitsGo g.2⟩
  settle h g := ⟨settle_followsOk g.1, units_invariant.settle h.2 g.2⟩
  act h a := ⟨a.followsOk h.1 h.2, a.unitsOk h.2⟩

theorem followsOk_reset : FollowsOk State.reset := by constructor <;> decide

theorem followsOk_step {s t : State} (h : FollowsOk s) (units : UnitsOk s) (e : step s = .next t) : FollowsOk t :=
  (follows_invariant.step
    (fun _ _ => ⟨followsOk_same followsOk_reset rfl rfl rfl rfl, unitsOk_same unitsOk_reset rfl rfl rfl rfl rfl⟩)
    (fun _ _ h => ⟨followsOk_same h.1 rfl rfl rfl rfl, unitsOk_same h.2 rfl rfl rfl rfl rfl⟩) ⟨h, units⟩ e).1

/-! ### The flash engine (R68, R73, R76) -/

/-- Outside SLEEP an idle engine wants nothing. -/
def FlashContent (s : State) : Prop :=
  s.op.state ≠ .sleep → s.flash.phase = .idle →
    s.flash.hazIn = false ∧ s.flash.hostHazard = false ∧ (s.op.state = .drive → s.flash.hostSide = .none)

theorem flashOk_iff {s : State} : FlashOk s ↔ FlashForm s.flash ∧ FlashContent s :=
  ⟨fun h => ⟨⟨h.idle, h.flashing⟩, h.wants⟩, fun h => ⟨h.1.1, h.1.2, h.2⟩⟩

/-- An engine that is idle outside SLEEP wants nothing exactly where its wanted set is empty (R72). -/
theorem flashContent_of_wanted {s : State} (h : s.op.state ≠ .sleep → s.flash.phase = .idle → s.wanted = .none) : FlashContent s := by
  intro awake idle
  have none := h awake idle
  unfold State.wanted Flash.hazard at none
  split at none
  · cases none
  · rename_i calm
    simp only [Bool.or_eq_true, not_or, Bool.not_eq_true] at calm
    exact ⟨calm.1, calm.2, fun drive => by rwa [if_pos drive] at none⟩

theorem FlashQuiet.form {f g : Flash} (q : FlashQuiet f g) (h : FlashForm f) : FlashForm g := by
  unfold FlashForm
  rw [q.phase, q.active, q.fast, ne_eq g.timer, q.timer]
  exact h

theorem flashOk_quiet {s t : State} (h : FlashOk s) (q : Quiet s t) : FlashOk t := by
  obtain ⟨form, content⟩ := flashOk_iff.mp h
  refine flashOk_iff.mpr ⟨q.flash.form form, ?_⟩
  unfold FlashContent
  rw [q.op.state, q.flash.phase, q.flash.hazIn, q.flash.hostHazard]
  intro awake idle
  obtain ⟨haz, host, side⟩ := content awake idle
  refine ⟨haz, host, fun drive => ?_⟩
  obtain e | e := q.flash.hostSide
  · rw [e]; exact side drive
  · exact e

theorem Move.flashForm {a s t : State} (m : Move a s t) (h : FlashForm s.flash) : FlashForm t.flash := by
  cases m with
  | quiet q => exact q.flash.form h
  | engages e p q => rw [(engage_examined s e p q).flash]; exact h
  | releases e p q => rw [(releaseEntry_examined s e).flash]; exact h
  | flash fl k => exact k h
  | enters o new => rw [enterState_flash]; exact h
  | remaps o r new => rw [(enterWith_examined s o r new a.serving).flash, enterState_flash]; exact h
  | holds millivolts => rw [(holdDeclared_writes s millivolts).flash]; exact h
  | trips | clears | marks | fan | gauges | resolver | lighting | level | holdEnds | sheds => exact h

theorem wanted_congr {s t : State} (k : SettleKeeps s t) : t.wanted = s.wanted := by
  unfold State.wanted Flash.hazard
  rw [k.op, k.hostSide, k.hostHazard, k.hazIn]

theorem flashPoke_flashOk {s : State} (h : FlashForm s.flash) : FlashForm s.flashPoke.flash ∧
    (s.op.state ≠ .sleep → s.flashPoke.flash.phase = .idle → s.wanted = .none) := by
  unfold State.flashPoke
  split
  · rename_i starts
    obtain ⟨fl, u, -, e, phase, active, timer⟩ := onStart_examined s s.wanted
    rw [e]
    exact ⟨⟨fun idle => absurd idle (by simp [phase]), fun _ => ⟨active ▸ starts.2.1, timer⟩⟩,
      fun _ idle => absurd idle (by simp [phase])⟩
  · rename_i stays
    exact ⟨h, fun awake idle => Classical.byContradiction fun some => stays ⟨idle, some, awake⟩⟩

theorem gaugePoke_flash (s : State) : s.gaugePoke.flash = s.flash := by
  unfold State.gaugePoke
  generalize allGauges = l
  induction l generalizing s with
  | nil => rfl
  | cons g l ih =>
    rw [List.foldl_cons, ih]
    unfold State.gaugePokeOne
    split <;> rfl

theorem resolveAll_flash (s : State) : s.resolveAll.flash = s.flash := by
  unfold State.resolveAll
  generalize allFns = l
  induction l generalizing s with
  | nil => rfl
  | cons f l ih => exact (ih _).trans rfl

/-- Only the poke of the engine writes the flash record as a cause is settled. -/
theorem settle_flash (s : State) : s.settle.flash = s.flashPoke.flash := by
  rw [State.settle, (arbitrate_resolver _).2.1, (fanStart_resolver _).2.1, (fanFollow_resolver _).2.1, State.handAll,
    (handList_resolver _ _).2.1, resolveAll_flash, gaugePoke_flash]

theorem settle_flashOk {s : State} (h : FlashForm s.flash) : FlashOk s.settle := by
  obtain ⟨form, poked⟩ := flashPoke_flashOk h
  have k := settle_keeps s
  refine flashOk_iff.mpr ⟨by rw [settle_flash]; exact form, flashContent_of_wanted ?_⟩
  rw [k.op, settle_flash, wanted_congr k]
  exact poked

theorem flashOk_same {s t : State} (h : FlashOk s) (flash : t.flash = s.flash) (op : t.op = s.op) : FlashOk t := by
  obtain ⟨form, content⟩ := flashOk_iff.mp h
  refine flashOk_iff.mpr ⟨by rw [flash]; exact form, ?_⟩
  unfold FlashContent
  rw [flash, op]
  exact content

theorem Act.flashOk {s t : State} (a : Act s t) (h : FlashOk s) : FlashOk t := by
  have arbitrated {u : State} (k : FlashOk u) : FlashOk u.arbitrate :=
    flashOk_same k (arbitrate_resolver u).2.1 (arbitrate_keeps u).op
  cases a with
  | inrushEnds | retryEnds | kickEnds | waitEnds | stalls => exact arbitrated (flashOk_same h rfl rfl)
  | sleeps =>
    refine flashOk_quiet (flashOk_iff.mpr ⟨?_, fun awake => ?_⟩) (goToSleep_quiet s)
    · rw [enterState_flash]
      exact (flashOk_iff.mp h).1
    · rw [enterState_op] at awake
      exact absurd rfl awake
  | ramps | chcfg | subcfg | fncfg | fancfg => exact flashOk_same h rfl rfl

theorem flash_invariant : Invariant FlashOk fun _ s => FlashForm s.flash where
  begins h := (flashOk_iff.mp h).1
  quiet := flashOk_quiet
  move _ h m := m.flashForm h
  settle _ h := settle_flashOk h
  act h a := a.flashOk h

theorem flashOk_reset : FlashOk State.reset := by constructor <;> decide

theorem flashOk_step {s t : State} (h : FlashOk s) (e : step s = .next t) : FlashOk t :=
  flash_invariant.step (fun _ _ => flashOk_same flashOk_reset rfl rfl) (fun _ _ h => flashOk_same h rfl rfl) h e

/-- Settles O9: the settling of every cause brings each record back to what drives it, and what ends without it keeps it there. -/
theorem everyStepLeavesThePartConsistent : Obligations.EveryStepLeavesThePartConsistent :=
  ⟨fun _ _ => consistent_step, fun _ _ => lampsOk_step, fun _ _ => followsOk_step, fun _ _ => flashOk_step⟩

end Sys2Proof.Machine
end

section
/-! PROOF. One step and the reset values (O1, O3). -/

namespace Sys2Proof.Machine

/-- Settles O1: `step` is defined by the two cases. -/
theorem stepRunsFrontCommand : Obligations.StepRunsFrontCommand := fun _ _ _ => ⟨rfl, rfl⟩

theorem queueOk_reset : QueueOk State.reset := by
  constructor
  · decide
  · decide
  · decide
  · decide
  · exact fun e rest h => by cases h

theorem boundsOk_reset : BoundsOk State.reset := by
  refine ⟨by decide, fun _ => rfl, by decide, by decide, fun sc hsc => ?_⟩
  cases hsc

/-- Settles O3: each invariant by its own record of reset values. -/
theorem resetMeetsTheInvariants : Obligations.ResetMeetsTheInvariants :=
  ⟨by unfold AllowanceOk; decide, eventsOk_iff.mpr ⟨by decide, List.Pairwise.nil, fun r hr => by cases hr⟩, flagsOk_reset,
    holdOk_reset, signallingOk_reset, boundsOk_reset, substitutionOk_reset, consistent_reset, limpQuiet_reset, queueOk_reset,
    unitsOk_reset, lampsOk_reset, followsOk_reset, flashOk_reset⟩

end Sys2Proof.Machine
end

section
/-! PROOF. Resets (O13, O14) and the requests of the link and report block (O16 to O18). -/

namespace Sys2Proof.Machine

/-! ### A request that is taken -/

/-- A request taken by an owner that leaves the body link alone: the owner's state, with the reply in the transmitter (R166, R168). -/
theorem request_answers {k : ReqKind} {owner : List Byte → State → Answer} {s u : State} {p : List Byte} {rest : List Frame}
    {code : ResultCode} {data : List Byte} (h : Takes s k.code p rest) (length : k.lengthOk p.length = true)
    (answer : owner p (s.popInbound rest) = { state := u, code := code, data := data }) (link : u.link = (s.popInbound rest).link) :
    s.live (State.request k owner) = .next { u with link := linkAfter s rest k.code code data } := by
  rw [request_taken h length, answer]
  dsimp only
  rw [link]
  rfl

/-! ### Resets (R160, R180, R150) -/

/-- A held part is left as it is by every command but those that begin or end a reset. -/
theorem exec_held {c : Instr} {s : State} (held : s.op.resetHeld = true) (other : isReset c = false) : exec c s = .next s := by
  cases c with
  | powerOn | brownout | resetLine | resetRelease => cases other
  | rxByte data parity stop => exact live_held held fun s => s.receive data parity stop
  | gapTimeout => exact live_held held fun s => s.setAssembler .hunt
  | replySent => exact live_held held fun s => { s with link := s.link.sent }
  | currentSample readings => exact live_held held fun s => s.currentSample readings
  | supplySample bat chg => exact live_held held fun s => s.supplySampled bat chg
  | inputSample pins => exact live_held held fun s => s.sampleInputs pins
  | inputLevelChange i =>
    exact live_held held fun s =>
      if s.levelDue i then s.deliverLevel i (!s.level i) else if s.sleptFirst i then s.deliverAsleep i else s
  | _ => exact live_held held _

/-- Settles O13: each reset command by its definition, every other by `State.live`. -/
theorem resetsHoldThePart : Obligations.ResetsHoldThePart := by
  refine ⟨fun s => rfl, fun s => rfl, fun s => rfl, fun s run taken shifting waiting => ?_, fun c s held => ?_⟩
  · have due : s.restartDue = true := by simp [State.restartDue, taken, shifting, waiting]
    refine (live_run run _).trans ?_
    rw [if_pos due]
    rfl
  · refine ⟨exec_held held, fun ch => ?_, ?_, ?_, ?_⟩
    · simp [State.outputDuty, held]
    · simp [State.attn, held]
    · simp [State.txBusy, held]
    · simp [State.txLine, held]

/-- Settles O14: the release by the reset values, POL by what every command keeps. -/
theorem releaseGivesResetValues : Obligations.ReleaseGivesResetValues := by
  refine ⟨fun s polOpen held => ?_, fun c s t awake e => ?_, fun s ch side duty out => ?_⟩
  · refine ⟨s.afterReset polOpen, by rw [exec_resetRelease, if_pos held], rfl, rfl, rfl, ?_, ?_, ?_, ?_, ?_, rfl, rfl, rfl, ?_, rfl,
      rfl, rfl, rfl, rfl, ?_, rfl, rfl, rfl, rfl, rfl⟩
    · intro i
      cases i <;> rfl
    · intro g
      fin_cases g <;> rfl
    · intro ch
      fin_cases ch <;> rfl
    · intro ch
      fin_cases ch <;> rfl
    · intro k
      fin_cases k <;> rfl
    · intro f
      cases f <;> rfl
    · intro g
      fin_cases g <;> rfl
  · have earth := (exec_steady awake e).earth
    exact ⟨earth, by rw [State.outputSide, earth]; rfl⟩
  · unfold State.output at out
    split at out
    · cases out
    · obtain ⟨rfl, rfl⟩ := Prod.mk.inj (Option.some.inj out)
      exact ⟨rfl, rfl, ‹_›⟩

/-! ### STATUS, CAUSE, EVMASK, EVFETCH -/

/-- Settles O16: STATUS is taken, and the clearing of the flags commutes with the placing of the reply. -/
theorem statusReportsAndClears : Obligations.StatusReportsAndClears := by
  intro s rest h
  refine (request_taken (k := .status) h rfl).trans ?_
  dsimp only [statusOwner, State.clearSeen, popInbound_link, linkAfter, Link.send]
  cases s.link.shifting <;> rfl

/-- The bits of a mask payload are its three bytes (R175). -/
theorem mask_append (a b c : Byte) : BitVec.ofNat 24 (maskOf [a, b, c]) = (a ++ b ++ c : BitVec 24) := by
  apply BitVec.eq_of_toNat_eq
  have ha := a.isLt
  have hb := b.isLt
  have hc := c.isLt
  simp only [maskOf, u8, List.getD_cons_zero, List.getD_cons_succ, BitVec.toNat_ofNat, BitVec.toNat_append]
  rw [← Nat.shiftLeft_add_eq_or_of_lt hb, ← Nat.shiftLeft_add_eq_or_of_lt hc, Nat.shiftLeft_eq, Nat.shiftLeft_eq]
  omega

/-- The bytes of a mask are those it was given as (R175). -/
theorem maskField_bytes {a b c : Byte} (low : a.toNat < 16) : maskField (BitVec.ofNat 24 (maskOf [a, b, c])) = [a, b, c] := by
  have hb := b.isLt
  have hc := c.isLt
  have value : (BitVec.ofNat 24 (maskOf [a, b, c])).toNat = 65536 * a.toNat + 256 * b.toNat + c.toNat := by
    simp only [maskOf, u8, List.getD_cons_zero, List.getD_cons_succ, BitVec.toNat_ofNat]
    omega
  have byte (n : Nat) (x : Byte) (h : n = x.toNat) : b1 n = [x] := by
    subst h
    have := x.isLt
    rw [b1, Nat.min_eq_right (by omega), BitVec.ofNat_toNat, BitVec.setWidth_eq]
  rw [maskField, value, byte _ a (by omega), byte _ b (by omega), byte _ c (by omega)]
  rfl

/-- Settles O17: CAUSE by the cases of the set, EVMASK by its bound. -/
theorem causeAndEvmaskActOnTheReport : Obligations.CauseAndEvmaskActOnTheReport := by
  refine ⟨fun s rest h => ?_, fun s rest a b c h => ⟨fun low => ?_, fun high => ?_⟩⟩
  · have answer : causeOwner [] (s.popInbound rest) =
        { state := { s.popInbound rest with report := { s.report with causes := s.report.causes.take.2 } }
          code := .ok
          data := b1 ((s.report.causes.take.1.map StartCause.code).getD 0) } := rfl
    refine (request_answers (k := .cause) h rfl answer rfl).trans ?_
    unfold CauseSet.take
    split
    · rfl
    · split
      · rfl
      · split
        · rfl
        · split <;> rfl
  · have value : maskOf [a, b, c] = 65536 * a.toNat + 256 * b.toNat + c.toNat := rfl
    have := b.isLt
    have := c.isLt
    have answer : evmaskOwner [a, b, c] (s.popInbound rest) =
        { state := { s.popInbound rest with report := { s.report with mask := BitVec.ofNat 24 (maskOf [a, b, c]) } }
          code := .ok
          data := maskField (BitVec.ofNat 24 (maskOf [a, b, c])) } := if_neg (by omega)
    refine (request_answers (k := .evmask) h rfl answer rfl).trans ?_
    rw [maskField_bytes low, mask_append]
    rfl
  · have value : maskOf [a, b, c] = 65536 * a.toNat + 256 * b.toNat + c.toNat := rfl
    exact request_reply (k := .evmask) h rfl (if_pos (by omega))

/-- The field of a slot is that of its record, or 0 in an empty slot. -/
theorem slot_eq (field : EventRec → Nat) (slot : Option EventRec → Nat) (full : ∀ r, slot (some r) = field r) (empty : slot none = 0)
    (events : List EventRec) {n : Nat} (h : n < 4) : slot (events.take 4)[n]? = ((events[n]?).map field).getD 0 := by
  rw [List.getElem?_take_of_lt h]
  cases events[n]? with
  | none => exact empty
  | some r => exact full r

/-- Settles O18: the four slots are the first four records, and each of their fields is laid out as Table 11-9 gives it. -/
theorem evfetchTakesFour : Obligations.EvfetchTakesFour := by
  intro s rest h few left returned tagOf slot tag count detail time data
  have tags : ∀ n < 4, slotTag (s.report.fetched[n]?) = tag n := fun n hn =>
    slot_eq tagOf slotTag (fun r => by cases e : r.kind <;> simp [slotTag, EventKind.tag, tagOf, e, EventKind.code]) rfl _ hn
  have counts : ∀ n < 4, slotCount (s.report.fetched[n]?) = count n := fun n hn => slot_eq _ slotCount (fun _ => rfl) rfl _ hn
  have details : ∀ n < 4, slotDetail (s.report.fetched[n]?) = detail n := fun n hn => slot_eq _ slotDetail (fun _ => rfl) rfl _ hn
  have times : ∀ n < 4, slotTime (s.report.fetched[n]?) = time n := fun n hn => slot_eq _ slotTime (fun _ => rfl) rfl _ hn
  have flag : 128 * yesNo s.report.overflow = if s.report.overflow then 128 else 0 := by cases s.report.overflow <;> rfl
  have laidOut : s.report.fetchData = data := by
    have lengths : (s.report.events.drop 4).length = left ∧ s.report.fetched.length = returned :=
      ⟨List.length_drop, List.length_take⟩
    simp only [Report.fetchData, tags, counts, details, times, flag, lengths, Nat.reduceLT]
    rfl
  have answer : evfetchOwner [] (s.popInbound rest) =
      { state := { s.popInbound rest with report := s.report.afterFetch }, code := .ok, data := s.report.fetchData } := rfl
  refine ⟨_, request_answers (k := .evfetch) h rfl answer rfl, ?_, rfl, fun four => ?_⟩
  · have overflow : s.report.afterFetch.overflow = if s.report.events.drop 4 = [] then false else s.report.overflow := by
      unfold Report.afterFetch
      cases s.report.events.drop 4 <;> simp
    rw [laidOut, ← overflow]
    rfl
  · have empty : s.report.events.drop 4 = [] := List.drop_eq_nil_of_le four
    simp [State.attn, Report.afterFetch, empty]

end Sys2Proof.Machine
end

section
/-! PROOF. The body link: the assembler and the bits on TX (O41), a valid frame (O42), a whole frame (O10), the silent link (O43). -/

namespace Sys2Proof.Machine

/-- A command that acts while no reset holds the part. -/
theorem exec_runs {c : Instr} {s : State} {k : State → State} (running : s.op.resetHeld = false)
    (h : exec c s = s.live k) : exec c s = .next (k s) := h.trans (live_run running k)

/-! ### A byte that is received (R161, R162) -/

theorem exec_rxByte (b : Byte) (parity stop : Bool) (s : State) :
    exec (.rxByte b parity stop) s = s.live (fun s => s.receive b parity stop) := rfl

theorem exec_gapTimeout (s : State) : exec .gapTimeout s = s.live (fun s => s.setAssembler .hunt) := rfl

theorem exec_replySent (s : State) : exec .replySent s = s.live (fun s => { s with link := s.link.sent }) := rfl

theorem exec_receiverRestart (s : State) :
    exec .receiverRestart s = s.live (fun s =>
      if s.link.receiverPaused then { s with link := { s.link with receiverPaused := false, assembler := .hunt } } else s) := rfl

theorem exec_linkTimeout (s : State) :
    exec .linkTimeout s = s.live (fun s => if s.maySilence then s.goSilent else s) := rfl

/-- A byte in error reaches a receiver that listens. -/
theorem receive_error {s : State} (h : Listens s) {b : Byte} {parity stop : Bool} (e : parity ≠ parityBit b ∨ stop = false) :
    exec (.rxByte b parity stop) s = .next s.lineErrored := by
  obtain ⟨held, awake, running⟩ := h
  have bad : ¬ (parity = parityBit b ∧ stop = true) := by
    rintro ⟨hp, hs⟩
    rcases e with e | e
    · exact e hp
    · simp [e] at hs
  rw [exec_rxByte, live_run held]
  simp [State.receive, awake, running, bad]

/-- A byte without error reaches the assembler of a receiver that listens. -/
theorem receive_byte {s : State} (h : Listens s) (b : Byte) : exec (.rxByte b (parityBit b) true) s = .next (s.assemble b) := by
  obtain ⟨held, awake, running⟩ := h
  rw [exec_rxByte, live_run held]
  simp [State.receive, awake, running]

section
variable {s : State} {b : Byte}

theorem assemble_hunt (h : s.link.assembler = .hunt) :
    s.assemble b = { s with link := { s.link with assembler := if b = startMark then .length else .hunt } } := by
  simp only [State.assemble, h]
  by_cases mark : b = startMark
  · rw [if_pos mark, if_pos mark]
    rfl
  · rw [if_neg mark, if_neg mark, ← h]

theorem assemble_length (h : s.link.assembler = .length) (few : b.toNat ≤ 24) :
    s.assemble b = s.setAssembler (.kind b.toNat) := by
  simp only [State.assemble, h, if_pos few]

theorem assemble_tooLong (h : s.link.assembler = .length) (many : 24 < b.toNat) : s.assemble b = s.formatErrored := by
  simp only [State.assemble, h, if_neg (Nat.not_le.mpr many)]

theorem assemble_kind {n : Nat} (h : s.link.assembler = .kind n) :
    s.assemble b = s.setAssembler (if n = 0 then .check 0 b [] else .payload n b []) := by
  simp only [State.assemble, h]

theorem assemble_payload {n : Nat} {k : Byte} {held : List Byte} (h : s.link.assembler = .payload n k held) :
    s.assemble b =
      s.setAssembler (if held.length + 1 < n then .payload n k (held ++ [b]) else .check n k (held ++ [b])) := by
  simp only [State.assemble, h]
  by_cases more : held.length + 1 < n
  · rw [if_neg (by omega), if_pos more]
  · rw [if_pos (by omega), if_neg more]

theorem assemble_checked {n : Nat} {k : Byte} {held : List Byte} (h : s.link.assembler = .check n k held)
    (sum : byteSum (BitVec.ofNat 8 n :: k :: held ++ [b]) = 0) :
    s.assemble b = (s.setAssembler .hunt).validFrame { kind := k, payload := held } := by
  simp only [State.assemble, h]
  exact if_pos sum

theorem assemble_wrong {n : Nat} {k : Byte} {held : List Byte} (h : s.link.assembler = .check n k held)
    (sum : byteSum (BitVec.ofNat 8 n :: k :: held ++ [b]) ≠ 0) : s.assemble b = s.checkErrored := by
  simp only [State.assemble, h]
  exact if_neg sum

end

/-! ### The bits on TX (R161, R168) -/

/-- The data bits and the parity bit of a byte hold an even number of ones. -/
theorem parityBit_even (b : Byte) :
    (([false, b.getLsbD 0, b.getLsbD 1, b.getLsbD 2, b.getLsbD 3, b.getLsbD 4, b.getLsbD 5, b.getLsbD 6, b.getLsbD 7, parityBit b,
      true].drop 1).take 9).count true % 2 = 0 := by
  have parity : parityBit b = (b.getLsbD 0 ^^ b.getLsbD 1 ^^ b.getLsbD 2 ^^ b.getLsbD 3 ^^ b.getLsbD 4 ^^ b.getLsbD 5 ^^
      b.getLsbD 6 ^^ b.getLsbD 7) := by simp [parityBit, List.range, List.range.loop]
  rw [parity]
  generalize b.getLsbD 0 = b0, b.getLsbD 1 = b1, b.getLsbD 2 = b2, b.getLsbD 3 = b3, b.getLsbD 4 = b4, b.getLsbD 5 = b5,
    b.getLsbD 6 = b6, b.getLsbD 7 = b7
  revert b0 b1 b2 b3 b4 b5 b6 b7
  decide

/-- The line carries the reply in the shifting stage, then what it carries once that reply has gone out. -/
theorem txLine_shifting {s : State} (running : s.op.resetHeld = false) {f : Frame} (h : s.link.shifting = some f) :
    s.txLine = f.lineBits ++ State.txLine { s with link := s.link.sent } := by
  simp [State.txLine, running, h, Link.sent]

/-- Settles O41: every byte, gap, reply and restart moves the link as its own rule says. -/
theorem bytesMoveTheAssembler : Obligations.BytesMoveTheAssembler := by
  refine ⟨fun s running => ?_, fun s running => ⟨parityBit_even, fun f shifting => ?_, fun shifting waiting => ?_⟩,
    fun s b listens => ⟨fun parity stop e => ?_, fun h => ?_, fun h few => ?_, fun h many => ?_, fun n h => ?_,
      fun n k held h => ?_, fun n k held h sum => ?_⟩⟩
  · refine ⟨exec_runs running (exec_gapTimeout s), exec_runs running (exec_replySent s), fun paused => ?_⟩
    rw [exec_runs running (exec_receiverRestart s), if_pos paused]
  · exact ⟨_, exec_runs running (exec_replySent s), txLine_shifting running shifting⟩
  · simp [State.txLine, running, shifting, waiting]
  · rw [receive_error listens e]
    rfl
  · rw [receive_byte listens, assemble_hunt h]
    rfl
  · rw [receive_byte listens, assemble_length h few]
    rfl
  · rw [receive_byte listens, assemble_tooLong h many]
    rfl
  · rw [receive_byte listens, assemble_kind h]
    rfl
  · rw [receive_byte listens, assemble_payload h]
    rfl
  · rw [receive_byte listens, assemble_wrong h sum]
    rfl

/-! ### A valid frame (R157, R159, R164) -/

/-- The silence timer, the silence count, the link-silent condition and limp lighting after a valid frame. -/
def OpCtl.heard (o : OpCtl) : OpCtl :=
  { o with silenceTimer := 0, linkSilent := false, silenceCount := 0, limpLighting := false }

theorem frameHeard_dark {s : State} (h : s.op.limpLighting = false) : s.frameHeard = { s with op := s.op.heard } := by
  simp [State.frameHeard, h, OpCtl.heard]

theorem frameHeard_lit {s : State} (h : s.op.limpLighting = true) :
    s.frameHeard = State.settle { s with op := s.op.heard } := by
  simp [State.frameHeard, h, OpCtl.heard]

/-- Hearing a frame settles what the end of limp lighting changes, and nothing else. -/
theorem frameHeard_keeps (s : State) : SettleKeeps { s with op := s.op.heard } s.frameHeard := by
  by_cases lit : s.op.limpLighting = true
  · rw [frameHeard_lit lit]
    exact settle_keeps _
  · rw [frameHeard_dark (by simpa using lit)]
    exact .refl _

theorem validFrame_op (s : State) (f : Frame) : (s.validFrame f).op = s.op.heard := (frameHeard_keeps s).op

theorem validFrame_link (s : State) (f : Frame) : (s.validFrame f).link = s.link.offer f := by
  have kept : s.frameHeard.link = s.link := (frameHeard_keeps s).link
  simp only [State.validFrame, kept]

theorem validFrame_keeps (s : State) (f : Frame) :
    SettleKeeps { s with op := (s.validFrame f).op, link := (s.validFrame f).link } (s.validFrame f) := by
  rw [validFrame_op]
  exact settleKeeps_link (frameHeard_keeps s) _

theorem validFrame_dark {s : State} (f : Frame) (h : s.op.limpLighting = false) :
    s.validFrame f = { s with op := (s.validFrame f).op, link := (s.validFrame f).link } := by
  rw [State.validFrame, frameHeard_dark h]

theorem validFrame_consistent {s : State} (f : Frame) (h : s.op.limpLighting = true) : Consistent (s.validFrame f) := by
  rw [State.validFrame, frameHeard_lit h]
  exact consistent_link (settle_consistent _) _

/-- Settles O42: the frame goes to the controller, which settles where limp lighting ends, and to the inbound queue. -/
theorem aValidFrameIsHeard : Obligations.AValidFrameIsHeard := by
  intro s b n k held listens h sum
  refine ⟨_, receive_byte listens b, ?_⟩
  rw [assemble_checked h sum]
  refine ⟨validFrame_op _ _, ?_, fun dark => ?_, fun lit => ⟨?_, validFrame_consistent _ lit⟩⟩
  · rw [validFrame_link]
    rfl
  · exact validFrame_dark (s := s.setAssembler .hunt) { kind := k, payload := held } dark
  · exact validFrame_keeps (s.setAssembler .hunt) { kind := k, payload := held }

/-! ### A whole frame (R162) -/

/-- One byte received on the way to a whole frame. -/
theorem receiveBytes_cons {s : State} (h : Listens s) (b : Byte) (rest : List Byte) :
    receiveBytes (b :: rest) s = receiveBytes rest (s.assemble b) := by
  simp only [receiveBytes, receive_byte h]

/-- The payload bytes of a frame gather in the assembler until the last of them, which leads to the check byte. -/
theorem receiveBytes_payload {n : Nat} {k : Byte} (todo : List Byte) (tail : List Byte) (s : State) (held : List Byte)
    (listens : Listens s) (h : s.link.assembler = .payload n k held) (some : todo ≠ []) (whole : held.length + todo.length = n) :
    receiveBytes (todo ++ tail) s = receiveBytes tail (s.setAssembler (.check n k (held ++ todo))) := by
  induction todo generalizing s held with
  | nil => exact absurd rfl some
  | cons b todo ih =>
    rw [List.cons_append, receiveBytes_cons listens, assemble_payload h]
    simp only [List.length_cons] at whole
    cases todo with
    | nil =>
      have last : ¬ held.length + 1 < n := by simp only [List.length_nil] at whole; omega
      rw [if_neg last]
      rfl
    | cons c todo =>
      have more : held.length + 1 < n := by simp only [List.length_cons] at whole; omega
      rw [if_pos more, ih (s.setAssembler (.payload n k (held ++ [b]))) _ listens rfl (by simp)
        (by simp only [List.length_append, List.length_cons, List.length_nil] at whole ⊢; omega), List.append_assoc]
      rfl

/-- Adding a byte at the end of a list adds it to the sum. -/
theorem byteSum_append (bs : List Byte) (b : Byte) : byteSum (bs ++ [b]) = byteSum bs + b := by
  simp [byteSum]

/-- The check byte of a frame brings its sum to 0. -/
theorem byteSum_checkByte (f : Frame) : byteSum (f.lengthByte :: f.kind :: f.payload ++ [f.checkByte]) = 0 := by
  rw [byteSum_append, Frame.checkByte]
  generalize byteSum (f.lengthByte :: f.kind :: f.payload) = sum
  simp

/-- The kind and the payload of a frame lead from its length byte to its check byte. -/
theorem receiveBytes_body (f : Frame) (s : State) (listens : Listens s) (h : s.link.assembler = .kind f.payload.length) :
    receiveBytes (f.kind :: (f.payload ++ [f.checkByte])) s =
      receiveBytes [f.checkByte] (s.setAssembler (.check f.payload.length f.kind f.payload)) := by
  rw [receiveBytes_cons listens, assemble_kind h]
  obtain ⟨kind, payload⟩ := f
  cases payload with
  | nil => rfl
  | cons b payload =>
    rw [if_neg (by simp)]
    have gathered := receiveBytes_payload (n := (b :: payload).length) (k := kind) (b :: payload)
      [Frame.checkByte { kind := kind, payload := b :: payload }]
      (s.setAssembler (.payload (b :: payload).length kind [])) [] listens rfl (by simp) (by simp)
    exact gathered

/-- Settles O10: start mark, length, kind, payload and check byte move the assembler from HUNT to a valid frame. -/
theorem receivedBytesAssembleTheirFrame : Obligations.ReceivedBytesAssembleTheirFrame := by
  intro f s short listens hunt room
  have size : f.lengthByte.toNat = f.payload.length := by
    rw [Frame.lengthByte, BitVec.toNat_ofNat, Nat.mod_eq_of_lt (by omega)]
  have start : s.assemble startMark = s.setAssembler .length := by
    rw [assemble_hunt hunt]
    rfl
  have length : (s.setAssembler .length).assemble f.lengthByte = s.setAssembler (.kind f.payload.length) := by
    rw [assemble_length rfl (by omega), size]
    rfl
  have check : (s.setAssembler (.check f.payload.length f.kind f.payload)).assemble f.checkByte = s.validFrame f := by
    rw [assemble_checked (n := f.payload.length) (k := f.kind) (held := f.payload) rfl (byteSum_checkByte f)]
    have back : s.setAssembler .hunt = s := by rw [State.setAssembler, ← hunt]
    exact congrArg (State.validFrame · f) back
  have received : receiveBytes f.bytes s = .next (s.validFrame f) := by
    rw [Frame.bytes, receiveBytes_cons listens, start, receiveBytes_cons (s := s.setAssembler .length) listens, length,
      receiveBytes_body f (s.setAssembler (.kind f.payload.length)) listens rfl,
      receiveBytes_cons
        (s := (s.setAssembler (.kind f.payload.length)).setAssembler (.check f.payload.length f.kind f.payload)) listens]
    exact congrArg Host.Outcome.next check
  refine ⟨_, received, ?_, validFrame_op s f, validFrame_keeps s f⟩
  rw [validFrame_link, Link.offer, if_pos room]

/-! ### The silent link (R157, R89) -/

/-- What raising an event makes of the report block depends on the report block alone. -/
theorem raise_report_congr {s t : State} (h : s.report = t.report) (k : EventKind) (subject detail : Nat) :
    (s.raise k subject detail).report = (t.raise k subject detail).report := by
  unfold State.raise State.eventEnabled
  rw [h]
  split <;> simp [h]

/-- Settles O43: the condition is raised exactly where R157 gives it. -/
theorem linkSilenceCancelsTheSide : Obligations.LinkSilenceCancelsTheSide := by
  intro s running
  have unmoved (h : s.maySilence = false) : exec .linkTimeout s = .next s := by
    rw [exec_runs running (exec_linkTimeout s), h]
    rfl
  refine ⟨fun state clear timeout silent => ?_, fun short => unmoved ?_, fun h => unmoved ?_⟩
  · have due : s.maySilence = true := by
      simp only [State.maySilence, Bool.and_eq_true, Bool.or_eq_true, beq_iff_eq, bne_iff_ne, decide_eq_true_eq]
      exact ⟨⟨⟨state, by simp [clear]⟩, timeout⟩, silent⟩
    refine ⟨s.goSilent, by rw [exec_runs running (exec_linkTimeout s), if_pos due], ?_, ?_, ?_, ?_⟩
    · exact raise_op _ _ _ _
    · exact raise_flash _ _ _ _
    · rw [State.goSilent, raise_report_congr]
      rfl
    · rw [State.goSilent, raise_rest]
  · simp [State.maySilence, Nat.not_le.mpr short]
  · simp only [State.maySilence]
    rcases h with h | h | ⟨h, k⟩ <;> simp [*]

end Sys2Proof.Machine
end

section
/-! PROOF. The refusals that many requests share (O39), and the checks of START with the state requests that only reply (O40). -/

namespace Sys2Proof.Machine

/-! ### Every request goes the same way (R166) -/

/-- Every kind of request reaches an owner of its own. -/
theorem exec_requestOf (k : ReqKind) : ∃ owner, ∀ s, exec (requestOf k) s = s.live (State.request k owner) := by
  cases k <;> exact ⟨_, fun _ => rfl⟩

/-- A configuration request reaches its owner in LIMP alone (Table 9-3). -/
theorem exec_configRequest {k : ReqKind} (h : k ∈ configKinds) :
    ∃ owner, ∀ s, exec (requestOf k) s = s.live (State.request k (inLimp owner)) := by
  simp only [configKinds, List.mem_cons, List.not_mem_nil, or_false] at h
  rcases h with rfl | rfl | rfl | rfl | rfl | rfl | rfl | rfl | rfl | rfl <;> exact ⟨_, fun _ => rfl⟩

/-- In LIMP the owner of an operational request refuses it NOT_READY (Table 9-3). -/
def RefusedInLimp (owner : List Byte → State → Answer) : Prop :=
  ∀ p s, s.op.state = .limp → owner p s = refuse s .notReady

theorem notInLimp_refused (owner : List Byte → State → Answer) : RefusedInLimp (notInLimp owner) :=
  fun _ _ limp => if_pos limp

theorem sleepOwner_refused : RefusedInLimp sleepOwner := fun _ _ limp => by simp only [sleepOwner, limp]

theorem wakeOwner_refused : RefusedInLimp wakeOwner := fun _ _ limp => by simp only [wakeOwner, limp]

theorem gaugetestOwner_refused : RefusedInLimp gaugetestOwner := fun _ _ limp => if_pos (.inl (by simp [limp]))

theorem exec_operationalRequest {k : ReqKind} (h : k ∈ notReadyKinds) :
    ∃ owner, RefusedInLimp owner ∧ ∀ s, exec (requestOf k) s = s.live (State.request k owner) := by
  simp only [notReadyKinds, List.mem_cons, List.not_mem_nil, or_false] at h
  rcases h with rfl | rfl | rfl | rfl | rfl | rfl | rfl | rfl | rfl | rfl
  · exact ⟨_, sleepOwner_refused, fun _ => rfl⟩
  · exact ⟨_, wakeOwner_refused, fun _ => rfl⟩
  · exact ⟨_, notInLimp_refused _, fun _ => rfl⟩
  · exact ⟨_, notInLimp_refused _, fun _ => rfl⟩
  · exact ⟨_, notInLimp_refused _, fun _ => rfl⟩
  · exact ⟨_, notInLimp_refused _, fun _ => rfl⟩
  · exact ⟨_, notInLimp_refused _, fun _ => rfl⟩
  · exact ⟨_, notInLimp_refused _, fun _ => rfl⟩
  · exact ⟨_, notInLimp_refused _, fun _ => rfl⟩
  · exact ⟨_, gaugetestOwner_refused, fun _ => rfl⟩

/-- A byte that no kind has is of unknown kind. -/
theorem ofCode_none {b : Byte} (h : ∀ k : ReqKind, k.code ≠ b) : ReqKind.ofCode b = none := by
  cases e : ReqKind.ofCode b with
  | none => rfl
  | some k => exact absurd (code_of_ofCode e) (h k)

/-- Nothing is taken while the waiting stage is full (R166). -/
theorem takeUnknown_waits {s : State} (h : s.link.waiting ≠ none) : s.takeUnknown = s := by
  have full : s.mayTake = false := by simp [State.mayTake, Option.isNone_iff_eq_none, h]
  unfold State.takeUnknown
  simp only [full]
  split <;> simp

/-- Settles O39: the refusals stand before the owners, and the owners leave the state that they refuse. -/
theorem refusalsChangeNothing : Obligations.RefusalsChangeNothing := by
  refine ⟨fun s rest k p h => ⟨fun bad => ?_, fun good config outside => ?_, fun good operational limp => ?_⟩,
    fun s rest b p h unknown => ?_, fun s k full => ⟨?_, ?_⟩⟩
  · obtain ⟨owner, run⟩ := exec_requestOf k
    rw [run, request_badLength h bad]
  · obtain ⟨owner, run⟩ := exec_configRequest config
    rw [run, configRequest_locked h good outside]
  · obtain ⟨owner, refused, run⟩ := exec_operationalRequest operational
    rw [run, request_reply h good (refused p (s.popInbound rest) limp)]
  · obtain ⟨running, waiting, restart, awake, inbound⟩ := h
    have taken : s.takeUnknown = { s with link := { s.link with inbound := rest }.send (badKindReply b) } := by
      unfold State.takeUnknown
      simp [inbound, State.mayTake, waiting, restart, awake, ofCode_none unknown]
    exact (exec_runs (c := .unknownKind) running rfl).trans (congrArg Host.Outcome.next taken)
  · obtain ⟨owner, run⟩ := exec_requestOf k
    rw [run, request_waits (.inl full)]
  · have run : exec .unknownKind s = s.live State.takeUnknown := rfl
    rw [run, State.live, takeUnknown_waits full, ite_self]

/-! ### The checks of START (R148) -/

theorem configuredFor_iff (s : State) (f : Fn) : s.configuredFor f = true ↔ ∃ ch, (s.lamp ch).cfg.fn = some f := by
  simp [State.configuredFor, mem_allLamps]

theorem mem_allSubs (e : Fin 3) : e ∈ allSubs := by revert e; decide

theorem isSpare_iff (s : State) (ch : LampId) : s.isSpare ch = true ↔ ∃ e p, (s.subEntry e).pair = some (p, ch) := by
  simp [State.isSpare, mem_allSubs, Option.any_eq_true]

theorem isPrimary_iff (s : State) (ch : LampId) : s.isPrimary ch = true ↔ ∃ e q, (s.subEntry e).pair = some (ch, q) := by
  simp [State.isPrimary, mem_allSubs, Option.any_eq_true]

theorem canCarry_iff (p q : LampId) : canCarry p q = true ↔ (isHeavy p = true → isHeavy q = true) := by
  unfold canCarry
  cases isHeavy p <;> simp

/-- A pair is valid as check 2 spells it. -/
theorem pairValid_iff (s : State) (p q : LampId) :
    s.pairValid (p, q) = true ↔
      (s.lamp q).cfg.fn = none ∧ (isHeavy p = true → isHeavy q = true) ∧
        ∀ e' p' q', (s.subEntry e').pair = some (p', q') → p' ≠ q ∧ q' ≠ p := by
  simp only [State.pairValid, Bool.and_eq_true, Bool.not_eq_true', ← Bool.not_eq_true, isSpare_iff, isPrimary_iff, canCarry_iff,
    Option.isNone_iff_eq_none, and_assoc]
  refine and_congr_right fun _ => and_congr_right fun _ => ⟨fun ⟨spare, primary⟩ e' p' q' pair => ?_, fun h => ?_⟩
  · exact ⟨fun e => primary ⟨e', q', e ▸ pair⟩, fun e => spare ⟨e', p', e ▸ pair⟩⟩
  · exact ⟨fun ⟨e, p', pair⟩ => (h e p' p pair).2 rfl, fun ⟨e, q', pair⟩ => (h e q q' pair).1 rfl⟩

theorem ohmsAscend_iff (curve : List Point) : ohmsAscend curve = true ↔ curve.Pairwise (fun a b => a.ohms < b.ohms) := by
  have chain : ohmsAscend curve = true ↔ curve.IsChain (fun a b => a.ohms < b.ohms) := by
    induction curve with
    | nil => simp [ohmsAscend]
    | cons a rest ih =>
      cases rest with
      | nil => simp [ohmsAscend]
      | cons b rest => simp only [ohmsAscend, Bool.and_eq_true, decide_eq_true_eq, ih, List.isChain_cons_cons]
  have : IsTrans Point (fun a b => a.ohms < b.ohms) := ⟨fun _ _ _ => Nat.lt_trans⟩
  rw [chain, List.isChain_iff_pairwise]

theorem mem_allGauges (g : GaugeId) : g ∈ allGauges := by revert g; decide

theorem gaugeReady_iff (s : State) (g : GaugeId) :
    s.gaugeReady g = true ↔ ((s.gauge g).cfg.enabled = true →
      s.senseModeOf g = .sender ∧ 2 ≤ (s.gauge g).cfg.curve.length ∧ (s.gauge g).cfg.curve.length ≤ 8 ∧
        (s.gauge g).cfg.curve.Pairwise (fun a b => a.ohms < b.ohms)) := by
  unfold State.gaugeReady
  rw [← ohmsAscend_iff]
  by_cases enabled : (s.gauge g).cfg.enabled = true <;> simp [enabled, and_assoc]

/-- Check `n` of START as the model computes it. -/
def State.checkPasses (s : State) : Nat → Bool
  | 1 => s.configuredFor .brake && s.configuredFor .indL && s.configuredFor .indR
  | 2 => allSubs.all (fun e => (s.subEntry e).pair.all s.pairValid)
  | 3 => s.supply.settings.t1 < s.supply.settings.t2 && s.supply.settings.t2 < s.supply.settings.t3
  | 4 => allGauges.all s.gaugeReady
  | 5 => s.fan.settings.duty1 < s.fan.settings.duty2 && s.fan.settings.duty2 < s.fan.settings.duty3 &&
      s.fan.settings.duty3 < s.fan.settings.duty4
  | _ => true

theorem startCheck_eq (s : State) : s.startCheck = [1, 2, 3, 4, 5].find? (fun n => !s.checkPasses n) := by
  simp only [State.startCheck, State.checkPasses, List.find?]
  split
  · rename_i h; simp only [h]
  · rename_i h1; simp only [h1]
    split
    · rename_i h; simp only [h]
    · rename_i h2; simp only [h2]
      split
      · rename_i h; simp only [h]
      · rename_i h3; simp only [h3]
        split
        · rename_i h; simp only [h]
        · rename_i h4; simp only [h4]
          split
          · rename_i h; simp only [h]
          · rename_i h5; simp only [h5]

/-- Each check passes as R148 spells it. -/
theorem checkPasses_iff (s : State) (n : Nat) : s.checkPasses n = true ↔ StartCheck s n := by
  match n with
  | 0 => simp [State.checkPasses, StartCheck]
  | 1 => simp [State.checkPasses, StartCheck, configuredFor_iff, and_assoc]
  | 2 =>
    simp only [State.checkPasses, StartCheck, List.all_eq_true, mem_allSubs, forall_const, Option.all_eq_true]
    exact forall_congr' fun e => ⟨fun h p q pair => (pairValid_iff s p q).mp (h (p, q) pair),
      fun h x pair => (pairValid_iff s x.1 x.2).mpr (h x.1 x.2 pair)⟩
  | 3 => simp [State.checkPasses, StartCheck]
  | 4 => simp [State.checkPasses, StartCheck, mem_allGauges, gaugeReady_iff]
  | 5 => simp [State.checkPasses, StartCheck, and_assoc]
  | n + 6 => simp [State.checkPasses, StartCheck]

/-- With every check passed START finds none that fails. -/
theorem startCheck_ready {s : State} (h : StartReady s) : s.startCheck = none := by
  rw [startCheck_eq, List.find?_eq_none]
  intro n hn
  simp [(checkPasses_iff s n).mpr (h n hn)]

/-- START finds the first check that fails. -/
theorem startCheck_fails {s : State} {n : Nat} (hn : n ∈ [1, 2, 3, 4, 5]) (fails : ¬ StartCheck s n)
    (before : ∀ m ∈ [1, 2, 3, 4, 5], m < n → StartCheck s m) : s.startCheck = some n := by
  have failing : s.checkPasses n = false := by
    rw [← Bool.not_eq_true, checkPasses_iff]
    exact fails
  have passing : ∀ m ∈ [1, 2, 3, 4, 5], m < n → s.checkPasses m = true := fun m hm lt => (checkPasses_iff s m).mpr (before m hm lt)
  rw [startCheck_eq]
  simp only [List.mem_cons, List.not_mem_nil, or_false, forall_eq_or_imp, forall_eq] at hn passing
  rcases hn with rfl | rfl | rfl | rfl | rfl <;> simp_all [List.find?]

/-! ### State requests that only reply -/

theorem popInbound_startCheck (s : State) (rest : List Frame) : (s.popInbound rest).startCheck = s.startCheck := rfl

/-- Settles O40: the owners of the state requests answer the state as it was. -/
theorem stateRequestsWithoutEffect : Obligations.StateRequestsWithoutEffect := by
  refine ⟨fun s rest h => ⟨fun outside => ?_, fun n hn limp fails before => ?_⟩, fun s rest h drive => ?_,
    fun s rest h => ⟨fun drive => ?_, fun watch => ?_⟩, fun s rest h state => ?_⟩
  · exact request_reply (k := .start) h rfl (if_pos outside)
  · refine request_reply (k := .start) h rfl ?_
    have inside : ¬ (s.popInbound rest).op.state ≠ .limp := fun h => h limp
    rw [startOwner, if_neg inside, popInbound_startCheck, startCheck_fails hn fails before]
  · refine request_reply (k := .stop) h rfl ?_
    simp only [stopOwner, popInbound_op, drive]
    rfl
  · refine request_reply (k := .sleep) h rfl ?_
    simp only [sleepOwner, popInbound_op, drive]
    rfl
  · refine request_reply (k := .sleep) h rfl ?_
    simp only [sleepOwner, popInbound_op, watch]
  · refine request_reply (k := .wake) h rfl ?_
    rcases state with state | state <;> simp only [wakeOwner, popInbound_op, state]

end Sys2Proof.Machine
end

section
/-! PROOF. The requests that set demands and scenes (O23, O24, O26), the requests of the flash engine (O25), the sweep test (O29). -/

namespace Sys2Proof.Machine

/-! ### A request that settles its cause -/

/-- A request whose owner settles a cause: the reply enters the transmitter, and beyond what the owner wrote only the settling acts. -/
theorem request_settles {k : ReqKind} {owner : List Byte → State → Answer} {s u : State} {p : List Byte} {rest : List Frame}
    {code : ResultCode} {data : List Byte} (h : Takes s k.code p rest) (length : k.lengthOk p.length = true)
    (answer : owner p (s.popInbound rest) = { state := u.settle, code := code, data := data })
    (link : u.link = (s.popInbound rest).link) :
    ∃ t, s.live (State.request k owner) = .next t ∧ t = { u.settle with link := linkAfter s rest k.code code data } ∧
      SettleKeeps { u with link := t.link } t ∧ Consistent t :=
  ⟨_, request_answers h length answer ((settle_keeps u).link.trans link), rfl, settleKeeps_link (settle_keeps u) _,
    consistent_link (settle_consistent u) _⟩

/-- An operational request reaches its owner outside LIMP (Table 9-3). -/
theorem notInLimp_eq {s : State} (h : s.op.state ≠ .limp) (owner : List Byte → State → Answer) (p : List Byte) (rest : List Frame) :
    notInLimp owner p (s.popInbound rest) = owner p (s.popInbound rest) := if_neg h

/-! ### What is withheld (R46) -/

/-- A function's value before the gates does not read the link. -/
theorem openValue_link (s : State) (l : Link) (f : Fn) : State.openValue { s with link := l } f = s.openValue f := by
  cases f <;> rfl

/-- A function of a consistent part is withheld where its record holds less than its value before the gates, or HOLD stands. -/
theorem withheld_iff {s : State} (c : Consistent s) (f : Fn) :
    s.withheld f = true ↔ (s.fnRec f).resolved < s.openValue f ∨ (s.supply.hold = true ∧ (s.fnRec f).resolved ≠ 0) := by
  obtain ⟨resolved, _⟩ := c.resolved f
  simp [State.withheld, resolved]

theorem demandCode_eq (held clamped : Bool) :
    demandCode held clamped = if held = true then .held else if clamped = true then .clamped else .ok := rfl

/-- The result code of a request that sets demands, under what decides it. -/
theorem demandCode_of_iff {held clamped : Bool} {H C : Prop} [Decidable H] [Decidable C] (h : held = true ↔ H) (c : clamped = true ↔ C) :
    demandCode held clamped = if H then .held else if C then .clamped else .ok := by
  simp only [demandCode_eq, h, c]

/-! ### FNSET (R44) -/

/-- Storing a base demand writes that of one function. -/
theorem setBase_base (s : State) (f g : Fn) (v : Nat) :
    ((s.setBase f v).fnRec g).base = if g = f then v else (s.fnRec g).base := by
  rw [State.setBase, State.fnRec_setFn]
  split <;> simp_all

/-- What is withheld of a consistent part, read after its reply. -/
theorem withheld_replied {v : State} (c : Consistent v) (l : Link) (f : Fn) :
    v.withheld f = true ↔ (State.fnRec { v with link := l } f).resolved < State.openValue { v with link := l } f ∨
      (v.supply.hold = true ∧ (State.fnRec { v with link := l } f).resolved ≠ 0) := by
  rw [openValue_link]
  exact withheld_iff c f

/-- Settles O23: the base demand is stored and settled, and the reply reads the settled part. -/
theorem fnsetStoresAndResolves : Obligations.FnsetStoresAndResolves := by
  intro s rest c v h outside
  have given : u8 [c, v] 0 = c.toNat ∧ u8 [c, v] 1 = v.toNat := ⟨rfl, rfl⟩
  refine ⟨fun f named free => ?_, fun unknown => ?_, fun f named guarded => ?_⟩
  · generalize stores : storedDemand f v.toNat = base
    have answer : notInLimp fnsetOwner [c, v] (s.popInbound rest) =
        { state := ((s.popInbound rest).setBase f base).settle
          code := demandCode (((s.popInbound rest).setBase f base).settle.withheld f) (base != v.toNat)
          data := b1 base ++ b1 (((s.popInbound rest).setBase f base).settle.fnRec f).resolved } := by
      rw [notInLimp_eq outside, fnsetOwner, given.1, given.2, named]
      simp [free, stores]
    obtain ⟨t, run, value, keeps, consistent⟩ := request_settles (k := .fnset) h rfl answer rfl
    refine ⟨t, base, run, stores.symm, ?_, ?_, keeps, consistent⟩
    · exact (keeps.fns f).2.2.trans ((setBase_base (s.popInbound rest) f f base).trans (if_pos rfl))
    · have settled := settle_consistent ((s.popInbound rest).setBase f base)
      generalize ((s.popInbound rest).setBase f base).settle = after at value settled
      subst value
      exact congrArg (fun c => linkAfter s rest 0x20 c _) (demandCode_of_iff (withheld_replied settled _ f) bne_iff_ne)
  · refine request_reply (k := .fnset) h rfl ?_
    rw [notInLimp_eq outside, fnsetOwner, given.1, unknown]
    rfl
  · refine request_reply (k := .fnset) h rfl ?_
    rw [notInLimp_eq outside, fnsetOwner, given.1, named]
    exact if_pos guarded

/-! ### FNMULTI (R45) -/

theorem ofCode_fnCode (f : Fn) : Fn.ofCode f.code.val = some f := by cases f <;> rfl

theorem toNat_fnCode (f : Fn) : (BitVec.ofNat 8 f.code.val).toNat = f.code.val := by cases f <;> rfl

/-- The pairs of function code and value that a payload of such pairs carries. -/
theorem pairsOf_flatMap (ps : List (Byte × Byte)) :
    pairsOf (ps.flatMap (fun x => [x.1, x.2])) = ps.map (fun x => (x.1.toNat, x.2.toNat)) := by
  induction ps with
  | nil => rfl
  | cons x ps ih => exact congrArg (_ :: ·) ih

/-- The payload of some functions with their values. -/
def payloadOf (ps : List (Fn × Byte)) : List Byte := ps.flatMap (fun x => [BitVec.ofNat 8 x.1.code.val, x.2])

theorem pairsOf_payloadOf (ps : List (Fn × Byte)) : pairsOf (payloadOf ps) = ps.map (fun x => (x.1.code.val, x.2.toNat)) := by
  have given : payloadOf ps = (ps.map (fun x => ((BitVec.ofNat 8 x.1.code.val : Byte), x.2))).flatMap (fun x => [x.1, x.2]) := by
    rw [List.flatMap_map]
    rfl
  rw [given, pairsOf_flatMap, List.map_map]
  exact List.map_congr_left fun x _ => congrArg (·, x.2.toNat) (toNat_fnCode x.1)

theorem namedPairs_payloadOf (ps : List (Fn × Byte)) :
    namedPairs (pairsOf (payloadOf ps)) = ps.map (fun x => (x.1, x.2.toNat)) := by
  rw [pairsOf_payloadOf, namedPairs, List.filterMap_map]
  refine (List.filterMap_congr fun x _ => ?_).trans (congrFun List.filterMap_eq_map ps)
  simp [ofCode_fnCode]

theorem payloadOf_length (ps : List (Fn × Byte)) : (payloadOf ps).length = 2 * ps.length := by
  simp [payloadOf, List.length_flatMap, Nat.mul_comm]

theorem pairs_length (ps : List (Byte × Byte)) : (ps.flatMap (fun x => [x.1, x.2])).length = 2 * ps.length := by
  simp [List.length_flatMap, Nat.mul_comm]

/-- One to six pairs are a length that FNMULTI allows. -/
theorem fnmulti_lengthOk {n : Nat} (some : n ≠ 0) (few : n ≤ 6) : ReqKind.fnmulti.lengthOk (2 * n) = true := by
  interval_cases n <;> first | rfl | contradiction

/-- Distinct unprotected functions pass the checks of FNMULTI. -/
theorem fnmultiCheck_passes (ps : List (Fn × Byte)) (seen : List Fn) (nodup : (ps.map (·.1)).Nodup)
    (fresh : ∀ x ∈ ps, x.1 ∉ seen) (free : ∀ x ∈ ps, x.1.hostProtected = false) :
    fnmultiCheck seen (ps.map (fun x => (x.1.code.val, x.2.toNat))) = none := by
  induction ps generalizing seen with
  | nil => rfl
  | cons x ps ih =>
    simp only [List.map_cons, List.nodup_cons, List.forall_mem_cons] at nodup fresh free ⊢
    have new : seen.contains x.1 = false := by simpa using fresh.1
    simp only [fnmultiCheck, ofCode_fnCode, free.1, Bool.false_eq_true, if_false, new]
    refine ih _ nodup.2 (fun y hy => ?_) free.2
    simp only [List.mem_cons, not_or]
    exact ⟨fun e => nodup.1 (e ▸ List.mem_map_of_mem hy), fresh.2 y hy⟩

/-- A code below 6 or from 10 to 15 names an unprotected function. -/
theorem ofCode_free {c : Nat} (h : c ≤ 5 ∨ (10 ≤ c ∧ c ≤ 15)) : ∃ f, Fn.ofCode c = some f ∧ f.code.val = c ∧ f.hostProtected = false := by
  have : c ≤ 15 := by omega
  interval_cases c <;> first | exact ⟨_, rfl, rfl, rfl⟩ | omega

theorem hostProtected_iff {f : Fn} : f.hostProtected = true ↔ 6 ≤ f.code.val ∧ f.code.val ≤ 9 := by
  cases f <;> decide

/-- The first pair that fails decides the refusal of an FNMULTI. -/
theorem fnmultiCheck_fails {before after : List (Byte × Byte)} {c v : Byte} (seen : List Fn)
    (valid : ∀ x ∈ before, x.1.toNat ≤ 5 ∨ (10 ≤ x.1.toNat ∧ x.1.toNat ≤ 15)) (nodup : (before.map (·.1)).Nodup)
    (fresh : ∀ x ∈ before, ∀ f ∈ seen, f.code.val ≠ x.1.toNat) (unprotected : ∀ f ∈ seen, f.hostProtected = false)
    (fails : 15 < c.toNat ∨ (6 ≤ c.toNat ∧ c.toNat ≤ 9) ∨ c ∈ before.map (·.1) ∨ ∃ f ∈ seen, f.code.val = c.toNat) :
    fnmultiCheck seen ((before ++ (c, v) :: after).map (fun x => (x.1.toNat, x.2.toNat))) =
      some (if 6 ≤ c.toNat ∧ c.toNat ≤ 9 then .isProtected else .badValue) := by
  induction before generalizing seen with
  | nil =>
    simp only [List.nil_append, List.map_cons, List.map_nil, List.not_mem_nil, false_or] at fails ⊢
    rcases fails with high | guarded | ⟨f, hf, code⟩
    · have unknown : Fn.ofCode c.toNat = none := List.getElem?_eq_none (Nat.succ_le_of_lt high)
      simp only [fnmultiCheck, unknown]
      rw [if_neg (by omega)]
    · obtain ⟨f, named, guards⟩ : ∃ f, Fn.ofCode c.toNat = some f ∧ f.hostProtected = true := by
        obtain ⟨low, high⟩ := guarded
        generalize c.toNat = n at low high
        interval_cases n <;> exact ⟨_, rfl, rfl⟩
      simp only [fnmultiCheck, named, guards, if_true, if_pos guarded]
    · have named : Fn.ofCode c.toNat = some f := code ▸ ofCode_fnCode f
      have repeated : seen.contains f = true := by simpa using hf
      have free := unprotected f hf
      simp only [fnmultiCheck, named, free, repeated, Bool.false_eq_true, if_false, if_true]
      have outside : ¬ (6 ≤ c.toNat ∧ c.toNat ≤ 9) := fun within => by simp [hostProtected_iff.mpr (code ▸ within)] at free
      rw [if_neg outside]
  | cons x before ih =>
    rw [List.forall_mem_cons] at valid fresh
    simp only [List.cons_append, List.map_cons, List.nodup_cons, List.mem_cons] at nodup fails ⊢
    obtain ⟨f, named, code, free⟩ := ofCode_free valid.1
    have new : seen.contains f = false := by
      simp only [List.contains_eq_mem, decide_eq_false_iff_not]
      exact fun hf => fresh.1 f hf code
    simp only [fnmultiCheck, named, free, new, Bool.false_eq_true, if_false]
    refine ih (f :: seen) valid.2 nodup.2 (fun y hy => ?_) ?_ ?_
    · simp only [List.forall_mem_cons]
      refine ⟨fun e => nodup.1 ?_, fresh.2 y hy⟩
      have same : x.1 = y.1 := BitVec.eq_of_toNat_eq (code.symm.trans e)
      exact same ▸ List.mem_map_of_mem hy
    · simp only [List.forall_mem_cons]
      exact ⟨free, unprotected⟩
    · rcases fails with high | guarded | (rfl | again) | ⟨g, hg, e⟩
      · exact .inl high
      · exact .inr (.inl guarded)
      · exact .inr (.inr (.inr ⟨f, List.mem_cons_self, code⟩))
      · exact .inr (.inr (.inl again))
      · exact .inr (.inr (.inr ⟨g, List.mem_cons_of_mem _ hg, e⟩))

theorem storeAll_cons (s : State) (x : Fn × Nat) (ps : List (Fn × Nat)) :
    s.storeAll (x :: ps) = (s.setBase x.1 (storedDemand x.1 x.2)).storeAll ps := rfl

theorem storeAll_other {f : Fn} (ps : List (Fn × Nat)) (s : State) (h : f ∉ ps.map (·.1)) :
    ((s.storeAll ps).fnRec f).base = (s.fnRec f).base := by
  induction ps generalizing s with
  | nil => rfl
  | cons x ps ih =>
    simp only [List.map_cons, List.mem_cons, not_or] at h
    rw [storeAll_cons, ih _ h.2, setBase_base, if_neg h.1]

theorem storeAll_named (ps : List (Fn × Nat)) (s : State) (nodup : (ps.map (·.1)).Nodup) {x : Fn × Nat} (hx : x ∈ ps) :
    ((s.storeAll ps).fnRec x.1).base = storedDemand x.1 x.2 := by
  induction ps generalizing s with
  | nil => exact absurd hx List.not_mem_nil
  | cons y ps ih =>
    simp only [List.map_cons, List.nodup_cons] at nodup
    rw [storeAll_cons]
    rcases List.mem_cons.mp hx with rfl | hx
    · rw [storeAll_other ps _ nodup.1, setBase_base, if_pos rfl]
    · exact ih _ nodup.2 hx

theorem storeAll_link (ps : List (Fn × Nat)) (s : State) : (s.storeAll ps).link = s.link := by
  induction ps generalizing s with
  | nil => rfl
  | cons x ps ih => exact (ih _).trans rfl

/-- Storing base demands and changing the link do not depend on one another. -/
theorem storeAll_withLink (ps : List (Fn × Nat)) (s : State) (l : Link) :
    State.storeAll { s with link := l } ps = { s.storeAll ps with link := l } := by
  induction ps generalizing s with
  | nil => rfl
  | cons x ps ih => exact ih (s.setBase x.1 (storedDemand x.1 x.2))

/-- Settles O24: the pairs pass the checks and are stored one by one, or the first that fails is found behind those that pass. -/
theorem fnmultiStoresTogether : Obligations.FnmultiStoresTogether := by
  refine ⟨fun s rest ps h outside some few nodup free => ?_,
    fun s rest before after c v h outside few valid nodup fails => ?_⟩
  · have passes : fnmultiCheck [] (pairsOf (payloadOf ps)) = none := by
      rw [pairsOf_payloadOf]
      exact fnmultiCheck_passes ps [] nodup (fun _ _ => List.not_mem_nil) free
    have length : ReqKind.fnmulti.lengthOk (payloadOf ps).length = true := by
      rw [payloadOf_length]
      exact fnmulti_lengthOk (by simpa using some) few
    generalize stored : (s.popInbound rest).storeAll (ps.map (fun x => (x.1, x.2.toNat))) = u
    have answer : notInLimp fnmultiOwner (payloadOf ps) (s.popInbound rest) =
        { state := u.settle
          code := demandCode (ps.any (fun x => u.settle.withheld x.1)) (ps.any (fun x => storedDemand x.1 x.2.toNat != x.2.toNat))
          data := ps.flatMap (fun x => b1 (storedDemand x.1 x.2.toNat)) } := by
      rw [notInLimp_eq outside, fnmultiOwner, passes, namedPairs_payloadOf, ← stored]
      simp [List.any_map, List.flatMap_map, Function.comp_def]
    have link : u.link = (s.popInbound rest).link := stored ▸ storeAll_link _ _
    obtain ⟨t, run, value, keeps, consistent⟩ := request_settles (k := .fnmulti) h length answer link
    have names : (ps.map (fun x => (x.1, x.2.toNat))).map (·.1) = ps.map (·.1) := by
      rw [List.map_map]
      rfl
    have base : ∀ f, (t.fnRec f).base = (u.fnRec f).base := fun f => (keeps.fns f).2.2
    refine ⟨t, run, fun x hx => ?_, fun f hf => ?_, ?_, ?_, consistent⟩
    · rw [base, ← stored]
      exact storeAll_named _ _ (names ▸ nodup) (List.mem_map_of_mem (f := fun x : Fn × Byte => (x.1, x.2.toNat)) hx)
    · rw [base, ← stored, storeAll_other _ _ (names ▸ hf)]
      rfl
    · have settled := settle_consistent u
      generalize u.settle = after at value settled
      subst value
      exact congrArg (fun c => linkAfter s rest 0x21 c _) (demandCode_of_iff
        (List.any_eq_true.trans (exists_congr fun x => and_congr_right fun _ => withheld_replied settled _ x.1))
        (List.any_eq_true.trans (exists_congr fun x => and_congr_right fun _ => bne_iff_ne)))
    · have rebuilt : { u with link := t.link } = { s.storeAll (ps.map (fun x => (x.1, x.2.toNat))) with link := t.link } := by
        rw [← stored, State.popInbound, storeAll_withLink]
      exact rebuilt ▸ keeps
  · have length : ReqKind.fnmulti.lengthOk ((before ++ (c, v) :: after).flatMap (fun x => [x.1, x.2])).length = true := by
      rw [pairs_length]
      exact fnmulti_lengthOk (by simp) few
    refine request_reply (k := .fnmulti) h length ?_
    have found := fnmultiCheck_fails (after := after) (v := v) [] valid nodup (fun _ _ _ hf => absurd hf List.not_mem_nil)
      (fun _ hf => absurd hf List.not_mem_nil) (by simpa using fails)
    rw [notInLimp_eq outside, fnmultiOwner, pairsOf_flatMap, found]
    rfl

end Sys2Proof.Machine
end

section
/-! PROOF. TURN and HAZ (O25), SCENEADD (O26), GAUGETEST (O29). -/

namespace Sys2Proof.Machine

/-! ### The flash report (R87) -/

/-- Refutes O25: of a flash record with the rate 256 the report carries 255, as a one-byte field does (R181), where the statement has
the rate's low byte, 0. -/
theorem not_turnAndHazReachTheEngine : ¬ Obligations.TurnAndHazReachTheEngine := by
  rintro ⟨_, _, _, report⟩
  have laidOut := report { Flash.reset with rate := 256 }
  exact absurd laidOut (by decide)

/-! ### SCENEADD (R58) -/

/-- Up to six pairs behind id and lifetime are a length that SCENEADD allows. -/
theorem sceneadd_lengthOk {n : Nat} (few : n ≤ 6) : ReqKind.sceneadd.lengthOk (2 * n + 1 + 1) = true := by
  interval_cases n <;> rfl

theorem hasScene_iff {scenes : List Scene} {id : Byte} : hasScene scenes id = true ↔ ∃ sc ∈ scenes, sc.id = id := by
  simp [hasScene]

/-- A code names a function protected against scenes where it is that of BRAKE, of 6 to 9 or of FAN. -/
theorem ofCode_sceneProtected (n : Nat) :
    (Fn.ofCode n).any Fn.sceneProtected = true ↔ n = 5 ∨ (6 ≤ n ∧ n ≤ 9) ∨ n = 15 := by
  by_cases low : n ≤ 15
  · interval_cases n <;> decide
  · have unknown : Fn.ofCode n = none := List.getElem?_eq_none (Nat.succ_le_of_lt (Nat.lt_of_not_le low))
    simp only [unknown, Option.any_none, Bool.false_eq_true, false_iff]
    omega

theorem anySceneProtected_iff (ps : List (Byte × Byte)) :
    anySceneProtected (ps.map (fun x => (x.1.toNat, x.2.toNat))) = true ↔
      ∃ x ∈ ps, x.1.toNat = 5 ∨ (6 ≤ x.1.toNat ∧ x.1.toNat ≤ 9) ∨ x.1.toNat = 15 := by
  simp [anySceneProtected, List.any_map, List.any_eq_true, ofCode_sceneProtected]

/-- Two pairs name one function exactly where the codes given are not distinct. -/
theorem repeatsCode_iff (ps : List (Byte × Byte)) :
    repeatsCode (ps.map (fun x => (x.1.toNat, x.2.toNat))) = true ↔ ¬ (ps.map (·.1)).Nodup := by
  induction ps with
  | nil => simp [repeatsCode]
  | cons x ps ih =>
    have again : (ps.map (fun x => (x.1.toNat, x.2.toNat))).any (fun y => y.1 == x.1.toNat) = true ↔ x.1 ∈ ps.map (·.1) := by
      simp only [List.any_map, List.any_eq_true, Function.comp_apply, beq_iff_eq, List.mem_map, BitVec.toNat_inj]
    simp only [List.map_cons, repeatsCode, Bool.or_eq_true, again, ih, List.nodup_cons]
    tauto

/-- The checks of SCENEADD in the terms of the codes and values given (R58). -/
theorem sceneaddCheck_eq (scenes : List Scene) (id : Byte) (ps : List (Byte × Byte)) :
    sceneaddCheck scenes id (ps.map (fun x => (x.1.toNat, x.2.toNat))) =
      if 4 ≤ scenes.length then some .full
      else if hasScene scenes id = true then some .duplicate
      else if anySceneProtected (ps.map (fun x => (x.1.toNat, x.2.toNat))) = true then some .isProtected
      else if id = 0 ∨ ps.isEmpty = true ∨ ps.any (fun x => 15 < x.1.toNat) = true ∨
          repeatsCode (ps.map (fun x => (x.1.toNat, x.2.toNat))) = true ∨ ps.any (fun x => 100 < x.2.toNat) = true then some .badValue
      else none := by
  simp only [sceneaddCheck, List.isEmpty_map, List.any_map, Function.comp_def]

theorem sceneProtected_iff (f : Fn) :
    f.sceneProtected = true ↔ f.code.val = 5 ∨ (6 ≤ f.code.val ∧ f.code.val ≤ 9) ∨ f.code.val = 15 := by
  cases f <;> decide

/-- What a lamp function stores of a value up to 100 (R43, R58). -/
theorem lampValue_le {v : Nat} (f : Fn) (h : v ≤ 100) : lampValue f v = if f.dimmable then v else if v = 0 then 0 else 100 := by
  rw [lampValue, Nat.min_eq_right h]

/-- Distinct unprotected functions with values up to 100 pass the checks of SCENEADD where there is room for their scene. -/
theorem sceneaddCheck_passes {scenes : List Scene} {id : Byte} {ps : List (Fn × Byte)} (room : scenes.length < 4)
    (single : ∀ sc ∈ scenes, sc.id ≠ id) (named : id ≠ 0) (some : ps ≠ []) (nodup : (ps.map (·.1)).Nodup)
    (fits : ∀ x ∈ ps, x.1.sceneProtected = false ∧ x.2.toNat ≤ 100) :
    sceneaddCheck scenes id (pairsOf (payloadOf ps)) = none := by
  generalize given : ps.map (fun x => ((BitVec.ofNat 8 x.1.code.val : Byte), x.2)) = qs
  have pairs : pairsOf (payloadOf ps) = qs.map (fun x => (x.1.toNat, x.2.toNat)) := by
    rw [pairsOf_payloadOf, ← given, List.map_map]
    exact List.map_congr_left fun x _ => congrArg (·, x.2.toNat) (toNat_fnCode x.1).symm
  have codes : (qs.map (·.1)).Nodup := by
    rw [← given, List.map_map]
    have injective : Function.Injective (fun f : Fn => (BitVec.ofNat 8 f.code.val : Byte)) := fun f g e =>
      Fn.code_injective (Fin.ext (by rw [← toNat_fnCode f, ← toNat_fnCode g]; exact congrArg BitVec.toNat e))
    have := nodup.map injective
    rwa [List.map_map] at this
  have each : ∀ x ∈ qs, ∃ y ∈ ps, x.1.toNat = y.1.code.val ∧ x.2 = y.2 := fun x hx => by
    obtain ⟨y, hy, rfl⟩ := List.mem_map.mp (given ▸ hx)
    exact ⟨y, hy, toNat_fnCode y.1, rfl⟩
  have unprotected : ¬ anySceneProtected (qs.map (fun x => (x.1.toNat, x.2.toNat))) = true := by
    rw [anySceneProtected_iff]
    rintro ⟨x, hx, guards⟩
    obtain ⟨y, hy, code, -⟩ := each x hx
    have := (sceneProtected_iff y.1).mpr (code ▸ guards)
    simp [(fits y hy).1] at this
  rw [pairs, sceneaddCheck_eq, if_neg (Nat.not_le.mpr room), if_neg, if_neg unprotected, if_neg]
  · simp only [List.any_eq_true, decide_eq_true_eq, not_or, not_exists, not_and, Nat.not_lt]
    refine ⟨named, ?_, fun x hx => ?_, ?_, fun x hx => ?_⟩
    · rw [← given]
      simpa using some
    · obtain ⟨y, -, code, -⟩ := each x hx
      omega
    · rw [repeatsCode_iff]
      exact not_not.mpr codes
    · obtain ⟨y, hy, -, value⟩ := each x hx
      rw [value]
      exact (fits y hy).2
  · rw [hasScene_iff]
    rintro ⟨sc, hsc, twin⟩
    exact single sc hsc twin

/-- A refused SCENEADD is answered with its first failing check. -/
theorem sceneadd_refused {s : State} {rest : List Frame} {id life : Byte} {ps : List (Byte × Byte)} {c : ResultCode}
    (h : Takes s 0x24 (id :: life :: ps.flatMap (fun x => [x.1, x.2])) rest) (outside : s.op.state ≠ .limp) (few : ps.length ≤ 6)
    (check : sceneaddCheck s.resolver.scenes id (ps.map (fun x => (x.1.toNat, x.2.toNat))) = some c) :
    exec .sceneadd s = .next { s with link := linkAfter s rest 0x24 c [] } := by
  have length : ReqKind.sceneadd.lengthOk (id :: life :: ps.flatMap (fun x => [x.1, x.2])).length = true := by
    simp only [List.length_cons, pairs_length]
    exact sceneadd_lengthOk few
  refine request_reply (k := .sceneadd) h length ?_
  have found : sceneaddCheck (s.popInbound rest).resolver.scenes id (pairsOf (ps.flatMap (fun x => [x.1, x.2]))) = some c := by
    rw [pairsOf_flatMap]
    exact check
  rw [notInLimp_eq outside, sceneaddOwner]
  simp only [List.getD_cons_zero, List.drop_succ_cons, List.drop_zero, found]
  rfl

/-- The scene that a SCENEADD of some functions with their values describes. -/
def sceneGiven (id life : Byte) (ps : List (Fn × Byte)) : Scene := sceneOf id life (ps.map (fun x => (x.1, x.2.toNat)))

theorem sceneGiven_entries {id life : Byte} {ps : List (Fn × Byte)} (fits : ∀ x ∈ ps, x.2.toNat ≤ 100) :
    (sceneGiven id life ps).entries = ps.map (fun x => (x.1, if x.1.dimmable then x.2.toNat else if x.2.toNat = 0 then 0 else 100)) := by
  simp only [sceneGiven, sceneOf, List.map_map]
  exact List.map_congr_left fun x hx => congrArg (Prod.mk x.1) (lampValue_le x.1 (fits x hx))

/-- An entry of a scene of distinct functions differs from the value given for its function exactly where a pair is stored otherwise
than given. -/
theorem sceneGiven_clamped {id life : Byte} {ps : List (Fn × Byte)} (nodup : (ps.map (·.1)).Nodup) :
    (∃ x ∈ ps, lampValue x.1 x.2.toNat ≠ x.2.toNat) ↔
      ∃ e ∈ (sceneGiven id life ps).entries, ∃ x ∈ ps, e.1 = x.1 ∧ e.2 ≠ x.2.toNat := by
  simp only [sceneGiven, sceneOf, List.map_map]
  constructor
  · rintro ⟨x, hx, ne⟩
    exact ⟨_, List.mem_map_of_mem hx, x, hx, rfl, ne⟩
  · rintro ⟨_, he, x, hx, same, ne⟩
    obtain ⟨y, hy, rfl⟩ := List.mem_map.mp he
    have : y = x := List.inj_on_of_nodup_map nodup hy hx same
    exact ⟨x, hx, this ▸ ne⟩

/-- Settles O26: the pairs pass the checks and their scene is appended, or the first check that fails decides. -/
theorem sceneaddAppends : Obligations.SceneaddAppends := by
  constructor
  · intro s rest id life ps h outside room single named some few nodup fits
    have length : ReqKind.sceneadd.lengthOk (id :: life :: payloadOf ps).length = true := by
      simp only [List.length_cons, payloadOf_length]
      exact sceneadd_lengthOk few
    generalize stored : (s.popInbound rest).setScenes (s.resolver.scenes ++ [sceneGiven id life ps]) = u
    have answer : notInLimp sceneaddOwner (id :: life :: payloadOf ps) (s.popInbound rest) =
        { state := u.settle
          code := demandCode (ps.any (fun x => u.settle.withheld x.1)) (ps.any (fun x => lampValue x.1 x.2.toNat != x.2.toNat))
          data := b1 (s.resolver.scenes.length + 1) } := by
      have passes := sceneaddCheck_passes (scenes := (s.popInbound rest).resolver.scenes) room single named some nodup fits
      rw [notInLimp_eq outside, sceneaddOwner, ← stored]
      simp only [List.getD_cons_zero, List.getD_cons_succ, List.drop_succ_cons, List.drop_zero, passes, namedPairs_payloadOf,
        List.any_map, Function.comp_def]
      rfl
    have link : u.link = (s.popInbound rest).link := stored ▸ rfl
    obtain ⟨t, run, value, keeps, consistent⟩ := request_settles (k := .sceneadd) h length answer link
    have scenes : t.resolver.scenes = s.resolver.scenes ++ [sceneGiven id life ps] := keeps.scenes.trans (stored ▸ rfl)
    have rebuilt : { u with link := t.link } = { s.setScenes t.resolver.scenes with link := t.link } := by
      rw [scenes, ← stored]
      rfl
    refine ⟨t, sceneGiven id life ps, run, scenes, rfl, rfl, sceneGiven_entries fun x hx => (fits x hx).2, ?_, rebuilt ▸ keeps,
      consistent⟩
    have settled := settle_consistent u
    generalize u.settle = after at value settled
    subst value
    exact congrArg (fun c => linkAfter s rest 0x24 c _) (demandCode_of_iff
      (List.any_eq_true.trans (exists_congr fun x => and_congr_right fun _ => withheld_replied settled _ x.1))
      ((List.any_eq_true.trans (exists_congr fun x => and_congr_right fun _ => bne_iff_ne)).trans (sceneGiven_clamped nodup)))
  · intro s rest id life ps h outside few refused twin guarded bad
    have found := sceneaddCheck_eq s.resolver.scenes id ps
    refine ⟨fun full => ?_, fun room doubled => ?_, fun room alone guards => ?_, fun room alone free wrong => ?_⟩
    · exact sceneadd_refused h outside few (found.trans (if_pos full))
    · refine sceneadd_refused h outside few ?_
      rw [found, if_neg (Nat.not_le.mpr room), if_pos (hasScene_iff.mpr doubled)]
    · refine sceneadd_refused h outside few ?_
      rw [found, if_neg (Nat.not_le.mpr room), if_neg (hasScene_iff.not.mpr alone), if_pos ((anySceneProtected_iff ps).mpr guards)]
    · refine sceneadd_refused h outside few ?_
      rw [found, if_neg (Nat.not_le.mpr room), if_neg (hasScene_iff.not.mpr alone), if_neg ((anySceneProtected_iff ps).not.mpr free),
        if_pos]
      simp only [List.isEmpty_iff, List.any_eq_true, decide_eq_true_eq, repeatsCode_iff]
      rcases wrong with zero | empty | ⟨x, hx, code | value⟩ | repeated
      · exact .inl zero
      · exact .inr (.inl empty)
      · exact .inr (.inr (.inl ⟨x, hx, code⟩))
      · exact .inr (.inr (.inr (.inr ⟨x, hx, value⟩)))
      · exact .inr (.inr (.inr (.inl repeated)))

/-! ### GAUGETEST (R119) -/

theorem testRunning_iff (s : State) : s.testRunning = true ↔ ∃ g, (s.gauge g).state = .test := by
  simp [State.testRunning, Fin.exists_fin_two]

theorem gaugeRuns_iff (s : State) (g : GaugeId) : s.gaugeRuns g = true ↔ (s.gauge g).state = .run := by
  simp [State.gaugeRuns]

theorem enterTest_eq (x : Gauge) :
    x.enterTest = if x.state = .run then { x with state := .test, shortCount := 0 } else x := rfl

/-- Settles O29: the checks in their order, and behind them the test. -/
theorem gaugetestBeginsTheTest : Obligations.GaugetestBeginsTheTest := by
  intro s rest h
  have ready (drive : s.op.state = .drive) (hold : s.supply.hold = false) :
      ¬ ((s.popInbound rest).op.state ≠ .drive ∨ (s.popInbound rest).supply.hold = true) := by simp [drive, hold]
  have idle (none : ∀ g, (s.gauge g).state ≠ .test) : ¬ (s.popInbound rest).testRunning = true :=
    fun running => (testRunning_iff _).mp running |>.elim none
  have nobody : (!(s.popInbound rest).gaugeRuns 0 && !(s.popInbound rest).gaugeRuns 1) = true ↔ ∀ g, (s.gauge g).state ≠ .run := by
    simp only [Bool.and_eq_true, Bool.not_eq_true', ← Bool.not_eq_true, gaugeRuns_iff, Fin.forall_fin_two]
    rfl
  refine ⟨fun unready => ?_, fun drive hold busy => ?_, fun drive hold none bad => ?_, fun drive hold none runs => ?_⟩
  · exact request_reply (k := .gaugetest) h rfl (if_pos unready)
  · refine request_reply (k := .gaugetest) h rfl ?_
    rw [gaugetestOwner, if_neg (ready drive hold), if_pos ((testRunning_iff (s.popInbound rest)).mpr busy)]
    rfl
  · refine request_reply (k := .gaugetest) h rfl ?_
    rw [gaugetestOwner, if_neg (ready drive hold), if_neg (idle none), if_pos (nobody.mpr bad)]
    rfl
  · have answer : gaugetestOwner [] (s.popInbound rest) =
        { state := (s.popInbound rest).beginTest, code := .ok, data := b1 (flagBits [s.gaugeRuns 0, s.gaugeRuns 1]) } := by
      rw [gaugetestOwner, if_neg (ready drive hold), if_neg (idle none), if_neg (nobody.not.mpr (by simpa only [not_forall, not_not] using runs))]
      rfl
    refine ⟨_, request_answers (k := .gaugetest) h rfl answer rfl, fun g => ?_, rfl, rfl, ?_⟩
    · exact (gauge_mapGauges s Gauge.enterTest 0 g).trans (enterTest_eq _)
    · have placed (g : GaugeId) : s.gaugeRuns g = decide ((s.gauge g).state = .run) := by
        rw [Bool.eq_iff_iff, gaugeRuns_iff, decide_eq_true_eq]
      rw [placed, placed]
      rfl

end Sys2Proof.Machine
end

section
/-! PROOF. The read requests (O30). -/

namespace Sys2Proof.Machine

/-! ### The lengths of fields -/

@[simp] theorem b1_length (v : Nat) : (b1 v).length = 1 := rfl

@[simp] theorem b2_length (v : Nat) : (b2 v).length = 2 := rfl

@[simp] theorem b4_length (v : Nat) : (b4 v).length = 4 := rfl

/-- A request that only replies, answered OK with its data. -/
theorem read_answered {k : ReqKind} {owner : List Byte → State → Answer} {s : State} {p : List Byte} {rest : List Frame}
    {data : List Byte} (h : Takes s k.code p rest) (length : k.lengthOk p.length = true)
    (answer : owner p (s.popInbound rest) = readAnswer (s.popInbound rest) data) :
    s.live (State.request k owner) = .next { s with link := linkAfter s rest k.code .ok data } :=
  request_reply h length answer

/-! ### CHREAD (R26) -/

theorem dimmable_iff (f : Option Fn) :
    f.any Fn.dimmable = true ↔ f ∈ [some .panel, some .interior, some .aux1, some .aux2, some .aux3] := by
  cases f with
  | none => decide
  | some f => cases f <;> decide

theorem isHeavy_iff (ch : LampId) : isHeavy ch = true ↔ ch.val < 4 := decide_eq_true_iff

/-- The applied duty of a lamp channel as R16 gives it. -/
theorem appliedDuty_eq (s : State) (ch : LampId) :
    s.appliedDuty ch =
      if s.supply.hold = true ∨ (s.lamp ch).demand = 0 ∨ ((s.lamp ch).state ≠ .inrush ∧ (s.lamp ch).state ≠ .on) then 0
      else if 4 ≤ ch.val ∧ s.serving ch ∈ [some .panel, some .interior, some .aux1, some .aux2, some .aux3] then (s.lamp ch).demand
      else 100 := by
  simp only [State.appliedDuty, ← dimmable_iff, isHeavy_iff]
  by_cases hold : s.supply.hold = true
  · simp [hold]
  · by_cases dark : (s.lamp ch).demand = 0
    · cases (s.lamp ch).state <;> simp [dark, hold]
    · by_cases heavy : ch.val < 4
      · cases (s.lamp ch).state <;> simp [dark, hold, heavy, Nat.not_le.mpr heavy]
      · cases (s.lamp ch).state <;> simp [dark, hold, heavy, Nat.le_of_not_lt heavy]

theorem plainChannelData_length (ch state duty last average retries : Nat) :
    (plainChannelData ch state duty last average retries).length = 23 := rfl

theorem lampData_length (s : State) (ch : LampId) : (s.lampData ch).length = 23 := by
  simp only [State.lampData, fnField, channelField, List.length_append, b1_length, b2_length]

/-! ### FNREAD (R47) -/

/-- A function's list names at most fourteen channels. -/
theorem listOf_length (s : State) (f : Fn) : (s.listOf f).length ≤ 14 := by
  unfold State.listOf
  split
  · decide
  · rw [List.length_map]
    exact List.length_filter_le (fun ch => s.serving ch == some f) allLamps

theorem channelPlaces_eq {cs : List Nat} (h : cs.length ≤ 14) :
    channelPlaces cs = (cs ++ List.replicate (14 - cs.length) 255).flatMap b1 := by
  rw [channelPlaces, List.take_append, List.take_of_length_le h, List.take_replicate, Nat.min_eq_left (by omega)]

theorem flatMap_b1_length (cs : List Nat) : (cs.flatMap b1).length = cs.length := by
  simp [List.length_flatMap]

theorem fnData_length (s : State) (f : Fn) : (s.fnData f).length = 23 := by
  have few := listOf_length s f
  have courtesy : (s.courtesyData f).length = 3 := by
    unfold State.courtesyData
    split <;> rfl
  have places : (channelPlaces (s.listOf f)).length = 14 := by
    rw [channelPlaces_eq few, flatMap_b1_length, List.length_append, List.length_replicate]
    omega
  simp only [State.fnData, List.length_append, b1_length, courtesy, places]

theorem allLamps_eq : allLamps = List.finRange 14 := by decide

theorem listOf_eq (s : State) (f : Fn) :
    s.listOf f = if f = .fan then [14] else ((List.finRange 14).filter (fun ch => s.serving ch = some f)).map (·.val) := by
  have same : s.channelsOf f = (List.finRange 14).filter (fun ch => s.serving ch = some f) := by
    rw [State.channelsOf, allLamps_eq]
    exact List.filter_congr fun ch _ => beq_eq_decide _ _
  rw [State.listOf, same]

theorem shownValue_eq (s : State) (f : Fn) :
    s.shownValue f =
      if f = .telltale then (if s.flash.phase = .on then 100 else 0)
      else if f = .indL then (if s.flash.phase = .on ∧ (s.flash.active = .left ∨ s.flash.active = .both) then 100 else 0)
      else if f = .indR then (if s.flash.phase = .on ∧ (s.flash.active = .right ∨ s.flash.active = .both) then 100 else 0)
      else (s.fnRec f).resolved := by
  cases f <;> simp [State.shownValue, sideActive]

theorem shownReason_eq (s : State) (f : Fn) :
    s.shownReason f =
      if f ∈ [Fn.indL, .indR, .telltale] then (if s.supply.hold then .hold else .none) else (s.fnRec f).reason := by
  cases f <;> simp [State.shownReason, Fn.flashDrivenFn]

/-- The data of FNREAD laid out as Table 11-4 gives it. -/
theorem fnData_eq (s : State) (f : Fn) :
    s.fnData f =
      b1 (s.fnRec f).cls ++ b1 (flagBits [(s.fnRec f).ignitionFed, decide (f = .interior) && s.resolver.courtesy.enable]) ++
        b1 (s.fnRec f).base ++ b1 (s.shownValue f) ++ b1 (s.shownReason f).code ++ b1 (s.listOf f).length ++
        (s.listOf f ++ List.replicate (14 - (s.listOf f).length) 255).flatMap b1 ++
        (if f = .interior then
          b1 s.resolver.courtesy.holdS ++ b1 s.resolver.courtesy.phase.code ++ b1 s.resolver.courtesy.level else [0, 0, 0]) := by
  rw [← channelPlaces_eq (listOf_length s f)]
  rfl

/-! ### SUPPLYREAD (R141) -/

/-- A byte of a field is its low byte. -/
theorem b1_of_lt {v : Nat} (h : v < 256) : b1 v = [BitVec.ofNat 8 v] := by
  rw [b1, Nat.min_eq_right (by omega)]

theorem b1_mod (v : Nat) : b1 (v % 256) = [BitVec.ofNat 8 v] := by
  rw [b1_of_lt (Nat.mod_lt _ (by decide))]
  exact congrArg (fun x => [x]) (BitVec.eq_of_toNat_eq (by simp))

/-- T1 and T2 in three bytes (Table 11-8). -/
theorem packedThresholds_eq (t1 t2 : Nat) :
    packedThresholds t1 t2 =
      [BitVec.ofNat 8 ((4096 * min 4095 t1 + min 4095 t2) / 65536), BitVec.ofNat 8 ((4096 * min 4095 t1 + min 4095 t2) / 256),
        BitVec.ofNat 8 (4096 * min 4095 t1 + min 4095 t2)] := by
  have high : (4096 * min 4095 t1 + min 4095 t2) / 65536 < 256 := by omega
  rw [packedThresholds, b1_of_lt high, b1_mod, b1_mod]
  rfl

/-- The data of SUPPLYREAD's SETTINGS view laid out as Table 11-8 gives it. -/
theorem supplySettings_data_eq (x : SupplySettings) :
    x.data =
      b1 (if x.system = .v12 then 12 else 6) ++ b2 x.dynamo ++
        [BitVec.ofNat 8 ((4096 * min 4095 x.t1 + min 4095 x.t2) / 65536),
          BitVec.ofNat 8 ((4096 * min 4095 x.t1 + min 4095 x.t2) / 256), BitVec.ofNat 8 (4096 * min 4095 x.t1 + min 4095 x.t2)] ++
        b2 x.t3 ++ b1 x.h ++ b2 x.vlow1 ++ b2 x.vlow2 ++ b2 x.vover ++ b2 x.vrelease ++ b2 x.chargeThreshold ++
        b4 (36000 * x.t3 + 1800000) := by
  have system : x.system.code = if x.system = .v12 then 12 else 6 := by cases x.system <;> rfl
  have cap : x.cap = 36000 * x.t3 + 1800000 := by rw [SupplySettings.cap, chargeUnit, Nat.mul_comm]
  rw [SupplySettings.data, packedThresholds_eq, system, cap]

/-! ### The views -/

/-- SUPPLYREAD refuses a view number above 1. -/
theorem supplyreadOwner_unknown {p : List Byte} (h : 1 < u8 p 0) (s : State) : supplyreadOwner p s = refuse s .badValue := by
  unfold supplyreadOwner
  split
  · omega
  · omega
  · rfl

/-- FANREAD refuses a view number above 1. -/
theorem fanreadOwner_unknown {p : List Byte} (h : 1 < u8 p 0) (s : State) : fanreadOwner p s = refuse s .badValue := by
  unfold fanreadOwner
  split
  · omega
  · omega
  · rfl

theorem gaugeOfNat_of_eq {n : Nat} {g : GaugeId} (h : n = g.val) : gaugeOfNat n = some g := by
  subst h
  exact dif_pos g.isLt

theorem gaugeOfNat_none {n : Nat} (h : 1 < n) : gaugeOfNat n = none := dif_neg (by omega)

theorem gaugeData_unknown {s : State} (g : GaugeId) {n : Nat} (h : 3 < n) : s.gaugeData g n = none := by
  match n, h with
  | n + 4, _ => rfl

/-- A view of a gauge is answered. -/
theorem gaugeread_answered {s : State} {rest : List Frame} {a v : Byte} {g : GaugeId} {data : List Byte} (h : Takes s 0x35 [a, v] rest)
    (gauge : a.toNat = g.val) (view : s.gaugeData g v.toNat = some data) :
    exec .gaugeread s = .next { s with link := linkAfter s rest 0x35 .ok data } := by
  refine read_answered (k := .gaugeread) h rfl ?_
  have number : u8 [a, v] 0 = a.toNat ∧ u8 [a, v] 1 = v.toNat := ⟨rfl, rfl⟩
  have shown : (s.popInbound rest).gaugeData g v.toNat = some data := view
  rw [gaugereadOwner, number.1, number.2, gaugeOfNat_of_eq gauge]
  simp only [shown]

/-- Settles O30: each owner answers the state as it was with the bytes of its table. -/
theorem readsChangeNoRecord : Obligations.ReadsChangeNoRecord := by
  refine ⟨fun s rest b h => ?_, fun s rest b h => ⟨fun f named => ?_, fun unknown => ?_⟩,
    fun s rest b h => ⟨fun sc at_ => ?_, fun beyond => ?_⟩, fun s rest b h => ⟨?_, ?_, fun unknown => ?_⟩,
    fun s rest b h => ⟨?_, ?_, fun unknown => ?_⟩, fun s rest a v h => ⟨fun g gauge => ?_, fun bad => ?_⟩⟩
  · have taken (few : b.toNat ≤ 16) {data : List Byte} (e : s.channelData b.toNat = data) :
        exec .chread s = .next { s with link := linkAfter s rest 0x30 .ok data } := by
      refine read_answered (k := .chread) h rfl ((if_neg (Nat.not_lt.mpr few)).trans ?_)
      exact congrArg (readAnswer _) e
    refine ⟨fun ch lamp => ?_, ?_, ?_, ?_, fun unknown => request_reply (k := .chread) h rfl (if_pos unknown)⟩
    · have data : s.channelData b.toNat = s.lampData ch := by
        rw [lamp, State.channelData, dif_pos ch.isLt]
      have duty := appliedDuty_eq s ch
      have length := lampData_length s ch
      rw [State.lampData, duty] at data length
      exact ⟨taken (by have := ch.isLt; omega) data, length⟩
    · rintro rfl
      exact ⟨taken (by decide) rfl, rfl⟩
    · rintro rfl
      exact ⟨taken (by decide) rfl, rfl⟩
    · rintro rfl
      exact ⟨taken (by decide) rfl, rfl⟩
  · have answer : fnreadOwner [b] (s.popInbound rest) = readAnswer (s.popInbound rest) (s.fnData f) := by
      have code : u8 [b] 0 = b.toNat := rfl
      rw [fnreadOwner, code, named]
      rfl
    have data := fnData_eq s f
    rw [shownValue_eq, shownReason_eq, listOf_eq] at data
    exact ⟨(read_answered (k := .fnread) h rfl answer).trans (by rw [data]; rfl), (congrArg List.length data).symm.trans (fnData_length s f)⟩
  · refine request_reply (k := .fnread) h rfl ?_
    have code : u8 [b] 0 = b.toNat := rfl
    have none : Fn.ofCode b.toNat = none := List.getElem?_eq_none (Nat.succ_le_of_lt unknown)
    rw [fnreadOwner, code, none]
    rfl
  · refine read_answered (k := .sceneread) h rfl ?_
    have found : (s.popInbound rest).resolver.scenes[u8 [b] 0]? = some sc := at_
    rw [scenereadOwner, found]
    simp [sceneData, lifeUnits]
  · refine read_answered (k := .sceneread) h rfl ?_
    have none : (s.popInbound rest).resolver.scenes[u8 [b] 0]? = none := List.getElem?_eq_none beyond
    rw [scenereadOwner, none]
    simp
  · rintro rfl
    exact ⟨read_answered (k := .supplyread) h rfl rfl, rfl⟩
  · rintro rfl
    rw [← supplySettings_data_eq]
    exact ⟨read_answered (k := .supplyread) h rfl rfl, rfl⟩
  · exact request_reply (k := .supplyread) h rfl (supplyreadOwner_unknown (p := [b]) unknown _)
  · rintro rfl
    exact ⟨read_answered (k := .fanread) h rfl rfl, rfl⟩
  · rintro rfl
    exact ⟨read_answered (k := .fanread) h rfl rfl, rfl⟩
  · exact request_reply (k := .fanread) h rfl (fanreadOwner_unknown (p := [b]) unknown _)
  · refine ⟨?_, ?_, ?_, ?_⟩
    · rintro rfl
      exact ⟨gaugeread_answered h gauge rfl, rfl⟩
    · rintro rfl
      exact ⟨gaugeread_answered h gauge rfl, rfl⟩
    · rintro rfl
      exact gaugeread_answered h gauge rfl
    · rintro rfl
      exact gaugeread_answered h gauge rfl
  · refine request_reply (k := .gaugeread) h rfl ?_
    have number : u8 [a, v] 0 = a.toNat ∧ u8 [a, v] 1 = v.toNat := ⟨rfl, rfl⟩
    rw [gaugereadOwner, number.1, number.2]
    rcases bad with bad | bad
    · rw [gaugeOfNat_none bad]
      rfl
    · cases gaugeOfNat a.toNat with
      | none => rfl
      | some g =>
        have none : (s.popInbound rest).gaugeData g v.toNat = none := gaugeData_unknown g bad
        simp only [none]
        rfl

end Sys2Proof.Machine
end

section
/-! PROOF. The configuration of channels, substitutions, functions, fan and gauges (O31, O32, O33, O35). -/

namespace Sys2Proof.Machine

/-! ### A configuration request in LIMP -/

section
variable {k : ReqKind} {owner : List Byte → State → Answer} {s : State} {p : List Byte} {rest : List Frame}

/-- A configuration request in LIMP is answered by its owner. -/
theorem config_answers {u : State} {code : ResultCode} {data : List Byte} (h : Takes s k.code p rest)
    (length : k.lengthOk p.length = true) (limp : s.op.state = .limp)
    (answer : owner p (s.popInbound rest) = { state := u, code := code, data := data })
    (link : u.link = (s.popInbound rest).link) :
    s.live (State.request k (inLimp owner)) = .next { u with link := linkAfter s rest k.code code data } :=
  request_answers h length ((if_pos limp).trans answer) link

/-- A configuration request in LIMP is refused by its owner. -/
theorem config_refused {code : ResultCode} (h : Takes s k.code p rest) (length : k.lengthOk p.length = true)
    (limp : s.op.state = .limp) (answer : owner p (s.popInbound rest) = refuse (s.popInbound rest) code) :
    s.live (State.request k (inLimp owner)) = .next { s with link := linkAfter s rest k.code code [] } :=
  request_reply h length ((if_pos limp).trans answer)

end

theorem lampOfNat_of_eq {n : Nat} {ch : LampId} (h : n = ch.val) : lampOfNat n = some ch := by
  subst h
  exact dif_pos ch.isLt

theorem lampOfNat_none {n : Nat} (h : 13 < n) : lampOfNat n = none := dif_neg (by omega)

theorem clampedCode_eq (clamped : Bool) : clampedCode clamped = if clamped = true then .clamped else .ok := rfl

/-- The code of a configuration request, under what leaves it OK. -/
theorem clampedCode_of_iff {clamped : Bool} {P : Prop} [Decidable P] (h : clamped = false ↔ P) :
    clampedCode clamped = if P then .ok else .clamped := by
  rw [← ite_not]
  simp only [clampedCode_eq, ← h, Bool.not_eq_false]

theorem yesAt_iff (p : List Byte) (i : Nat) : yesAt p i = true ↔ u8 p i ≠ 0 := bne_iff_ne

/-! ### CHCFG (R25) -/

theorem clamp_zero (hi v : Nat) : clamp 0 hi v = min hi v := Nat.zero_max _

theorem chcfgBad_iff (ch : LampId) (p : List Byte) :
    chcfgBad ch (u8 p 1) (yesAt p 2) = true ↔
      (14 < u8 p 1 ∧ u8 p 1 ≠ 255) ∨ ((u8 p 1 = 1 ∨ u8 p 1 = 2) ∧ 4 ≤ ch.val) ∨ (u8 p 2 ≠ 0 ∧ u8 p 1 ≠ 6 ∧ u8 p 1 ≠ 7) := by
  have light : (!isHeavy ch) = true ↔ 4 ≤ ch.val := by rw [Bool.not_eq_true', ← Bool.not_eq_true, isHeavy_iff, Nat.not_lt]
  simp only [chcfgBad, Bool.or_eq_true, Bool.and_eq_true, light, yesAt_iff, decide_eq_true_eq, bne_iff_ne, beq_iff_eq, or_assoc,
    and_assoc]

/-- The configuration stored, with the ranges of Table 1-2 spelled. -/
theorem chcfgOf_eq (ch : LampId) (p : List Byte) :
    chcfgOf ch p =
      { fn := Fn.ofCode (u8 p 1), stopTurn := u8 p 2 != 0
        nominal := max (if ch.val < 4 then 500 else 100) (min (if ch.val < 4 then 12000 else 5000) (u16 p 3))
        lampOutPct := max 20 (min 80 (u8 p 5)), tripPct := max 120 (min 300 (u16 p 6))
        inrushMs := max 20 (min 500 (u16 p 8)), retryLimit := min 7 (u8 p 10) } := by
  have range : nominalRange ch = (if ch.val < 4 then 500 else 100, if ch.val < 4 then 12000 else 5000) := by
    simp only [nominalRange, isHeavy_iff]
    split <;> rfl
  rw [chcfgOf, range, clamp_zero]
  rfl

theorem chcfgClamped_iff (c : LampCfg) (p : List Byte) :
    chcfgClamped c p = false ↔
      c.nominal = u16 p 3 ∧ c.lampOutPct = u8 p 5 ∧ c.tripPct = u16 p 6 ∧ c.inrushMs = u16 p 8 ∧ c.retryLimit = u8 p 10 := by
  simp only [chcfgClamped, Bool.or_eq_false_iff, bne_eq_false_iff_eq, and_assoc]

/-- Settles O31: the structural faults decide, and behind them the fields are stored clamped. -/
theorem chcfgStoresTheChannel : Obligations.ChcfgStoresTheChannel := by
  constructor
  · intro s rest p ch h eleven limp lamp bad lo hi c
    refine ⟨fun wrong => ?_, fun right => ?_⟩
    · refine config_refused (k := .chcfg) h (by rw [eleven]; rfl) limp ?_
      rw [chcfgOwner, lampOfNat_of_eq lamp]
      exact if_pos ((chcfgBad_iff ch p).mpr wrong)
    have stored : chcfgOf ch p = c := chcfgOf_eq ch p
    have answer : chcfgOwner p (s.popInbound rest) =
        { state := (s.popInbound rest).setLamp ch { (s.popInbound rest).lamp ch with cfg := c }
          code := clampedCode (chcfgClamped c p), data := b1 ch.val ++ c.data } := by
      rw [chcfgOwner, lampOfNat_of_eq lamp, ← stored]
      exact if_neg (by rw [chcfgBad_iff]; exact right)
    refine (config_answers (k := .chcfg) h (by rw [eleven]; rfl) limp answer rfl).trans ?_
    rw [clampedCode_of_iff (chcfgClamped_iff c p), LampCfg.data]
    simp only [List.append_assoc]
    rfl
  · intro s rest p h eleven limp beyond
    refine config_refused (k := .chcfg) h (by rw [eleven]; rfl) limp ?_
    rw [chcfgOwner, lampOfNat_none beyond]

/-! ### SUBCFG (R22) -/

theorem primaryElsewhere_iff (s : State) (e : Fin 3) (p : LampId) :
    s.primaryElsewhere e p = true ↔ ∃ x q, x ≠ e ∧ (s.subEntry x).pair = some (p, q) := by
  simp [State.primaryElsewhere, mem_allSubs, Option.any_eq_true]

/-- A pair may be written where no entry it would chain with stands in the table. -/
theorem pairWritable_iff (s : State) (e : Fin 3) (p q : LampId) :
    s.pairWritable e p q = true ↔
      p ≠ q ∧ (s.lamp q).cfg.fn = none ∧ (isHeavy p = true → isHeavy q = true) ∧
        ∀ e' p' q', (s.subEntry e').pair = some (p', q') → (e' ≠ e → p' ≠ p) ∧ p' ≠ q ∧ q' ≠ p := by
  simp only [State.pairWritable, Bool.and_eq_true, Bool.not_eq_true', ← Bool.not_eq_true, primaryElsewhere_iff, isSpare_iff,
    isPrimary_iff, canCarry_iff, Option.isNone_iff_eq_none, bne_iff_ne, and_assoc]
  refine and_congr_right fun _ => and_congr_right fun _ => and_congr_right fun _ =>
    ⟨fun ⟨elsewhere, primary, spare⟩ e' p' q' pair => ?_, fun h => ?_⟩
  · exact ⟨fun other same => elsewhere ⟨e', q', other, same ▸ pair⟩, fun same => primary ⟨e', q', same ▸ pair⟩,
      fun same => spare ⟨e', p', same ▸ pair⟩⟩
  · exact ⟨fun ⟨x, q', other, pair⟩ => (h x p q' pair).1 other rfl, fun ⟨x, q', pair⟩ => (h x q q' pair).2.1 rfl,
      fun ⟨x, p', pair⟩ => (h x p' p pair).2.2 rfl⟩

/-- The byte of a small number gives it back. -/
theorem toNat_ofNat_small {n : Nat} (h : n < 256) : (BitVec.ofNat 8 n : Byte).toNat = n := by
  rw [BitVec.toNat_ofNat, Nat.mod_eq_of_lt h]

theorem b1_toNat (b : Byte) : b1 b.toNat = [b] := by
  rw [b1_of_lt b.isLt]
  exact congrArg (fun x => [x]) (BitVec.eq_of_toNat_eq (toNat_ofNat_small b.isLt))

/-- The number of an entry as SUBCFG carries it. -/
theorem entry_number (e : Fin 3) (a b : Byte) : u8 [BitVec.ofNat 8 e.val, a, b] 0 = e.val := toNat_ofNat_small (by omega)

/-- Settles O32: an entry is emptied, or written where its pair may be, and refused otherwise. -/
theorem subcfgWritesAnEntry : Obligations.SubcfgWritesAnEntry := by
  refine ⟨fun s rest e a b h limp => ?_, fun s rest x a b h limp beyond => ?_⟩
  · have number := entry_number e a b
    have known : u8 [BitVec.ofNat 8 e.val, a, b] 0 < 3 := by omega
    have entry : (⟨u8 [BitVec.ofNat 8 e.val, a, b] 0, known⟩ : Fin 3) = e := Fin.ext number
    have second : u8 [BitVec.ofNat 8 e.val, a, b] 1 = a.toNat := rfl
    have third : u8 [BitVec.ofNat 8 e.val, a, b] 2 = b.toNat := rfl
    have echo : b1 e.val = [BitVec.ofNat 8 e.val] := b1_of_lt (by omega)
    refine ⟨?_, ?_, fun given beyond => ?_⟩
    · rintro rfl
      have answer : subcfgOwner [BitVec.ofNat 8 e.val, 255, b] (s.popInbound rest) =
          { state := (s.popInbound rest).writeSub e none, code := .ok, data := [BitVec.ofNat 8 e.val, 255, 255] } := by
        rw [subcfgOwner, dif_pos known, second, if_pos (show (255 : Byte).toNat = 255 from rfl), entry, number, echo]
        rfl
      exact ⟨_, config_answers (k := .subcfg) h rfl limp answer rfl, rfl, rfl⟩
    · intro p q primary spare good
      have named : a.toNat ≠ 255 := by omega
      refine ⟨fun fits => ?_, fun unfit => ?_⟩
      · have answer : subcfgOwner [BitVec.ofNat 8 e.val, a, b] (s.popInbound rest) =
            { state := (s.popInbound rest).writeSub e (some (p, q)), code := .ok, data := [BitVec.ofNat 8 e.val, a, b] } := by
          have echoPrimary : b1 p.val = [a] := by rw [← primary, b1_toNat]
          have echoSpare : b1 q.val = [b] := by rw [← spare, b1_toNat]
          rw [subcfgOwner, dif_pos known, second, third, if_neg named, lampOfNat_of_eq primary, lampOfNat_of_eq spare, entry, number,
            echo]
          refine (if_pos ((pairWritable_iff s e p q).mpr fits)).trans ?_
          rw [echoPrimary, echoSpare]
          rfl
        exact (config_answers (k := .subcfg) h rfl limp answer rfl).trans rfl
      · refine config_refused (k := .subcfg) h rfl limp ?_
        rw [subcfgOwner, dif_pos known, second, third, if_neg named, lampOfNat_of_eq primary, lampOfNat_of_eq spare, entry]
        exact if_neg ((pairWritable_iff s e p q).not.mpr unfit)
    · have named : a.toNat ≠ 255 := fun e => given (BitVec.eq_of_toNat_eq e)
      refine config_refused (k := .subcfg) h rfl limp ?_
      rw [subcfgOwner, dif_pos known, second, third, if_neg named]
      rcases beyond with beyond | beyond
      · rw [lampOfNat_none beyond]
      · rw [lampOfNat_none beyond]
        cases lampOfNat a.toNat <;> rfl
  · have unknown : ¬ u8 [x, a, b] 0 < 3 := Nat.not_lt.mpr beyond
    exact config_refused (k := .subcfg) h rfl limp (dif_neg unknown)

/-! ### FNCFG (R42) -/

theorem configurable_iff (f : Fn) :
    f.configurable = true ↔ f = .fog ∨ f = .panel ∨ f = .interior ∨ f = .aux1 ∨ f = .aux2 ∨ f = .aux3 ∨ f = .fan := by
  cases f <;> decide

/-- The fields of FNCFG are stored as given where R42 leaves them. -/
theorem fncfgDiffers_iff (r : FnRec) (c : Courtesy) (f : Fn) (p : List Byte) :
    fncfgDiffers (fncfgRec r f p) (fncfgCourtesy c f p) f p = false ↔
      u8 p 1 ≤ 3 ∧ ((fncfgRec r f p).ignitionFed = true ↔ u8 p 2 ≠ 0) ∧
        (if f = .interior then u8 p 4 ≤ 60 else u8 p 3 = 0 ∧ u8 p 4 = 0) := by
  have cls : (fncfgRec r f p).cls = u8 p 1 ↔ u8 p 1 ≤ 3 := by
    exact min_eq_right_iff
  have fed : (fncfgRec r f p).ignitionFed = yesAt p 2 ↔ ((fncfgRec r f p).ignitionFed = true ↔ u8 p 2 ≠ 0) := by
    rw [Bool.eq_iff_iff, yesAt_iff]
  simp only [fncfgDiffers, Bool.or_eq_false_iff, bne_eq_false_iff_eq, cls, fed, and_assoc]
  refine and_congr_right fun _ => and_congr_right fun _ => ?_
  by_cases interior : f = .interior
  · subst interior
    simp only [fncfgCourtesy, beq_self_eq_true, Bool.true_and, if_true, true_and]
    omega
  · have other : (f == Fn.interior) = false := beq_eq_false_iff_ne.mpr interior
    simp only [other, Bool.false_and, if_neg interior]
    rw [eq_comm (a := false), ← Bool.not_eq_true, yesAt_iff, not_not, eq_comm (a := 0)]

/-- A function record reads neither the courtesy record nor the link. -/
theorem setFn_then_courtesy (s : State) (f g : Fn) (r : FnRec) (c : Courtesy) (l : Link) :
    State.fnRec { s.setFn f r with resolver := { (s.setFn f r).resolver with courtesy := c }, link := l } g = (s.setFn f r).fnRec g :=
  rfl

/-- Settles O33: a configurable function's record and the courtesy fields are stored, and the code says what differs. -/
theorem fncfgStoresAttributes : Obligations.FncfgStoresAttributes := by
  intro s rest p h five limp
  have length : ReqKind.fncfg.lengthOk p.length = true := by
    rw [five]
    rfl
  refine ⟨fun f named free => ?_, fun f fixed named => ?_, fun unknown => ?_⟩
  · generalize record : fncfgRec (s.fnRec f) f p = r
    generalize lamp : fncfgCourtesy s.resolver.courtesy f p = c
    have open_ : (!f.configurable) ≠ true := by simpa using (configurable_iff f).mpr free
    have answer : fncfgOwner p (s.popInbound rest) =
        { state := { (s.popInbound rest).setFn f r with
            resolver := { ((s.popInbound rest).setFn f r).resolver with courtesy := c } }
          code := clampedCode (fncfgDiffers r c f p)
          data := b1 f.code.val ++ b1 r.cls ++ b1 (yesNo r.ignitionFed) ++ b1 (yesNo (f == Fn.interior && c.enable)) ++
            b1 (if f = Fn.interior then c.holdS else 0) } := by
      rw [fncfgOwner, named, ← record, ← lamp]
      exact if_neg open_
    have stored : (s.setFn f r).fnRec f = r := State.fnRec_setFn_same s f r
    refine ⟨_, _, _, config_answers (k := .fncfg) h length limp answer rfl, rfl, ?_, ?_, ?_, ?_, ?_⟩
    · exact stored.trans record.symm
    · exact lamp.symm
    · have read := setFn_then_courtesy s f f r c (linkAfter s rest 0x42 (clampedCode (fncfgDiffers r c f p))
        (b1 f.code.val ++ b1 r.cls ++ b1 (yesNo r.ignitionFed) ++ b1 (yesNo (f == Fn.interior && c.enable)) ++
          b1 (if f = Fn.interior then c.holdS else 0)))
      rw [stored] at read
      refine Eq.trans ?_ (congrArg (fun x : FnRec => b1 f.code.val ++ b1 x.cls ++ b1 (yesNo x.ignitionFed) ++
        (if f = Fn.interior then b1 (yesNo c.enable) ++ b1 c.holdS else [0, 0])) read.symm)
      by_cases interior : f = .interior
      · subst interior
        simp
      · have other : (f == Fn.interior) = false := beq_eq_false_iff_ne.mpr interior
        simp only [other, Bool.false_and, if_neg interior, List.append_assoc]
        rfl
    · have same : (s.setFn f r).fnRec f = r := stored
      exact congrArg (fun x : FnRec => { s.setFn f x with
        resolver := { (s.setFn f x).resolver with courtesy := c }
        link := linkAfter s rest 0x42 (clampedCode (fncfgDiffers r c f p))
          (b1 f.code.val ++ b1 r.cls ++ b1 (yesNo r.ignitionFed) ++ b1 (yesNo (f == Fn.interior && c.enable)) ++
            b1 (if f = Fn.interior then c.holdS else 0)) }) same.symm
    · rw [setFn_then_courtesy]
      have code := clampedCode_of_iff (fncfgDiffers_iff (s.fnRec f) s.resolver.courtesy f p)
      rw [record, lamp] at code
      rw [code]
      have same : ((s.popInbound rest).setFn f r).fnRec f = r := stored
      rw [same]
  · refine config_refused (k := .fncfg) h length limp ?_
    have closed : (!f.configurable) = true := by
      fin_cases fixed <;> rfl
    rw [fncfgOwner, named]
    exact if_pos closed
  · refine config_refused (k := .fncfg) h length limp ?_
    have none : Fn.ofCode (u8 p 0) = none := List.getElem?_eq_none (Nat.succ_le_of_lt unknown)
    rw [fncfgOwner, none]

/-! ### FANCFG (R104) -/

theorem u8_lt (p : List Byte) (i : Nat) : u8 p i < 256 := (p.getD i 0).isLt

theorem u16_lt (p : List Byte) (i : Nat) : u16 p i < 65536 := by
  have := u8_lt p i
  have := u8_lt p (i + 1)
  rw [u16]
  omega

/-- A two-byte field as it is given. -/
theorem b2_u16 (a b : Byte) : b2 (256 * a.toNat + b.toNat) = [a, b] := by
  have := a.isLt
  have := b.isLt
  have high : (256 * a.toNat + b.toNat) / 256 = a.toNat := by omega
  rw [b2, Nat.min_eq_right (by omega), high]
  refine congrArg₂ (fun x y => [x, y]) ?_ ?_ <;> refine BitVec.eq_of_toNat_eq ?_
  · rw [toNat_ofNat_small a.isLt]
  · rw [BitVec.toNat_ofNat]
    omega

theorem b2_injective {v w : Nat} (hv : v < 65536) (hw : w < 65536) (h : b2 v = b2 w) : v = w := by
  rw [b2, b2, Nat.min_eq_right (by omega), Nat.min_eq_right (by omega)] at h
  simp only [List.cons.injEq, and_true] at h
  obtain ⟨high, low⟩ := h
  have high := congrArg BitVec.toNat high
  have low := congrArg BitVec.toNat low
  simp only [BitVec.toNat_ofNat] at high low
  omega

theorem b1_injective {v w : Nat} (hv : v < 256) (hw : w < 256) (h : b1 v = b1 w) : v = w := by
  rw [b1_of_lt hv, b1_of_lt hw, List.cons.injEq] at h
  have low := congrArg BitVec.toNat h.1
  rwa [toNat_ofNat_small hv, toNat_ofNat_small hw] at low

/-- The fields of the fan's settings fit their places. -/
structure FanSettings.Fits (x : FanSettings) : Prop where
  duty1 : x.duty1 < 65536
  duty2 : x.duty2 < 65536
  duty3 : x.duty3 < 65536
  duty4 : x.duty4 < 65536
  kickTime : x.kickTime < 65536
  slew : x.slew < 65536
  stallCurrent : x.stallCurrent < 65536
  stallTime : x.stallTime < 65536
  retryLimit : x.retryLimit < 256

theorem fanSettingsGiven_fits (p : List Byte) : (fanSettingsGiven p).Fits :=
  ⟨u16_lt .., u16_lt .., u16_lt .., u16_lt .., u16_lt .., u16_lt .., u16_lt .., u16_lt .., u8_lt ..⟩

theorem clamp_lt {lo hi bound v : Nat} (l : lo < bound) (h : hi < bound) : clamp lo hi v < bound := by
  rw [clamp]
  omega

theorem clamped_fits (x : FanSettings) : x.clamped.Fits :=
  ⟨clamp_lt (by decide) (by decide), clamp_lt (by decide) (by decide), clamp_lt (by decide) (by decide),
    clamp_lt (by decide) (by decide), clamp_lt (by decide) (by decide), clamp_lt (by decide) (by decide),
    clamp_lt (by decide) (by decide), clamp_lt (by decide) (by decide), clamp_lt (by decide) (by decide)⟩

/-- Settings that fit are read back from their bytes. -/
theorem fanSettings_data_injective {x y : FanSettings} (hx : x.Fits) (hy : y.Fits) (h : x.data = y.data) : x = y := by
  simp only [FanSettings.data, List.append_assoc] at h
  obtain ⟨e1, h⟩ := List.append_inj h rfl
  obtain ⟨e2, h⟩ := List.append_inj h rfl
  obtain ⟨e3, h⟩ := List.append_inj h rfl
  obtain ⟨e4, h⟩ := List.append_inj h rfl
  obtain ⟨e5, h⟩ := List.append_inj h rfl
  obtain ⟨e6, h⟩ := List.append_inj h rfl
  obtain ⟨e7, h⟩ := List.append_inj h rfl
  obtain ⟨e8, e9⟩ := List.append_inj h rfl
  cases x
  cases y
  simp only [FanSettings.mk.injEq]
  exact ⟨b2_injective hx.duty1 hy.duty1 e1, b2_injective hx.duty2 hy.duty2 e2, b2_injective hx.duty3 hy.duty3 e3,
    b2_injective hx.duty4 hy.duty4 e4, b2_injective hx.kickTime hy.kickTime e5, b2_injective hx.slew hy.slew e6,
    b2_injective hx.stallCurrent hy.stallCurrent e7, b2_injective hx.stallTime hy.stallTime e8,
    b1_injective hx.retryLimit hy.retryLimit e9⟩

/-- The settings given lie in the payload as they are laid out. -/
theorem fanSettingsGiven_data {p : List Byte} (h : p.length = 17) : (fanSettingsGiven p).data = p := by
  match p, h with
  | [_, _, _, _, _, _, _, _, _, _, _, _, _, _, _, _, _], _ => simp [FanSettings.data, fanSettingsGiven, u16, u8, b2_u16, b1_toNat]

/-! ### GAUGECFG (R122) -/

theorem gaugecfgClamped_iff (c : GaugeCfg) (p : List Byte) :
    gaugecfgClamped c p = false ↔ c.rp = u16 p 2 ∧ c.k = u16 p 4 ∧ c.dfs = u16 p 6 ∧ c.vref = u16 p 8 := by
  simp only [gaugecfgClamped, Bool.or_eq_false_iff, bne_eq_false_iff_eq, and_assoc]

theorem faultActionOf_none {n : Nat} (h : 1 < n) : faultActionOf n = none := by
  match n, h with
  | n + 2, _ => rfl

/-- Settles O35: the settings are stored clamped, and the echo differs from the request exactly where one was clamped. -/
theorem fanAndGaugeSettingsAreStored : Obligations.FanAndGaugeSettingsAreStored := by
  constructor
  · intro s rest p h seventeen limp x
    have stored : (fanSettingsGiven p).clamped = x := by
      simp only [FanSettings.clamped, fanSettingsGiven, clamp_zero]
      rfl
    have answer : fancfgOwner p (s.popInbound rest) =
        { state := { s.popInbound rest with fan := { s.fan with settings := x } }
          code := clampedCode (x != fanSettingsGiven p), data := x.data } := by
      rw [← stored]
      rfl
    have same : x.data = p ↔ x = fanSettingsGiven p := by
      refine ⟨fun e => ?_, fun e => e ▸ fanSettingsGiven_data seventeen⟩
      exact fanSettings_data_injective (stored ▸ clamped_fits _) (fanSettingsGiven_fits p)
        (e.trans (fanSettingsGiven_data seventeen).symm)
    have code : clampedCode (x != fanSettingsGiven p) = if x = fanSettingsGiven p then .ok else .clamped :=
      clampedCode_of_iff bne_eq_false_iff_eq
    refine ⟨_, config_answers (k := .fancfg) h (by rw [seventeen]; rfl) limp answer rfl, fun e => ?_, fun e => ?_⟩
    · rw [code, if_pos (same.mp e)]
    · rw [code, if_neg (same.not.mp e)]
  · intro s rest p h eleven limp
    have length : ReqKind.gaugecfg.lengthOk p.length = true := by
      rw [eleven]
      rfl
    constructor
    · intro g act gauge action c
      have answer : gaugecfgOwner p (s.popInbound rest) =
          { state := (s.popInbound rest).setGauge g { (s.popInbound rest).gauge g with cfg := c }
            code := clampedCode (gaugecfgClamped c p), data := b1 g.val ++ c.data } := by
        rw [gaugecfgOwner, gaugeOfNat_of_eq gauge, action]
        rfl
      refine (config_answers (k := .gaugecfg) h length limp answer rfl).trans ?_
      rw [clampedCode_of_iff (gaugecfgClamped_iff c p)]
      rfl
    · intro bad
      refine config_refused (k := .gaugecfg) h length limp ?_
      rw [gaugecfgOwner]
      rcases bad with bad | bad
      · rw [gaugeOfNat_none bad]
      · rw [faultActionOf_none bad]
        cases gaugeOfNat (u8 p 0) <;> rfl

end Sys2Proof.Machine
end

section
/-! PROOF. The configuration of curves, supply and inputs (O36, O37, O38). -/

namespace Sys2Proof.Machine

/-! ### CURVECFG (R123) -/

theorem pointsOf_length (k : Nat) (body : List Byte) (h : body.length = 4 * k) : (pointsOf body).length = k := by
  induction k generalizing body with
  | zero =>
    obtain rfl := List.length_eq_zero_iff.mp h
    rfl
  | succ k ih =>
    match body, h with
    | a :: b :: c :: d :: rest, h =>
      rw [pointsOf, List.length_cons, ih rest (by simp only [List.length_cons] at h; omega)]

/-- A payload of CURVECFG carries one to four points. -/
theorem curvecfg_lengthOk {k : Nat} (some : 1 ≤ k) (few : k ≤ 4) : ReqKind.curvecfg.lengthOk (4 * k + 1 + 1 + 1) = true := by
  interval_cases k <;> rfl

theorem partLength_first (n : Nat) : partLength n 1 = min n 4 := by
  rw [partLength, if_pos rfl]
  split <;> omega

theorem partLength_second (n : Nat) : partLength n 5 = n - 4 := rfl

/-- The form of a part is right where its count, its first index and its points go together. -/
theorem partMalformed_false {n first carried : Nat} (count : 2 ≤ n ∧ n ≤ 8) (index : first = 1 ∨ first = 5)
    (points : carried = partLength n first) : partMalformed n first carried = false := by
  have known : (first != 1 && first != 5) = false := by rcases index with rfl | rfl <;> rfl
  simp only [partMalformed, known, points, bne_self_eq_false, Bool.or_false, Bool.or_eq_false_iff, decide_eq_false_iff_not]
  omega

theorem partMalformed_true {n first carried : Nat}
    (h : n < 2 ∨ 8 < n ∨ (first ≠ 1 ∧ first ≠ 5) ∨ carried ≠ partLength n first) : partMalformed n first carried = true := by
  simp only [partMalformed, Bool.or_eq_true, Bool.and_eq_true, decide_eq_true_eq, bne_iff_ne, or_assoc]
  exact h

section
variable {s : State} {rest : List Frame} {p : List Byte} {g : GaugeId}

/-- The points of a payload as they are stored. -/
def storedPart (p : List Byte) : List Point := (pointsOf (p.drop 3)).map Point.clamped

/-- CURVECFG answers what the gauge makes of a part. -/
theorem curvecfg_taken {x : Gauge} {awaited : Nat} (h : Takes s 0x46 p rest) (length : ReqKind.curvecfg.lengthOk p.length = true)
    (limp : s.op.state = .limp) (gauge : u8 p 0 = g.val)
    (form : partMalformed (u8 p 1) (u8 p 2) (pointsOf (p.drop 3)).length = false) (ascends : ohmsAscend (storedPart p) = true)
    (takes : (s.gauge g).takePart (u8 p 1) (u8 p 2) (storedPart p) = some (x, awaited)) :
    exec .curvecfg s = .next { s.setGauge g x with
      link := linkAfter s rest 0x46 (if storedPart p = pointsOf (p.drop 3) then .ok else .clamped)
        (b1 g.val ++ b1 (u8 p 1) ++ b1 awaited ++ (storedPart p).flatMap pointField) } := by
  have answer : curvecfgOwner p (s.popInbound rest) =
      { state := (s.popInbound rest).setGauge g x
        code := clampedCode (storedPart p != pointsOf (p.drop 3))
        data := b1 g.val ++ b1 (u8 p 1) ++ b1 awaited ++ (storedPart p).flatMap pointField } := by
    have takes : ((s.popInbound rest).gauge g).takePart (u8 p 1) (u8 p 2) (storedPart p) = some (x, awaited) := takes
    rw [storedPart] at ascends takes ⊢
    simp only [curvecfgOwner, gaugeOfNat_of_eq gauge, form, ascends, takes]
    rfl
  refine (config_answers (k := .curvecfg) h length limp answer rfl).trans ?_
  rw [clampedCode_of_iff bne_eq_false_iff_eq]
  rfl

/-- CURVECFG refuses a gauge above 1, a part of wrong form or order, and a part that the gauge does not take. -/
theorem curvecfg_refused (h : Takes s 0x46 p rest) (length : ReqKind.curvecfg.lengthOk p.length = true) (limp : s.op.state = .limp)
    (bad : 1 < u8 p 0 ∨ partMalformed (u8 p 1) (u8 p 2) (pointsOf (p.drop 3)).length = true ∨ ohmsAscend (storedPart p) = false ∨
      ∀ g : GaugeId, u8 p 0 = g.val → (s.gauge g).takePart (u8 p 1) (u8 p 2) (storedPart p) = none) :
    exec .curvecfg s = .next { s with link := linkAfter s rest 0x46 .badValue [] } := by
  refine config_refused (k := .curvecfg) h length limp ?_
  by_cases known : 1 < u8 p 0
  · rw [curvecfgOwner, gaugeOfNat_none known]
  have gauge : u8 p 0 = (⟨u8 p 0, by omega⟩ : GaugeId).val := rfl
  generalize (⟨u8 p 0, _⟩ : GaugeId) = g at gauge
  simp only [curvecfgOwner, gaugeOfNat_of_eq gauge]
  rw [← storedPart]
  rcases bad with unknown | form | order | fits
  · exact absurd unknown known
  · rw [form]
    rfl
  · rw [order, Bool.not_false, Bool.or_true]
    rfl
  · split
    · rfl
    · have fits : ((s.popInbound rest).gauge g).takePart (u8 p 1) (u8 p 2) (storedPart p) = none := fits g gauge
      rw [fits]

end

/-- A second part is taken only where the pending curve has its count. -/
theorem takePart_unpending {x : Gauge} {n first : Nat} {part : List Point} (second : first ≠ 1)
    (h : (x.pendingCurve.map (·.1)) ≠ some n) : x.takePart n first part = none := by
  rw [Gauge.takePart, if_neg second]
  cases pending : x.pendingCurve with
  | none => rfl
  | some held =>
    have other : held.1 ≠ n := fun e => h (by rw [pending]; exact congrArg some e)
    exact if_neg fun both => other both.1

/-- A second part above the pending curve completes it, and one that is not above it is not taken. -/
theorem takePart_second {x : Gauge} {n : Nat} {held more : List Point} {a b : Point} (pending : x.pendingCurve = some (n, held ++ [a])) :
    x.takePart n 5 (b :: more) = if a.ohms < b.ohms then some (x.takeCurve (held ++ a :: b :: more), 0) else none := by
  have above : continuesAbove (held ++ [a]) (b :: more) = decide (a.ohms < b.ohms) := by
    simp [continuesAbove]
  rw [Gauge.takePart, if_neg (by decide), pending]
  simp only [above, true_and, decide_eq_true_eq, List.append_assoc, List.singleton_append]

/-- Settles O36: a part of right form and order goes to the gauge, and anything else is refused. -/
theorem curvesAreStoredWhole : Obligations.CurvesAreStoredWhole := by
  constructor
  · intro s rest g n first pts body h limp whole points stored ascends answer refused
    have gauge : u8 (BitVec.ofNat 8 g.val :: BitVec.ofNat 8 n :: BitVec.ofNat 8 first :: body) 0 = g.val :=
      toNat_ofNat_small (by omega)
    have length (some : 1 ≤ pts.length) (few : pts.length ≤ 4) : ReqKind.curvecfg.lengthOk
        (BitVec.ofNat 8 g.val :: BitVec.ofNat 8 n :: BitVec.ofNat 8 first :: body : List Byte).length = true := by
      simp only [List.length_cons, whole]
      exact curvecfg_lengthOk some few
    have part : storedPart (BitVec.ofNat 8 g.val :: BitVec.ofNat 8 n :: BitVec.ofNat 8 first :: body) = stored := by
      simp only [storedPart, List.drop_succ_cons, List.drop_zero, points]
      rfl
    have given : pointsOf ((BitVec.ofNat 8 g.val :: BitVec.ofNat 8 n :: BitVec.ofNat 8 first :: body : List Byte).drop 3) = pts := points
    have order : ohmsAscend stored = true ↔ ascends := ohmsAscend_iff stored
    have count (few : n ≤ 8) : u8 (BitVec.ofNat 8 g.val :: BitVec.ofNat 8 n :: BitVec.ofNat 8 first :: body) 1 = n :=
      toNat_ofNat_small (by omega)
    have index (low : first < 256) : u8 (BitVec.ofNat 8 g.val :: BitVec.ofNat 8 n :: BitVec.ofNat 8 first :: body) 2 = first :=
      toNat_ofNat_small low
    have taken {x : Gauge} {awaited : Nat} (counted : 2 ≤ n ∧ n ≤ 8) (placed : first = 1 ∨ first = 5)
        (needs : pts.length = partLength n first) (few : 1 ≤ pts.length ∧ pts.length ≤ 4) (up : ascends)
        (takes : (s.gauge g).takePart n first stored = some (x, awaited)) : exec .curvecfg s = .next (answer x awaited) := by
      have low : first < 256 := by omega
      refine (curvecfg_taken (x := x) (awaited := awaited) h (length few.1 few.2) limp gauge ?_ (part ▸ order.mpr up) ?_).trans ?_
      · rw [count counted.2, index low, given]
        exact partMalformed_false counted placed needs
      · rw [count counted.2, index low, part]
        exact takes
      · rw [count counted.2, part, given]
    refine ⟨fun two four one size up => ?_, fun five eight one size up => ?_, ?_, fun some few down => ?_, fun some few second none => ?_⟩
    · subst one
      refine taken ⟨two, by omega⟩ (.inl rfl) (by rw [partLength_first]; omega) (by omega) up ?_
      rw [Gauge.takePart, if_pos rfl, if_pos four]
      rfl
    · subst one
      refine taken ⟨by omega, eight⟩ (.inl rfl) (by rw [partLength_first]; omega) (by omega) up ?_
      rw [Gauge.takePart, if_pos rfl, if_neg (by omega)]
    · intro held a b more five eight second size up pending begins
      subst second
      have takes := takePart_second (b := b) (more := more) pending
      rw [← begins] at takes
      by_cases above : a.ohms < b.ohms
      · rw [if_pos above] at takes ⊢
        exact taken ⟨by omega, eight⟩ (.inr rfl) (by rw [partLength_second]; omega) (by omega) up takes
      · rw [if_neg above] at takes ⊢
        refine curvecfg_refused h (length (by omega) (by omega)) limp (.inr (.inr (.inr fun g' same => ?_)))
        obtain rfl : g' = g := Fin.ext (same.symm.trans gauge)
        rw [count eight, index (by decide), part]
        exact takes
    · refine curvecfg_refused h (length some few) limp (.inr (.inr (.inl ?_)))
      rw [part, ← Bool.not_eq_true, order]
      exact down
    · subst second
      refine curvecfg_refused h (length some few) limp (.inr (.inr (.inr fun g' same => ?_)))
      obtain rfl : g' = g := Fin.ext (same.symm.trans gauge)
      rw [index (by decide)]
      exact takePart_unpending (by decide) (by simp [none])
  · intro s rest p h sizes limp n first carried bad
    have length : ReqKind.curvecfg.lengthOk p.length = true := List.elem_eq_true_of_mem sizes
    have size : p.length = 3 + 4 * carried ∧ 1 ≤ carried := by
      simp only [List.mem_cons, List.not_mem_nil, or_false] at sizes
      omega
    have points : (pointsOf (p.drop 3)).length = carried := pointsOf_length _ _ (by rw [List.length_drop]; omega)
    refine curvecfg_refused h length limp ?_
    rw [points]
    rcases bad with unknown | few | many | index | ⟨one, wrong⟩ | ⟨five, wrong⟩ | ⟨five, other⟩
    · exact .inl unknown
    · exact .inr (.inl (partMalformed_true (.inl few)))
    · exact .inr (.inl (partMalformed_true (.inr (.inl many))))
    · exact .inr (.inl (partMalformed_true (.inr (.inr (.inl index)))))
    · refine .inr (.inl (partMalformed_true (.inr (.inr (.inr ?_)))))
      rw [show u8 p 2 = 1 from one, partLength_first]
      exact wrong
    · refine .inr (.inl (partMalformed_true (.inr (.inr (.inr ?_)))))
      rw [show u8 p 2 = 5 from five, partLength_second]
      omega
    · refine .inr (.inr (.inr fun g gauge => ?_))
      exact takePart_unpending (by rw [show u8 p 2 = 5 from five]; decide) (other g gauge)

/-! ### SUPPLYCFG (R140) -/

/-- A voltage is stored at its default where it is given as 0, and clamped otherwise. -/
theorem thresholdOf_eq {lo hi : Nat} (ordered : lo ≤ hi) (dflt given : Nat) :
    thresholdOf lo hi dflt given =
      if given = 0 then dflt else if given < lo then lo else if hi < given then hi else given := by
  rw [thresholdOf, clamp_eq_ite ordered]

theorem systemOf_eq {n : Nat} (h : n = 12 ∨ n = 6) : systemOf n = some (if n = 12 then .v12 else .v6) := by
  rcases h with rfl | rfl <;> rfl

theorem systemOf_none {n : Nat} (six : n ≠ 6) (twelve : n ≠ 12) : systemOf n = none := by
  unfold systemOf
  split
  · contradiction
  · contradiction
  · rfl

/-- The settings that a SUPPLYCFG gives, with the ranges and the defaults of Table 7-2 spelled. -/
theorem supplySettingsOf_eq (p : List Byte) (twelve : Bool) :
    supplySettingsOf (if twelve then .v12 else .v6) p =
      { system := if twelve then .v12 else .v6
        dynamo := if u16 p 1 < 0 then 0 else if 40000 < u16 p 1 then 40000 else u16 p 1
        t1 := if u16 p 3 < 1 then 1 else if 2550 < u16 p 3 then 2550 else u16 p 3
        t2 := if u16 p 5 < 1 then 1 else if 2550 < u16 p 5 then 2550 else u16 p 5
        t3 := if u16 p 7 < 1 then 1 else if 2550 < u16 p 7 then 2550 else u16 p 7
        h := if u8 p 9 < 1 then 1 else if 255 < u8 p 9 then 255 else u8 p 9
        vlow1 := if u16 p 10 = 0 then (if twelve then 11600 else 5800) else
          if u16 p 10 < 4000 then 4000 else if 16000 < u16 p 10 then 16000 else u16 p 10
        vlow2 := if u16 p 12 = 0 then (if twelve then 11000 else 5500) else
          if u16 p 12 < 4000 then 4000 else if 16000 < u16 p 12 then 16000 else u16 p 12
        vover := if u16 p 14 = 0 then (if twelve then 16000 else 8200) else
          if u16 p 14 < 5000 then 5000 else if 20000 < u16 p 14 then 20000 else u16 p 14
        vrelease := if u16 p 16 = 0 then (if twelve then 15000 else 7600) else
          if u16 p 16 < 4500 then 4500 else if 19500 < u16 p 16 then 19500 else u16 p 16
        chargeThreshold := if u16 p 18 = 0 then (if twelve then 12800 else 6400) else
          if u16 p 18 < 3000 then 3000 else if 16000 < u16 p 18 then 16000 else u16 p 18 } := by
  simp only [supplySettingsOf, clamp_eq_ite (show 0 ≤ 40000 by decide), clamp_eq_ite (show 1 ≤ 2550 by decide),
    clamp_eq_ite (show 1 ≤ 255 by decide), thresholdOf_eq (show 4000 ≤ 16000 by decide), thresholdOf_eq (show 5000 ≤ 20000 by decide),
    thresholdOf_eq (show 4500 ≤ 19500 by decide), thresholdOf_eq (show 3000 ≤ 16000 by decide)]
  cases twelve <;> rfl

/-- The values of a SUPPLYCFG, each given and stored. -/
def supplyValues (x : SupplySettings) (p : List Byte) : List (Nat × Nat) :=
  [(u16 p 1, x.dynamo), (u16 p 3, x.t1), (u16 p 5, x.t2), (u16 p 7, x.t3), (u8 p 9, x.h), (u16 p 10, x.vlow1), (u16 p 12, x.vlow2),
    (u16 p 14, x.vover), (u16 p 16, x.vrelease), (u16 p 18, x.chargeThreshold)]

theorem supplycfgClamped_iff (x : SupplySettings) (p : List Byte) :
    supplycfgClamped x p = true ↔ ∃ v ∈ supplyValues x p, v.1 ≠ 0 ∧ v.2 ≠ v.1 := by
  have all : supplycfgClamped x p = (supplyValues x p).any (fun v => changedNonzero v.1 v.2) := by
    simp only [supplycfgClamped, supplyValues, List.any_cons, List.any_nil, Bool.or_false, Bool.or_assoc]
  rw [all, List.any_eq_true]
  exact exists_congr fun v => and_congr_right fun _ => by rw [changedNonzero, Bool.and_eq_true, bne_iff_ne, bne_iff_ne]

/-- The settings of a SUPPLYCFG for the system voltage that it names. -/
theorem supplycfg_answer {p : List Byte} {v : SystemVoltage} (system : systemOf (u8 p 0) = some v) (s : State)
    (ordered : (supplySettingsOf v p).vlow2 < (supplySettingsOf v p).vlow1 ∧ (supplySettingsOf v p).vrelease < (supplySettingsOf v p).vover) :
    supplycfgOwner p s =
      { state := { s with
          supply := s.supply.reconfigured (supplySettingsOf v p)
          gauges := { s.gauges with gauges := s.gauges.gauges.map (Gauge.reloadVref v) } }
        code := clampedCode (supplycfgClamped (supplySettingsOf v p) p)
        data := (supplySettingsOf v p).stored } := by
  rw [supplycfgOwner, system]
  exact if_neg (by omega)

/-- Settles O37: the settings are stored where the voltages stand in order, with what follows from them. -/
theorem supplycfgStoresTheSettings : Obligations.SupplycfgStoresTheSettings := by
  intro s rest p h twenty limp
  have length : ReqKind.supplycfg.lengthOk p.length = true := by
    rw [twenty]
    rfl
  constructor
  · intro known within volts x values
    have stored : supplySettingsOf (if u8 p 0 = 12 then .v12 else .v6) p = x := by
      have spelled := supplySettingsOf_eq p (decide (u8 p 0 = 12))
      simp only [decide_eq_true_eq] at spelled
      exact spelled
    have system := systemOf_eq known
    refine ⟨fun low above => ?_, fun wrong => ?_⟩
    · have answer := supplycfg_answer system (s.popInbound rest) (by rw [stored]; exact ⟨low, above⟩)
      rw [stored] at answer
      have data : x.stored = b1 (u8 p 0) ++ b2 x.dynamo ++ b2 x.t1 ++ b2 x.t2 ++ b2 x.t3 ++ b1 x.h ++ b2 x.vlow1 ++ b2 x.vlow2 ++
          b2 x.vover ++ b2 x.vrelease ++ b2 x.chargeThreshold := by
        have code : (if u8 p 0 = 12 then SystemVoltage.v12 else .v6).code = u8 p 0 := by
          rcases known with known | known <;> rw [known] <;> rfl
        exact congrArg (fun n => b1 n ++ b2 x.dynamo ++ b2 x.t1 ++ b2 x.t2 ++ b2 x.t3 ++ b1 x.h ++ b2 x.vlow1 ++ b2 x.vlow2 ++
          b2 x.vover ++ b2 x.vrelease ++ b2 x.chargeThreshold) code
      have cap : x.cap = 36000 * x.t3 + 1800000 := by rw [SupplySettings.cap, chargeUnit, Nat.mul_comm]
      refine ⟨_, config_answers (k := .supplycfg) h length limp answer rfl, ?_, ?_, fun g => ?_, rfl, rfl⟩
      · rw [← data]
        exact congrArg (fun c => linkAfter s rest 0x47 c x.stored)
          (demandCode_of_iff (held := false) (H := False) (by simp) (supplycfgClamped_iff x p))
      · rw [← cap]
        rfl
      · have vref : (if u8 p 0 = 12 then SystemVoltage.v12 else .v6).vref = if u8 p 0 = 12 then 10000 else 5000 := by
          split <;> rfl
        rw [← vref]
        exact gauge_mapGauges s (Gauge.reloadVref (if u8 p 0 = 12 then .v12 else .v6)) s.gauges.testStep g
    · refine config_refused (k := .supplycfg) h length limp ?_
      rw [supplycfgOwner, system]
      exact if_pos (by rw [stored]; exact wrong)
  · intro six twelve
    refine config_refused (k := .supplycfg) h length limp ?_
    rw [supplycfgOwner, systemOf_none six twelve]

/-! ### INPUTCFG (R145) -/

theorem polarityOf_code {n : Nat} {x : Polarity} (h : polarityOf n = some x) : x.code = n := by
  unfold polarityOf at h
  split at h <;> cases h <;> rfl

theorem senseModeOfCode_code {n : Nat} {x : SenseMode} (h : senseModeOfCode n = some x) : x.code = n := by
  unfold senseModeOfCode at h
  split at h <;> cases h <;> rfl

theorem senseModeOfCode_none {n : Nat} (h : 1 < n) : senseModeOfCode n = none := by
  match n, h with
  | n + 2, _ => rfl

/-- The codes of the polarities that a payload gives. -/
theorem polaritiesOf_codes {p : List Byte} {ps : PerInput Polarity} (h : polaritiesOf p = some ps) :
    ps.ign.code = u8 p 0 ∧ ps.brake.code = u8 p 1 ∧ ps.haz.code = u8 p 2 ∧ ps.door.code = u8 p 3 ∧ ps.sw0.code = u8 p 4 ∧
      ps.sw1.code = u8 p 5 := by
  simp only [polaritiesOf, Option.bind_eq_bind, Option.bind_eq_some_iff, Option.some.injEq] at h
  obtain ⟨ign, h0, brake, h1, haz, h2, door, h3, sw0, h4, sw1, h5, rfl⟩ := h
  exact ⟨polarityOf_code h0, polarityOf_code h1, polarityOf_code h2, polarityOf_code h3, polarityOf_code h4, polarityOf_code h5⟩

section
variable (r : InRec) (q : Polarity) (old new : SenseMode)

theorem setPolarity_polarity : (r.setPolarity q).polarity = q := by
  unfold InRec.setPolarity
  split
  · rename_i same
    exact same.symm
  · rfl

theorem setPolarity_level : (r.setPolarity q).level = r.level := by
  unfold InRec.setPolarity
  split <;> rfl

theorem setPolarity_count : (r.setPolarity q).count = if q = r.polarity then r.count else 0 := by
  unfold InRec.setPolarity
  split <;> rfl

theorem changeMode_polarity : (r.changeMode old new).polarity = r.polarity := by
  cases old <;> cases new <;> rfl

theorem changeMode_level : (r.changeMode old new).level = if new ≠ old then false else r.level := by
  cases old <;> cases new <;> rfl

theorem changeMode_count : (r.changeMode old new).count = if old = .sender ∧ new = .switch then 0 else r.count := by
  cases old <;> cases new <;> rfl

/-- The record of a sense pin's switch input after an INPUTCFG. -/
theorem switchInput_configured :
    ((r.setPolarity q).changeMode old new).level = (if new ≠ old then false else r.level) ∧
      ((r.setPolarity q).changeMode old new).count =
        if q = r.polarity ∧ ¬ (old = .sender ∧ new = .switch) then r.count else 0 := by
  refine ⟨(changeMode_level ..).trans (by rw [setPolarity_level]), (changeMode_count ..).trans ?_⟩
  rw [setPolarity_count]
  by_cases same : q = r.polarity <;> by_cases switches : old = .sender ∧ new = .switch <;> simp [same, switches]

end

/-- Settles O38: each input's record takes its polarity, and the switch inputs the change of their pin's mode. -/
theorem inputcfgStoresPolarities : Obligations.InputcfgStoresPolarities := by
  intro s rest p h eight limp
  have length : ReqKind.inputcfg.lengthOk p.length = true := by
    rw [eight]
    rfl
  constructor
  · intro ps m0 m1 polarities first second changes becomesSwitch
    generalize stored : s.inputs.configured ps m0 m1 = x
    have polarity (i : InputId) : (x.recs.get i).polarity = ps.get i := by
      rw [← stored]
      cases i
      case sw0 => exact (changeMode_polarity ..).trans (setPolarity_polarity ..)
      case sw1 => exact (changeMode_polarity ..).trans (setPolarity_polarity ..)
      all_goals exact setPolarity_polarity ..
    have answer : inputcfgOwner p (s.popInbound rest) =
        { state := { s.popInbound rest with inputs := x }, code := .ok
          data := State.inputData { s with inputs := x } ++ b1 (yesNo s.inputs.earthPositive) ++ b1 (State.levelBits { s with inputs := x }) } := by
      rw [inputcfgOwner, polarities, first, second, ← stored]
      rfl
    have echo : State.inputData { s with inputs := x } = p := by
      obtain ⟨c0, c1, c2, c3, c4, c5⟩ := polaritiesOf_codes polarities
      have modes : x.senseMode = #v[m0, m1] := by rw [← stored]; rfl
      have laidOut : State.inputData { s with inputs := x } =
          b1 (u8 p 0) ++ b1 (u8 p 1) ++ b1 (u8 p 2) ++ b1 (u8 p 3) ++ b1 (u8 p 4) ++ b1 (u8 p 5) ++ b1 (u8 p 6) ++ b1 (u8 p 7) := by
        rw [← c0, ← c1, ← c2, ← c3, ← c4, ← c5, ← senseModeOfCode_code first, ← senseModeOfCode_code second]
        simp only [State.inputData, allInputs, List.flatMap_cons, List.flatMap_nil, State.inRec, polarity, State.senseModeOf, modes]
        rfl
      rw [laidOut]
      match p, eight with
      | [_, _, _, _, _, _, _, _], _ => simp [u8, b1_toNat]
    refine ⟨_, _, config_answers (k := .inputcfg) h length limp answer rfl, rfl, ?_, ?_, rfl, ?_, ?_, ?_, polarity, fun i => ?_⟩
    · rw [echo]
      simp [eight]
    · rw [echo]
      cases s.inputs.earthPositive <;> rfl
    · rw [← stored]
      rfl
    · rw [← stored]
      rfl
    · rw [← stored]
      rfl
    · rw [← stored]
      cases i
      case sw0 =>
        obtain ⟨level, count⟩ := switchInput_configured (s.inRec .sw0) ps.sw0 (s.senseModeOf 0) m0
        exact ⟨level.trans (by simp [changes]), count.trans (by simp [becomesSwitch, PerInput.get])⟩
      case sw1 =>
        obtain ⟨level, count⟩ := switchInput_configured (s.inRec .sw1) ps.sw1 (s.senseModeOf 1) m1
        exact ⟨level.trans (by simp [changes]), count.trans (by simp [becomesSwitch, PerInput.get])⟩
      all_goals
        refine ⟨(setPolarity_level ..).trans ?_, (setPolarity_count ..).trans ?_⟩
        · simp [changes]
          rfl
        · simp [becomesSwitch]
          rfl
  · intro bad
    refine config_refused (k := .inputcfg) h length limp ?_
    rw [inputcfgOwner]
    rcases bad with bad | bad | bad
    · rw [bad]
    · rw [senseModeOfCode_none bad]
      cases polaritiesOf p <;> rfl
    · rw [senseModeOfCode_none bad]
      cases polaritiesOf p <;> cases senseModeOfCode (u8 p 6) <;> rfl

end Sys2Proof.Machine
end

section
/-! PROOF. The courtesy lamp and limp lighting (O59), the passage of time (O60). -/

namespace Sys2Proof.Machine

/-! ### The courtesy lamp and limp lighting -/

theorem exec_dwellEnd (s : State) :
    exec .dwellEnd s = s.live (fun s =>
      if s.resolver.courtesy.phase = .dwell then (s.setCourtesy (s.resolver.courtesy.dwellEnds s.interiorLight)).settle else s) := rfl

theorem exec_fadeStep (s : State) :
    exec .fadeStep s = s.live (fun s =>
      if s.resolver.courtesy.phase = .fade then (s.setCourtesy s.resolver.courtesy.fadeStep).settle else s) := rfl

theorem exec_limpLightingBegin (s : State) :
    exec .limpLightingBegin s = s.live (fun s =>
      if s.op.state = .limp ∧ s.level .ign ∧ s.op.limpLighting = false ∧ 2000 ≤ s.op.silenceCount then s.beginLimpLighting.settle
      else s) := rfl

/-- The INTERIOR list holds a LIGHT channel exactly where a channel above 3 serves it. -/
theorem interiorLight_iff {s : State} : s.interiorLight = true ↔ ∃ ch : LampId, s.serving ch = some .interior ∧ 4 ≤ ch.val := by
  simp only [State.interiorLight, State.channelsOf, List.any_filter, List.any_eq_true, mem_allLamps, true_and, Bool.and_eq_true,
    beq_iff_eq]
  simp [isHeavy]

/-- Settling after the courtesy record is replaced keeps everything but that record. -/
theorem settle_setCourtesy (s : State) (c : Courtesy) :
    (s.setCourtesy c).settle.resolver.courtesy = c ∧
      SettleKeeps { s with resolver := { s.resolver with courtesy := (s.setCourtesy c).settle.resolver.courtesy } } (s.setCourtesy c).settle ∧
      Consistent (s.setCourtesy c).settle := by
  have keeps := settle_keeps (s.setCourtesy c)
  have consistent := settle_consistent (s.setCourtesy c)
  have courtesy : (s.setCourtesy c).settle.resolver.courtesy = c := keeps.courtesy
  refine ⟨courtesy, ?_, consistent⟩
  rw [courtesy]
  exact keeps

/-- A function of class 0 that no scene names and the ignition gate lets through holds its starting value. -/
theorem resolve_ungated {s : State} {f : Fn} (lighting : f = .dip ∨ f = .side) (scenes : s.resolver.scenes = [])
    (cls : (s.fnRec f).cls = 0) (gate : s.ignitionGateOpen f = true) : (s.resolve f).1 = s.startValue f := by
  have scene : s.sceneValue f = s.startValue f := by
    rw [State.sceneValue, scenes]
    split <;> rfl
  rcases lighting with rfl | rfl <;>
    simp [State.resolve, State.gatedValue, State.openValue, gate, cls, shedAffects, scene]

/-- Settles O59: each row writes the courtesy record or the controller's flags and settles the cause. -/
theorem courtesyAndLimpLighting : Obligations.CourtesyAndLimpLighting := by
  refine ⟨fun s running dwell => ?_, fun s running fade => ?_, fun s running limp ign dark => ⟨fun silent => ?_, fun heard => ?_⟩⟩
  · have light := interiorLight_iff (s := s)
    rw [exec_runs running (exec_dwellEnd s), if_pos dwell]
    generalize s.interiorLight = lit at light
    obtain ⟨courtesy, keeps, consistent⟩ := settle_setCourtesy s (s.resolver.courtesy.dwellEnds lit)
    refine ⟨_, rfl, fun served => courtesy.trans ?_, fun heavy => courtesy.trans ?_, keeps, consistent⟩
    · rw [light.mpr served]
      rfl
    · have none : lit = false := by
        rw [Bool.eq_false_iff]
        intro lit
        obtain ⟨ch, serves, high⟩ := light.mp lit
        exact absurd (heavy ch serves) (by omega)
      rw [none]
      rfl
  · rw [exec_runs running (exec_fadeStep s), if_pos fade]
    obtain ⟨courtesy, keeps, consistent⟩ := settle_setCourtesy s s.resolver.courtesy.fadeStep
    exact ⟨_, rfl, courtesy, keeps, consistent⟩
  · rw [exec_runs running (exec_limpLightingBegin s), if_pos ⟨limp, ign, dark, silent⟩]
    have keeps := settle_keeps s.beginLimpLighting
    have consistent := settle_consistent s.beginLimpLighting
    generalize s.beginLimpLighting.settle = t at keeps consistent
    have op : t.op = { s.op with limpLighting := true, limpLatch := true } := keeps.op
    refine ⟨t, rfl, op, fun f lighting scenes cls => ?_, ?_, consistent⟩
    · have level : t.level .ign = true := (level_congr keeps.inputs .ign).trans ign
      have start : t.startValue f = 100 := by
        rw [State.startValue, op]
        simp [limp, lighting]
      rw [(consistent.resolved f).1, resolve_ungated lighting (keeps.scenes.trans scenes) ((keeps.fns f).1.trans cls), start]
      rw [State.ignitionGateOpen, op]
      rcases lighting with rfl | rfl <;> simp [limp, level]
    · rw [op]
      exact keeps
  · rw [exec_runs running (exec_limpLightingBegin s), if_neg (by omega)]

/-! ### 10 ms -/

/-- Settles O60: each record's timers move by themselves. -/
theorem ticksMoveTimeOn : Obligations.TicksMoveTimeOn := by
  intro s running
  refine ⟨s.tick, exec_runs (k := State.tick) running rfl, rfl, fun ch => ?_, rfl, rfl, rfl, rfl, rfl, rfl, rfl, rfl, rfl, rfl⟩
  have record : s.tick.lamp ch = (s.lamp ch).tick := Vector.getElem_map ..
  rw [record]
  cases state : (s.lamp ch).state <;> simp [LampRec.tick, state, LampState.conducts]

end Sys2Proof.Machine
end

section
/-! PROOF. Entry to SLEEP (O44), the requests and the edge that lead to WATCH and PARK (O21), the scenes that leave the list (O27). -/

namespace Sys2Proof.Machine

/-! ### Changes of state that do not leave DRIVE -/

/-- A change of state that does not leave DRIVE writes the state and raises STATE. -/
theorem enterState_awake {s u : State} {new : OpState} (h : s.op.state ≠ .drive ∨ new = .drive) (report : s.report = u.report) :
    s.enterState new = { s with op := { s.op with state := new }, report := (u.raise .state 0 new.code).report } := by
  have stays : ¬ (s.op.state = .drive ∧ new ≠ .drive) := by tauto
  unfold State.enterState
  dsimp only
  rw [if_neg stays, raise_withOp, raise_report, raise_report_congr report]

/-- A wake raises WOKEN and then STATE; from SLEEP sampling begins new intervals. -/
theorem wakeTo_awake {s u : State} {new : OpState} (cause : WakeCause) (awake : s.op.state ≠ .drive) (watch : s.op.state ≠ .sleep)
    (report : s.report = u.report) :
    s.wakeTo new cause =
      { s with op := { s.op with state := new, sleepRequested := false, silenceTimer := 0 }
               report := ((u.raise .woken 0 cause.code).raise .state 0 new.code).report } := by
  unfold State.wakeTo
  dsimp only
  rw [if_neg watch, raise_withOp, raise_report, raise_report_congr report]
  exact enterState_awake (.inl (by exact awake)) (by rfl)

theorem wakeTo_asleep {s u : State} {new : OpState} (cause : WakeCause) (asleep : s.op.state = .sleep) (report : s.report = u.report) :
    s.wakeTo new cause =
      { s with bank := { s.bank with intervalOpen := false, averagesReady := false }
               op := { s.op with state := new, sleepRequested := false, silenceTimer := 0, window := none }
               report := ((u.raise .woken 0 cause.code).raise .state 0 new.code).report } := by
  unfold State.wakeTo State.resumeSampling
  dsimp only
  rw [if_pos asleep, raise_withOp, raise_report, raise_report_congr (t := u) (by exact report)]
  exact enterState_awake (.inl (by simp [asleep])) (by rfl)

/-! ### SLEEP, WAKE and the edge of RX -/

theorem exec_rxWake (s : State) : exec .rxWake s = s.live (fun s => if s.op.state = .sleep then s.rxWakes else s) := rfl

/-- What settling keeps, read with the record and the link that the settled part holds. -/
theorem settled_keeps {u t : State} (k : SettleKeeps u t) : SettleKeeps { u with op := t.op, report := t.report } t := by
  rw [k.op, k.report]
  exact k

/-- Settles O21: each writes the controller's record and the report, and settles. -/
theorem sleepRequestsAndWakesToPark : Obligations.SleepRequestsAndWakesToPark := by
  refine ⟨fun s rest h park => ?_, fun s rest h watch => ?_, fun s running asleep closed => ?_⟩
  · have answer : sleepOwner [] (s.popInbound rest) =
        { state := State.settle { s.popInbound rest with
            op := { s.op with state := .watch, sleepRequested := true }, report := (s.raise .state 0 3).report }
          code := .ok, data := [] } := by
      have parked : (s.popInbound rest).op.state = .park := park
      simp only [sleepOwner, parked, State.requestSleep]
      rw [enterState_awake (u := s) (.inl (by simp)) (by rfl)]
      rfl
    obtain ⟨t, run, value, keeps, consistent⟩ := request_settles (k := .sleep) h rfl answer rfl
    refine ⟨t, run, keeps.op, by rw [value]; rfl, keeps.report, ?_, consistent⟩
    exact settled_keeps keeps
  · have answer : wakeOwner [] (s.popInbound rest) =
        { state := State.settle { s.popInbound rest with
            op := { s.op with state := .park, sleepRequested := false, silenceTimer := 0 }
            report := ((s.raise .woken 0 3).raise .state 0 2).report }
          code := .ok, data := [] } := by
      have watching : (s.popInbound rest).op.state = .watch := watch
      simp only [wakeOwner, watching]
      rw [wakeTo_awake (u := s) _ (by simp [watch]) (by simp [watch]) (by rfl)]
      rfl
    obtain ⟨t, run, value, keeps, consistent⟩ := request_settles (k := .wake) h rfl answer rfl
    refine ⟨t, run, keeps.op, by rw [value]; rfl, keeps.report, ?_, consistent⟩
    exact settled_keeps keeps
  · have woken : s.rxWakes = State.settle { s with
        link := { s.link with receiverPaused := true }
        bank := { s.bank with intervalOpen := false, averagesReady := false }
        op := { s.op with state := .park, sleepRequested := false, silenceTimer := 0 }
        report := ((s.raise .woken 0 4).raise .state 0 2).report } := by
      unfold State.rxWakes
      dsimp only
      rw [closed, wakeTo_asleep (u := s) _ (by exact asleep) (by rfl)]
      have op : s.op = { s.op with window := none } := by rw [← closed]
      rw [op]
      rfl
    rw [exec_runs running (exec_rxWake s), if_pos asleep, woken]
    refine ⟨_, rfl, ?_⟩
    have keeps := settle_keeps { s with
        link := { s.link with receiverPaused := true }
        bank := { s.bank with intervalOpen := false, averagesReady := false }
        op := { s.op with state := .park, sleepRequested := false, silenceTimer := 0 }
        report := ((s.raise .woken 0 4).raise .state 0 2).report }
    have consistent := settle_consistent { s with
        link := { s.link with receiverPaused := true }
        bank := { s.bank with intervalOpen := false, averagesReady := false }
        op := { s.op with state := .park, sleepRequested := false, silenceTimer := 0 }
        report := ((s.raise .woken 0 4).raise .state 0 2).report }
    generalize State.settle _ = t at keeps consistent
    refine ⟨keeps.op, keeps.link, keeps.report, ?_, consistent⟩
    rw [keeps.link]
    exact settled_keeps keeps

/-! ### Entry to SLEEP (R151, R152) -/

theorem exec_enterSleep (s : State) : exec .enterSleep s = s.live (fun s => if s.maySleep then s.goToSleep else s) := rfl

/-- Clearing the averages of a list of channels writes each of them and no other. -/
theorem clearMeas_fold (l : List ChanId) (s : State) :
    (∀ ch, (l.foldl State.clearMeas s).measOf ch =
      if ch ∈ l then { s.measOf ch with average := 0, slotSum := 0, slotLast := 0 } else s.measOf ch) ∧
      l.foldl State.clearMeas s = { s with bank := { s.bank with meas := (l.foldl State.clearMeas s).bank.meas } } := by
  induction l generalizing s with
  | nil => exact ⟨fun _ => by simp, rfl⟩
  | cons a l ih =>
    obtain ⟨cleared, rest⟩ := ih (s.clearMeas a)
    refine ⟨fun ch => ?_, rest⟩
    rw [List.foldl_cons, cleared, State.clearMeas, State.measOf_setMeas]
    by_cases here : ch = a <;> simp [here]

/-- Entry to SLEEP from WATCH: STATE, the intervals under way discarded, every average 0. -/
theorem goToSleep_eq {s : State} (watch : s.op.state = .watch) :
    (∀ ch, s.goToSleep.measOf ch = { last := (s.measOf ch).last, average := 0, slotSum := 0, slotLast := 0 }) ∧
      (∀ g, s.goToSleep.gauge g = { s.gauge g with samples := [] }) ∧
      s.goToSleep = { s with
        bank := { s.bank with meas := s.goToSleep.bank.meas, intervalOpen := false, averagesReady := false }
        gauges := { s.gauges with gauges := s.goToSleep.gauges.gauges }
        supply := { s.supply with samples := [] }
        op := { s.op with state := .sleep, window := none }
        report := (s.raise .state 0 4).report } := by
  have entered := enterState_awake (s := s) (u := s) (new := .sleep) (.inl (by simp [watch])) rfl
  obtain ⟨meas, measRest⟩ := clearMeas_fold allChans (s.enterState .sleep)
  have everyChan (ch : ChanId) : ch ∈ allChans := by revert ch; decide
  obtain ⟨gauges, gaugesRest⟩ := gauges_fold (fun x => { x with samples := [] }) (allChans.foldl State.clearMeas (s.enterState .sleep))
  unfold State.goToSleep
  dsimp only
  generalize allChans.foldl State.clearMeas (s.enterState .sleep) = u at meas measRest gauges gaugesRest
  change ∀ g, (allGauges.foldl State.clearSamples u).gauge g = _ at gauges
  change allGauges.foldl State.clearSamples u = _ at gaugesRest
  generalize allGauges.foldl State.clearSamples u = v at gauges gaugesRest
  have vMeas : v.bank.meas = u.bank.meas := by rw [gaugesRest]
  have uGauges : u.gauges = s.gauges := by rw [measRest, entered]
  refine ⟨fun ch => ?_, fun g => (gauges g).trans ?_, ?_⟩
  · have same : v.measOf ch = u.measOf ch := by rw [State.measOf, vMeas]; rfl
    have kept : (s.enterState .sleep).measOf ch = s.measOf ch := by rw [entered]; rfl
    change v.measOf ch = _
    rw [same, meas, if_pos (everyChan ch), kept]
  · rw [State.gauge, uGauges]
    rfl
  · rw [gaugesRest, measRest, entered]
    rfl

/-- Settles O44. -/
theorem nothingOnEntersSleep : Obligations.NothingOnEntersSleep := by
  intro s running watch dark idle noDwell noFade heard hunting silent waiting
  have may : s.maySleep = true := by
    simp [State.maySleep, State.nothingOn, Link.quiet, watch, dark, idle, noDwell, noFade, heard, hunting, silent, waiting]
  rw [exec_runs running (exec_enterSleep s), if_pos may]
  obtain ⟨meas, gauges, rest⟩ := goToSleep_eq watch
  generalize s.goToSleep = t at meas gauges rest
  have op : t.op = { s.op with state := .sleep, window := none } := by rw [rest]
  refine ⟨t, rfl, ?_, ?_, meas, gauges, ?_, ?_⟩
  · simp [State.sref, op]
  · simp [State.attn, op]
  · rw [rest]
  · rw [rest]

/-! ### Scenes that leave the list (R59, R60, R153) -/

theorem exec_sceneExpiry (id : Byte) (s : State) :
    exec (.sceneExpiry id) s = s.live (fun s => if expiringScene s.resolver.scenes id then s.expireScene id else s) := rfl

/-- Resolution does not read the report. -/
theorem resolveAll_withReport (s : State) (r : Report) : State.resolveAll { s with report := r } = { s.resolveAll with report := r } := by
  unfold State.resolveAll
  generalize allFns = l
  induction l generalizing s with
  | nil => rfl
  | cons f l ih =>
    have here : State.resolveFn { s with report := r } f = { s.resolveFn f with report := r } := by cases f <;> rfl
    rw [List.foldl_cons, List.foldl_cons, here, ih]

theorem demandRises_iff {s : State} : s.demandRises = true ↔ ∃ ch, (s.wantOf ch).1 ≠ 0 := by
  simp [State.demandRises, mem_allLamps]

/-- What a level change hands to its readers leaves the scenes. -/
theorem handLevel_scenes (s : State) (i : InputId) (asserted : Bool) : (s.handLevel i asserted).resolver.scenes = s.resolver.scenes := by
  have wake (s : State) (new : OpState) (cause : WakeCause) : (s.wakeTo new cause).resolver = s.resolver := by
    unfold State.wakeTo State.resumeSampling
    split <;> simp
  have watch (s : State) (cause : WakeCause) : (s.watchWake asserted cause).resolver = s.resolver := by
    unfold State.watchWake
    split
    · exact wake ..
    · rfl
  cases i
  case ign =>
    simp only [State.handLevel, State.ignLevel, State.beginLimpLighting, State.endLimpLighting]
    split <;> (repeat' split) <;> simp [wake]
  case haz => rw [State.handLevel, watch]
  case door =>
    rw [State.handLevel, watch]
    unfold State.courtesyDoor
    dsimp only
    repeat' split
    all_goals rfl
  all_goals rfl

theorem deliverLevel_scenes (s : State) (i : InputId) (asserted : Bool) :
    (s.deliverLevel i asserted).resolver.scenes = s.resolver.scenes := by
  have handed : ((s.storeLevel i asserted).handLevel i asserted).resolver.scenes = s.resolver.scenes := by
    rw [handLevel_scenes, State.storeLevel, raise_resolver]
    rfl
  unfold State.deliverLevel
  dsimp only
  split
  · exact handed
  · exact (settle_keeps _).scenes.trans handed

theorem closeWindow_scenes (s : State) (w : Option Window) : (s.closeWindow w).resolver.scenes = s.resolver.scenes := by
  match w with
  | none => rfl
  | some w =>
    have counts (l : List InputId) (u : State) :
        (l.foldl (fun s i => s.setInRec i { s.inRec i with count := w.counts.get i }) u).resolver.scenes = u.resolver.scenes := by
      induction l generalizing u with
      | nil => rfl
      | cons i l ih => exact ih _
    refine (counts ..).trans ?_
    unfold State.deliverHeld
    generalize w.held = held
    induction held generalizing s with
    | nil => rfl
    | cons x held ih => exact (ih _).trans (deliverLevel_scenes ..)

theorem returnToWatch_scenes (s : State) : s.returnToWatch.resolver.scenes = s.resolver.scenes := by
  rw [State.returnToWatch, closeWindow_scenes, State.backToWatch, (settle_keeps _).scenes, enterState_resolver]
  rfl

/-- The return to WATCH from SLEEP: sampling begins new intervals, STATE is raised, and the cause is settled. -/
theorem backToWatch_eq {s u : State} (asleep : s.op.state = .sleep) (report : s.report = u.report) :
    s.backToWatch = State.settle { s with
      bank := { s.bank with intervalOpen := false, averagesReady := false }
      op := { s.op with state := .watch, window := none }
      report := (u.raise .state 0 3).report } := by
  unfold State.backToWatch
  rw [enterState_awake (.inl (by simp [State.resumeSampling, asleep])) (by exact report)]
  rfl

theorem returnToWatch_closed {s u : State} (closed : s.op.window = none) (asleep : s.op.state = .sleep) (report : s.report = u.report) :
    s.returnToWatch = State.settle { s with
      bank := { s.bank with intervalOpen := false, averagesReady := false }
      op := { s.op with state := .watch, window := none }
      report := (u.raise .state 0 3).report } := by
  unfold State.returnToWatch
  rw [closed]
  exact backToWatch_eq asleep report

/-- A scene that expires: the list without it, SCENE_END, and in SLEEP the return to WATCH where a lamp lights. -/
theorem expireScene_eq {s : State} {id : Byte} {scenes : List Scene} {r : Report} (list : withoutScene s.resolver.scenes id = scenes)
    (report : (s.raise .sceneEnd id.toNat 0).report = r) :
    s.expireScene id = if s.op.state = .sleep ∧ ∃ ch, ((s.setScenes scenes).resolveAll.wantOf ch).1 ≠ 0
      then State.returnToWatch { s.setScenes scenes with report := r } else State.settle { s.setScenes scenes with report := r } := by
  have raised : (s.setScenes scenes).raise .sceneEnd id.toNat 0 = { s.setScenes scenes with report := r } := by
    rw [raise_report, raise_report_congr (s := s.setScenes scenes) (t := s) rfl, report]
  have rises : (State.resolveAll { s.setScenes scenes with report := r }).demandRises = true ↔
      ∃ ch, ((s.setScenes scenes).resolveAll.wantOf ch).1 ≠ 0 := by
    rw [resolveAll_withReport, demandRises_iff]
    generalize (s.setScenes scenes).resolveAll = u
    rfl
  unfold State.expireScene
  dsimp only
  rw [list, raised]
  simp only [rises]

/-- Settles O27: the list without the scene is settled, with SCENE_END and, where it lights a lamp of a sleeping part, the return to
WATCH. -/
theorem scenesLeaveTheList : Obligations.ScenesLeaveTheList := by
  refine ⟨fun s rest id h outside => ⟨fun present => ?_, fun absent => ?_⟩, fun s id running expiring => ?_⟩
  · have answer : notInLimp scenedropOwner [id] (s.popInbound rest) =
        { state := ((s.popInbound rest).setScenes (withoutScene s.resolver.scenes id)).settle, code := .ok, data := [] } := by
      rw [notInLimp_eq outside, scenedropOwner]
      exact if_pos present
    obtain ⟨t, run, value, keeps, consistent⟩ := request_settles (k := .scenedrop) h rfl answer rfl
    have scenes : t.resolver.scenes = withoutScene s.resolver.scenes id := keeps.scenes
    refine ⟨t, run, scenes, by rw [value]; rfl, ?_, consistent⟩
    rw [scenes]
    exact keeps
  · refine request_reply (k := .scenedrop) h rfl ?_
    rw [notInLimp_eq outside, scenedropOwner]
    refine (if_neg ?_).trans rfl
    exact Bool.eq_false_iff.mp absent
  · rw [exec_runs running (exec_sceneExpiry id s), if_pos expiring]
    generalize list : withoutScene s.resolver.scenes id = scenes
    generalize report : (s.raise .sceneEnd id.toNat 0).report = r
    have left : s.expireScene id = if s.op.state = .sleep ∧ ∃ ch, ((s.setScenes scenes).resolveAll.wantOf ch).1 ≠ 0
        then State.returnToWatch { s.setScenes scenes with report := r } else State.settle { s.setScenes scenes with report := r } :=
      expireScene_eq list report
    have filtered : s.resolver.scenes.filter (fun sc => sc.id != id) = scenes := list
    rw [left, filtered]
    split
    · rename_i lit
      obtain ⟨asleep, lights⟩ := lit
      have listed : (State.returnToWatch { s.setScenes scenes with report := r }).resolver.scenes = scenes := returnToWatch_scenes _
      refine ⟨_, rfl, listed, fun awake => absurd asleep awake, fun _ closed => ?_⟩
      rw [listed]
      have woken : State.returnToWatch { s.setScenes scenes with report := r } = State.settle { s.setScenes scenes with
          bank := { s.bank with intervalOpen := false, averagesReady := false }
          op := { s.op with state := .watch, window := none }
          report := ((s.raise .sceneEnd id.toNat 0).raise .state 0 3).report } :=
        returnToWatch_closed (by exact closed) (by exact asleep) report.symm
      have keeps := settle_keeps { s.setScenes scenes with
          bank := { s.bank with intervalOpen := false, averagesReady := false }
          op := { s.op with state := .watch, window := none }
          report := ((s.raise .sceneEnd id.toNat 0).raise .state 0 3).report }
      have consistent := settle_consistent { s.setScenes scenes with
          bank := { s.bank with intervalOpen := false, averagesReady := false }
          op := { s.op with state := .watch, window := none }
          report := ((s.raise .sceneEnd id.toNat 0).raise .state 0 3).report }
      rw [← woken] at keeps consistent
      refine ⟨fun _ => ⟨keeps.report, ?_⟩, fun dark => absurd lights dark, consistent⟩
      rw [keeps.report]
      have op : { s.op with state := .watch, window := none } = { s.op with state := .watch } := by rw [← closed]
      rw [op] at keeps
      exact keeps
    · rename_i unlit
      have keeps := settle_keeps { s.setScenes scenes with report := r }
      have consistent := settle_consistent { s.setScenes scenes with report := r }
      generalize State.settle { s.setScenes scenes with report := r } = t at keeps consistent
      have listed : t.resolver.scenes = scenes := keeps.scenes
      have written : SettleKeeps { s.setScenes t.resolver.scenes with report := t.report } t := by
        rw [listed, keeps.report]
        exact keeps
      refine ⟨t, rfl, listed, fun _ => ⟨keeps.report, written, consistent⟩, fun asleep _ => ?_⟩
      rw [listed]
      exact ⟨fun lights => absurd ⟨asleep, lights⟩ unlit, fun _ => ⟨keeps.report, listed ▸ written⟩, consistent⟩

end Sys2Proof.Machine
end

section
/-! PROOF. The marks that form the averages (O47), the lamp timers (O49), the fan's timers and stalls (O51). -/

namespace Sys2Proof.Machine

/-! ### Marks of the bank (R4) -/

theorem exec_channelAverage (s : State) : exec .channelAverage s = s.live State.averageMark := rfl

/-- Settles O47: the mark closes the interval of every channel, or begins one. -/
theorem marksFormTheAverages : Obligations.MarksFormTheAverages := by
  intro s running awake
  rw [exec_runs running (exec_channelAverage s), State.averageMark, if_neg awake]
  refine ⟨fun opened => ?_, fun closed => ?_⟩
  · rw [if_pos opened]
    refine ⟨_, rfl, fun ch => ?_, rfl⟩
    refine (Vector.getElem_map ..).trans ?_
    simp only [Meas.close, beq_iff_eq]
    rfl
  · rw [if_neg (by simp [closed])]

/-! ### The lamp timers (R10, R13, R14) -/

theorem exec_inrushEnd (ch : LampId) (s : State) :
    exec (.inrushEnd ch) s = s.live (fun s =>
      if (s.lamp ch).state = .inrush then (s.setLamp ch (s.lamp ch).inrushEnds).arbitrate else s) := rfl

theorem exec_retryExpiry (ch : LampId) (s : State) :
    exec (.retryExpiry ch) s = s.live (fun s =>
      if (s.lamp ch).state = .tripped then
        (s.setLamp ch ((s.lamp ch).retryEnds s.supply.hold (s.signalling ch))).arbitrate
      else s) := rfl

theorem exec_tripForgiveness (ch : LampId) (s : State) :
    exec (.tripForgiveness ch) s = s.live (fun s =>
      if (s.lamp ch).state.conducts then s.setLamp ch { s.lamp ch with retriesUsed := 0, onTime := 10000 } else s) := rfl

theorem conducts_iff {c : LampRec} : c.state.conducts = true ↔ c.state = .inrush ∨ c.state = .on := by
  cases c.state <;> simp [LampState.conducts]

/-- Settles O49: each timer writes the record of its channel, and the arbiter acts. -/
theorem lampTimersRunOut : Obligations.LampTimersRunOut := by
  refine ⟨fun s ch running inrush => ?_, fun s ch running tripped => ?_, fun s ch running conducts => ?_⟩
  · rw [exec_runs running (exec_inrushEnd ch s), if_pos inrush]
    exact ⟨_, rfl, arbitrate_grantPass _⟩
  · rw [exec_runs running (exec_retryExpiry ch s), if_pos tripped]
    have record : (s.lamp ch).retryEnds s.supply.hold (s.signalling ch) =
        (if (s.lamp ch).demand = 0 then
          { s.lamp ch with retryTimer := 0, state := .off, offReason := (s.lamp ch).demandReason }
        else if s.supply.hold = true then { s.lamp ch with retryTimer := 0, state := .off, offReason := .hold }
        else if s.signalling ch = true then
          { s.lamp ch with retryTimer := 0, state := .inrush, granted := false, inrushTimer := (s.lamp ch).cfg.inrushMs,
                           overCount := 0, offReason := .none }
        else { s.lamp ch with retryTimer := 0, state := .queued, offReason := .none }) := rfl
    rw [record]
    exact ⟨_, rfl, arbitrate_grantPass _⟩
  · rw [exec_runs running (exec_tripForgiveness ch s), if_pos (conducts_iff.mpr conducts)]

/-! ### The fan (R93 to R99) -/

theorem exec_kickEnd (s : State) :
    exec .kickEnd s = s.live (fun s => if s.fan.state = .kick then { s with fan := s.fan.kickEnds }.arbitrate else s) := rfl

theorem exec_rampTimerExpiry (s : State) :
    exec .rampTimerExpiry s = s.live (fun s => if s.fan.state = .ramping then { s with fan := s.fan.rampExpiry } else s) := rfl

theorem exec_stallFound (milliamps : Nat) (s : State) :
    exec (.stallFound milliamps) s = s.live (fun s => if s.fan.stalls milliamps then (s.fanSample milliamps).arbitrate else s) := rfl

theorem exec_stallWaitEnd (s : State) :
    exec .stallWaitEnd s = s.live (fun s =>
      if s.fan.state = .stallWait then { s with fan := s.fan.waitEnds s.supply.hold }.arbitrate else s) := rfl

theorem exec_fanForgiveness (s : State) :
    exec .fanForgiveness s = s.live (fun s =>
      if s.fan.state = .running then { s with fan := { s.fan with retriesUsed := 0, runningTime := 30000 } } else s) := rfl

/-- The fan on its own in an empty queue is granted as soon as it waits (R31, R93). -/
theorem arbitrate_fanAlone {s : State} (waiting : s.fan.state = .waiting) (queue : s.queue = [])
    (lamps : ∀ ch, (s.lamp ch).state ≠ .queued) (room : s.allowanceInUse ≤ 2) :
    s.arbitrate = { s with fan := s.fan.takeGrant } := by
  have removed : s.removalPass = s := by
    have still : s.stillQueued = [] := by rw [State.stillQueued, queue]; rfl
    rw [State.removalPass, still]
    exact congrArg (fun q => { s with queue := q }) queue.symm
  have waits (ch : Fin 15) : s.waits ch = decide (ch = 14) := by
    unfold State.waits
    split
    · rename_i lamp
      have other : ch ≠ 14 := by
        rintro rfl
        exact absurd lamp (by decide)
      simp [lamps, other]
    · have fan : ch = 14 := by omega
      simp [waiting, fan]
  have joined : ∃ cls, s.joinedQueue = [{ ch := 14, cls := cls }] := by
    have still : s.stillQueued = [] := by rw [State.stillQueued, queue]; rfl
    have new : s.newEntries = [{ ch := 14, cls := s.joinClass 14 }] := by
      rw [State.newEntries, still]
      simp only [waits]
      rfl
    refine ⟨s.joinClass 14, ?_⟩
    rw [State.joinedQueue, still, new]
    cases zero : (QEntry.classZero { ch := 14, cls := s.joinClass 14 }) <;> simp [zero]
  obtain ⟨cls, joined⟩ := joined
  have fits : startWeight 14 ≤ 4 - s.allowanceInUse := by
    have : startWeight 14 = 2 := rfl
    omega
  rw [State.arbitrate, removed, State.joinPass, joined, State.grantPass, if_pos fits]
  change { s with fan := s.fan.takeGrant, queue := [] } = _
  rw [← queue]

theorem rampExpiry_eq (f : Fan) : f.rampExpiry =
    if f.applied ≤ f.target + f.settings.slew ∧ f.target ≤ f.applied + f.settings.slew then
      { f with state := .running, applied := f.target, rampTimer := none, runningTime := 0 }
    else if f.applied < f.target then { f with applied := f.applied + f.settings.slew, rampTimer := some 100 }
    else { f with applied := f.applied - f.settings.slew, rampTimer := some 100 } := by
  have near : (f.applied - f.target) + (f.target - f.applied) ≤ f.settings.slew ↔
      f.applied ≤ f.target + f.settings.slew ∧ f.target ≤ f.applied + f.settings.slew := by omega
  unfold Fan.rampExpiry
  simp only [near]
  split
  · rfl
  · split <;> rfl

/-- A sample stalls a conducting fan at or above 30,000 mA, or out of KICK once the stall timer runs out (R97). -/
theorem stalls_iff {f : Fan} {milliamps : Nat} : f.stalls milliamps = true ↔
    f.state.conducts = true ∧ f.applied ≠ 0 ∧
      (30000 ≤ milliamps ∨ (f.state ≠ .kick ∧ f.settings.stallTime ≤ f.stallTimerAfter milliamps)) := by
  simp [Fan.stalls, Fan.driven, and_assoc]

/-- Raising an event writes the report, as it would on any part with the same report. -/
theorem raise_eq {s u : State} (report : s.report = u.report) (k : EventKind) (subject detail : Nat) :
    s.raise k subject detail = { s with report := (u.raise k subject detail).report } := by
  rw [raise_report, raise_report_congr report]

/-- A stalled fan: the events and the record. -/
theorem fanStalled_report (s : State) (milliamps : Nat) :
    s.fanStalled milliamps = { s with
      fan := s.fan.stalled
      report := if s.fan.retriesUsed < s.fan.settings.retryLimit then (s.raise .fanStall 14 milliamps).report
        else ((s.raise .fanStall 14 milliamps).raise .fanLockout 14 s.fan.retriesUsed).report } := by
  unfold State.fanStalled Fan.stalled
  dsimp only
  split
  · rw [raise_withFan, raise_report]
  · refine (raise_eq (u := s.raise .fanStall 14 milliamps) ?_ ..).trans ?_
    · exact raise_report_congr (by rfl) ..
    · rw [raise_report { s with fan := s.fan.stop }]

/-- A stored sample writes the measurement of its channel alone (R4). -/
theorem storeSample_stored (s : State) (ch : ChanId) (sample duty : Nat) :
    s.storeSample ch sample duty = { s with bank := { s.bank with meas := (s.storeSample ch sample duty).bank.meas } } ∧
      MeasStored s (s.storeSample ch sample duty) ch sample (sample * duty / 1000) := by
  have written (m : Meas) (c : ChanId) : (s.setMeas ch m).measOf c = if c = ch then m else s.measOf c := State.measOf_setMeas ..
  refine ⟨?_, fun c => ?_⟩
  · unfold State.storeSample
    dsimp only
    split <;> rfl
  · unfold State.storeSample
    by_cases interval : s.bank.intervalOpen = true <;> by_cases here : c = ch <;> simp [interval, written, here, slotValue]

/-- Measurements stored by one state stand stored in any that keeps its measurements. -/
theorem MeasStored.kept {s t u : State} {ch : ChanId} {sample slot : Nat} (h : MeasStored s t ch sample slot)
    (meas : u.bank.meas = t.bank.meas) : MeasStored s u ch sample slot := fun c => by
  rw [State.measOf, meas]
  exact h c

theorem arbitrate_meas (s : State) : s.arbitrate.bank.meas = s.bank.meas := (arbitrate_keeps s).meas

/-- Settles O51: each row writes the fan's record, and the arbiter acts where a grant may be given back or asked for. -/
theorem fanTimersAndStalls : Obligations.FanTimersAndStalls := by
  refine ⟨fun f => ⟨fun kick => if_neg kick, fun none => ?_⟩, fun s running wait some free queue lamps room => ?_, fun s running kick => ?_,
    fun s running ramping => ?_, fun s running wait => ?_, fun s running runs => ?_, fun s milliamps running driven due => ?_⟩
  · rw [Fan.takeGrant, if_pos none, Fan.enterRamping]
    by_cases target : f.target = 0
    · simp [target]
    · simp [target, Ne.symm target]
  · have waits : s.fan.waitEnds s.supply.hold = s.fan.startWaiting := if_pos ⟨some, free⟩
    have granted : State.arbitrate { s with fan := s.fan.startWaiting } = { s with fan := s.fan.startWaiting.takeGrant } :=
      arbitrate_fanAlone (s := { s with fan := s.fan.startWaiting }) rfl queue lamps room
    rw [exec_runs running (exec_stallWaitEnd s), if_pos wait, waits, granted]
    refine ⟨fun kick => ?_, fun none target => ?_⟩
    · rw [Fan.takeGrant, if_neg (by exact kick)]
      rfl
    · rw [Fan.takeGrant, if_pos (by exact none), Fan.enterRamping, if_neg (by exact Ne.symm target)]
      rfl
  · rw [exec_runs running (exec_kickEnd s), if_pos kick]
    refine ⟨_, rfl, ?_⟩
    have ends : s.fan.kickEnds = { s.fan with
        state := if s.fan.target = 1000 then .running else .ramping, applied := 1000, kickTimer := none
        rampTimer := if s.fan.target = 1000 then none else some 100, stallTimer := 0, runningTime := 0, granted := false } := by
      rw [Fan.kickEnds, Fan.enterRamping]
      by_cases target : s.fan.target = 1000
      · simp [target]
      · simp [target, Ne.symm target]
    rw [ends]
    exact arbitrate_grantPass _
  · rw [exec_runs running (exec_rampTimerExpiry s), if_pos ramping, rampExpiry_eq]
  · rw [exec_runs running (exec_stallWaitEnd s), if_pos wait]
    exact ⟨_, rfl, arbitrate_grantPass _⟩
  · rw [exec_runs running (exec_fanForgiveness s), if_pos runs]
  · have conducts : s.fan.state.conducts = true := by
      rcases due with ⟨kick, _⟩ | ⟨ramping | runs, _⟩
      · rw [kick]; rfl
      · rw [ramping]; rfl
      · rw [runs]; rfl
    have stalls : s.fan.stalls milliamps = true := by
      refine stalls_iff.mpr ⟨conducts, driven, ?_⟩
      rcases due with ⟨_, high⟩ | ⟨out, high | ⟨above, long⟩⟩
      · exact .inl high
      · exact .inl high
      · refine .inr ⟨?_, ?_⟩
        · rcases out with e | e <;> rw [e] <;> decide
        · rw [Fan.stallTimerAfter, if_pos above]
          exact long
    obtain ⟨stored, meas⟩ := storeSample_stored s fanChan milliamps s.fan.applied
    have sampled : s.fanSample milliamps = { s with
        bank := { s.bank with meas := (s.storeSample fanChan milliamps s.fan.applied).bank.meas }
        fan := s.fan.stalled
        report := if s.fan.retriesUsed < s.fan.settings.retryLimit then (s.raise .fanStall 14 milliamps).report
          else ((s.raise .fanStall 14 milliamps).raise .fanLockout 14 s.fan.retriesUsed).report } := by
      have takes : s.fan.driven = true := by simp [Fan.driven, conducts, driven]
      rw [State.fanSample, if_pos takes]
      generalize s.storeSample fanChan milliamps s.fan.applied = u at stored meas
      have fan : u.fan = s.fan := by rw [stored]
      have report : u.report = s.report := by rw [stored]
      rw [State.fanActs, fan, if_pos stalls, fanStalled_report, fan, raise_report_congr report,
        raise_report_congr (s := u.raise ..) (raise_report_congr report ..)]
      rw [stored]
    rw [exec_runs running (exec_stallFound milliamps s), if_pos stalls, sampled]
    refine ⟨_, rfl, meas.kept (arbitrate_meas _), fun left => ?_, fun spent => ?_⟩
    · rw [arbitrate_meas, Fan.stalled, if_pos left, if_pos left]
      exact arbitrate_grantPass _
    · rw [arbitrate_meas, Fan.stalled, if_neg (by omega), if_neg (by omega)]
      exact arbitrate_grantPass _

end Sys2Proof.Machine
end

section
/-! PROOF. The curve and the damping (O54). -/

namespace Sys2Proof.Machine

/-! ### Rounding (R113, R114) -/

/-- A quotient rounded to nearest has the numerator's sign and the rounded quotient of its size. -/
theorem roundAway_eq (n : Int) {d : Nat} (some : 0 < d) : roundAway n d = n.sign * (((2 * n.natAbs + d) / (2 * d) : Nat) : Int) := by
  unfold roundAway
  rcases lt_trichotomy n 0 with neg | rfl | pos
  · rw [if_pos neg, Int.sign_eq_neg_one_of_neg neg, neg_one_mul]
  · have none : (2 * (0 : Int).natAbs + d) / (2 * d) = 0 := Nat.div_eq_of_lt (by simp; omega)
    simp only [none]
    rfl
  · rw [if_neg (by omega), Int.sign_eq_one_of_pos pos, one_mul]

/-- The part `m` of `d` of a size, rounded, is at most the size. -/
theorem rounded_le {size m d : Nat} (part : m ≤ d) (some : 0 < d) : (2 * (size * m) + d) / (2 * d) ≤ size := by
  have scaled : size * m ≤ size * d := Nat.mul_le_mul_left _ part
  have split : (size + 1) * (2 * d) = 2 * (size * d) + 2 * d := by ring
  exact Nat.lt_succ_iff.mp ((Nat.div_lt_iff_lt_mul (by omega)).mpr (by rw [split]; omega))

/-! ### The curve (R113) -/

/-- Beyond points at or below R the curve goes on from the last of them. -/
theorem curveFrom_skip {r : Nat} (a : Point) (before : List Point) (b : Point) (after : List Point)
    (below : ∀ x ∈ before, x.ohms ≤ r) (reached : b.ohms ≤ r) : curveFrom a (before ++ b :: after) r = curveFrom b after r := by
  induction before generalizing a with
  | nil => exact if_neg (by omega)
  | cons c before ih =>
    refine (if_neg ?_).trans (ih c fun x mem => below x (.tail _ mem))
    exact Nat.not_lt.mpr (below c (.head _))

/-- A curve of ascending points with one at or below R: it goes on from there. -/
theorem curveAt_reached {before after : List Point} {b : Point} {r : Nat}
    (ascends : (before ++ b :: after).Pairwise (fun a b => a.ohms < b.ohms)) (reached : b.ohms ≤ r) :
    curveAt (before ++ b :: after) r = if before = [] ∧ r = b.ohms then b.position else curveFrom b after r := by
  cases before with
  | nil =>
    by_cases at' : r = b.ohms
    · simp [curveAt, at']
    · have beyond : ¬ r ≤ b.ohms := by omega
      simp [curveAt, at', beyond]
  | cons c before =>
    have first := List.rel_of_pairwise_cons ascends (a' := b) (by simp)
    have below (x : Point) (mem : x ∈ before) : x.ohms ≤ r := by
      have := (List.pairwise_append.mp (List.pairwise_cons.mp ascends).2).2.2 x mem b (.head _)
      omega
    rw [if_neg (by simp)]
    exact (if_neg (by omega)).trans (curveFrom_skip c before b after below reached)

/-- The target between two points: the first position and the rounded part of the way, between the two positions. -/
theorem interpolate_between {a b : Point} {r : Nat} (reached : a.ohms ≤ r) (under : r < b.ohms) :
    let n : Int := ((b.position : Int) - a.position) * ((r : Int) - a.ohms)
    (interpolate a b r : Int) =
        a.position + n.sign * (((2 * n.natAbs + (b.ohms - a.ohms)) / (2 * (b.ohms - a.ohms)) : Nat) : Int) ∧
      min a.position b.position ≤ interpolate a b r ∧ interpolate a b r ≤ max a.position b.position := by
  intro n
  have some : 0 < b.ohms - a.ohms := by omega
  have size : n.natAbs = ((b.position : Int) - a.position).natAbs * (r - a.ohms) := by
    rw [Int.natAbs_mul]
    congr 1
    omega
  have within := rounded_le (size := ((b.position : Int) - a.position).natAbs) (m := r - a.ohms) (d := b.ohms - a.ohms) (by omega) some
  rw [← size] at within
  have rounded : interpolate a b r =
      ((a.position : Int) + n.sign * (((2 * n.natAbs + (b.ohms - a.ohms)) / (2 * (b.ohms - a.ohms)) : Nat) : Int)).toNat := by
    rw [← roundAway_eq n some]
    rfl
  generalize (2 * n.natAbs + (b.ohms - a.ohms)) / (2 * (b.ohms - a.ohms)) = q at within rounded
  have sign : n.sign = ((b.position : Int) - a.position).sign ∨ n.sign = 0 := by
    rw [Int.sign_mul]
    rcases Nat.eq_or_lt_of_le reached with same | above
    · right
      rw [same, sub_self, Int.sign_zero, mul_zero]
    · left
      rw [Int.sign_eq_one_of_pos (a := (r : Int) - a.ohms) (by omega), mul_one]
  rcases sign with sign | sign
  · rw [sign] at rounded ⊢
    rcases lt_trichotomy a.position b.position with up | same | down
    · rw [Int.sign_eq_one_of_pos (by omega)] at rounded ⊢
      omega
    · rw [same, sub_self, Int.sign_zero, zero_mul] at rounded ⊢
      omega
    · rw [Int.sign_eq_neg_one_of_neg (by omega)] at rounded ⊢
      omega
  · rw [sign, zero_mul] at rounded ⊢
    omega

/-! ### Damping (R114) -/

/-- The damping step moves by 1 up to the whole distance, toward the target. -/
theorem dampStep_toward {k f target : Nat} (low : 1 ≤ k) (high : k ≤ 256) (off : f ≠ 16 * target) :
    ∃ size : Nat, 1 ≤ size ∧ size ≤ (16 * (target : Int) - f).natAbs ∧
      dampStep k f target = (16 * (target : Int) - f).sign * size := by
  generalize far : 16 * (target : Int) - (f : Int) = d
  have some : d ≠ 0 := by omega
  have size : (d * (k : Int)).natAbs = d.natAbs * k := by rw [Int.natAbs_mul, Int.natAbs_natCast]
  have sign : (d * (k : Int)).sign = d.sign := by rw [Int.sign_mul, Int.sign_eq_one_of_pos (a := (k : Int)) (by omega), mul_one]
  have within := rounded_le (size := d.natAbs) high (by norm_num)
  have step := roundAway_eq (d * (k : Int)) (d := 256) (by norm_num)
  rw [size, sign] at step
  unfold dampStep
  dsimp only
  rw [far, step]
  generalize (2 * (d.natAbs * k) + 256) / (2 * 256) = q at within
  rcases lt_or_gt_of_ne some with neg | pos
  · rw [Int.sign_eq_neg_one_of_neg neg]
    refine ⟨max 1 q, by omega, by omega, ?_⟩
    split <;> omega
  · rw [Int.sign_eq_one_of_pos pos]
    refine ⟨max 1 q, by omega, by omega, ?_⟩
    split <;> omega

/-- Settles O54: the curve by its points, the damping by the size of its step. -/
theorem curvesInterpolateAndDampingApproaches : Obligations.CurvesInterpolateAndDampingApproaches := by
  refine ⟨fun curve r ascends => ⟨fun a rest e below => ?_, fun before a e reached => ?_, fun before after a b e reached under => ?_⟩,
    fun k f target low high => ⟨fun under => ?_, fun above => ?_, fun there => ?_⟩⟩
  · rw [e]
    exact if_pos below
  · subst e
    rw [curveAt_reached ascends reached, curveFrom, ite_self]
  · subst e
    have value : curveAt (before ++ a :: b :: after) r = interpolate a b r := by
      rw [curveAt_reached ascends reached, curveFrom, if_pos under]
      split
      · rename_i start
        have between := (interpolate_between reached under).1
        rw [start.2, sub_self, mul_zero, Int.sign_zero, zero_mul, add_zero] at between
        rw [start.2]
        exact (Int.ofNat.inj between).symm
      · rfl
    rw [value]
    exact interpolate_between reached under
  · obtain ⟨size, some, most, step⟩ := dampStep_toward low high (f := f) (target := target) (by omega)
    rw [damp, step, Int.sign_eq_one_of_pos (by omega)]
    omega
  · obtain ⟨size, some, most, step⟩ := dampStep_toward low high (f := f) (target := target) (by omega)
    rw [damp, step, Int.sign_eq_neg_one_of_neg (by omega)]
    omega
  · have none : (16 * (target : Int) - (f : Int)) = 0 := by omega
    have still : dampStep k f target = 0 := by
      unfold dampStep
      simp only [none, zero_mul, roundAway]
      rfl
    rw [damp, still]
    omega

end Sys2Proof.Machine
end

section
/-! PROOF. The marks of the gauge unit (O52, O53): what each gauge's record becomes, and the events of a mark. -/

namespace Sys2Proof.Machine

/-! ### Events in a queue with room (R173) -/

theorem State.raiseEach_append (s : State) (a b : List (EventKind × Nat × Nat)) : s.raiseEach (a ++ b) = (s.raiseEach a).raiseEach b :=
  List.foldl_append ..

theorem State.raiseEach_cons (s : State) (x : EventKind × Nat × Nat) (l : List (EventKind × Nat × Nat)) :
    s.raiseEach (x :: l) = (s.raise x.1 x.2.1 x.2.2).raiseEach l := rfl

/-- Raising events writes the report, as it would on any part with the same report. -/
theorem raiseEach_eq {s u : State} (report : s.report = u.report) (l : List (EventKind × Nat × Nat)) :
    s.raiseEach l = { s with report := (u.raiseEach l).report } := by
  induction l generalizing s u with
  | nil => exact congrArg (fun r => { s with report := r }) report
  | cons x l ih =>
    rw [State.raiseEach_cons, State.raiseEach_cons, ih (raise_report_congr report x.1 x.2.1 x.2.2), raise_report]

theorem raiseEach_report_congr {s u : State} (report : s.report = u.report) (l : List (EventKind × Nat × Nat)) :
    (s.raiseEach l).report = (u.raiseEach l).report := by rw [raiseEach_eq report]

theorem mem_placeEvent {q : List EventRec} {r x : EventRec} : x ∈ placeEvent q r ↔ x = r ∨ x ∈ q := by
  unfold placeEvent
  split
  · cases urgent : x.kind.urgent <;> simp [urgent, or_comm]
  · simp [or_comm]

theorem placeEvent_length (q : List EventRec) (r : EventRec) : (placeEvent q r).length = q.length + 1 := by
  unfold placeEvent
  split
  · have parts := List.length_eq_length_filter_add (l := q) (fun x => x.kind.urgent)
    simp only [List.length_append, List.length_cons]
    omega
  · simp

/-- In a queue with room an occurrence stands after it is inserted, at most one record longer, and every record of another kind or
subject stays as it is. -/
theorem insertEvent_spec {q : List EventRec} {r : EventRec} (room : q.length < 16) :
    (∃ x ∈ (insertEvent q r).1, x.kind = r.kind ∧ x.subject = r.subject ∧ x.detail = r.detail) ∧
      (insertEvent q r).1.length ≤ q.length + 1 ∧ ∀ x ∈ q, x.same r = false → x ∈ (insertEvent q r).1 := by
  unfold insertEvent
  split
  · rename_i known
    obtain ⟨x, mem, same⟩ := List.any_eq_true.mp known
    have agree : x.kind = r.kind ∧ x.subject = r.subject := by simpa [EventRec.same] using same
    refine ⟨⟨x.coalesce r, List.mem_map.mpr ⟨x, mem, if_pos same⟩, agree.1, agree.2, rfl⟩, by simp, fun y held other => ?_⟩
    exact List.mem_map.mpr ⟨y, held, if_neg (by simp [other])⟩
  · exact ⟨⟨r, mem_placeEvent.mpr (.inl rfl), rfl, rfl, rfl⟩, (placeEvent_length q r).le, fun x held _ => mem_placeEvent.mpr (.inr held)⟩

/-- A record of a kind and subject with a detail stands in the event queue. -/
def Reports (s : State) (k : EventKind) (subject detail : Nat) : Prop :=
  ∃ r ∈ s.report.events, r.kind = k ∧ r.subject = subject ∧ r.detail = detail

theorem raise_length {s : State} (room : s.report.events.length < 16) (k : EventKind) (subject detail : Nat) :
    (s.raise k subject detail).report.events.length ≤ s.report.events.length + 1 := by
  unfold State.raise
  split
  · exact (insertEvent_spec room).2.1
  · simp

theorem raise_reports {s : State} (room : s.report.events.length < 16) {k : EventKind} (enabled : s.eventEnabled k = true)
    (subject : Nat) {detail : Nat} (fits : detail ≤ 65535) : Reports (s.raise k subject detail) k subject detail := by
  unfold State.raise Reports
  rw [if_pos enabled]
  obtain ⟨x, mem, kind, at_, value⟩ := (insertEvent_spec
    (r := { kind := k, subject := subject, detail := min 65535 detail, count := 1, time := s.report.timeCount }) room).1
  exact ⟨x, mem, kind, at_, value.trans (Nat.min_eq_right fits)⟩

theorem Reports.raise {s : State} {k : EventKind} {subject detail : Nat} (h : Reports s k subject detail)
    (room : s.report.events.length < 16) {k' : EventKind} {subject' : Nat} (other : k' ≠ k ∨ subject' ≠ subject) (detail' : Nat) :
    Reports (s.raise k' subject' detail') k subject detail := by
  obtain ⟨r, mem, kind, at_, value⟩ := h
  unfold State.raise
  split
  · refine ⟨r, (insertEvent_spec room).2.2 r mem ?_, kind, at_, value⟩
    simp only [EventRec.same, kind, at_, Bool.and_eq_false_iff, beq_eq_false_iff_ne]
    exact other.imp Ne.symm Ne.symm
  · exact ⟨r, mem, kind, at_, value⟩

/-- Of several events raised in a queue with room for all of them, one that no later one repeats stands as it was raised. -/
theorem raiseEach_reports {s : State} (before after : List (EventKind × Nat × Nat)) {k : EventKind} {subject detail : Nat}
    (room : s.report.events.length + (before ++ (k, subject, detail) :: after).length ≤ 16) (enabled : s.eventEnabled k = true)
    (fits : detail ≤ 65535) (last : ∀ x ∈ after, x.1 ≠ k ∨ x.2.1 ≠ subject) :
    Reports (s.raiseEach (before ++ (k, subject, detail) :: after)) k subject detail := by
  have later (l : List (EventKind × Nat × Nat)) (u : State) (held : Reports u k subject detail)
      (room : u.report.events.length + l.length ≤ 16) (other : ∀ x ∈ l, x.1 ≠ k ∨ x.2.1 ≠ subject) :
      Reports (u.raiseEach l) k subject detail := by
    induction l generalizing u with
    | nil => exact held
    | cons x l ih =>
      have some : u.report.events.length < 16 := by simp only [List.length_cons] at room; omega
      refine ih _ (held.raise some (other x (.head _)) _) ?_ fun y mem => other y (.tail _ mem)
      have := raise_length some x.1 x.2.1 x.2.2
      simp only [List.length_cons] at room ⊢
      omega
  induction before generalizing s with
  | nil =>
    have some : s.report.events.length < 16 := by simp at room; omega
    refine later after _ (raise_reports some enabled subject fits) ?_ last
    have := raise_length some k subject detail
    simp at room ⊢
    omega
  | cons x before ih =>
    have some : s.report.events.length < 16 := by simp at room; omega
    have length := raise_length some x.1 x.2.1 x.2.2
    refine ih (s := s.raise x.1 x.2.1 x.2.2) ?_ ?_
    · simp at room ⊢
      omega
    · rw [State.eventEnabled, raise_mask]
      exact enabled

/-! ### One gauge at a mark (R110 to R115, R120) -/

/-- The record after the sender and damping parts, skipped where the interval is short. -/
def Gauge.sensed (x : Gauge) : Gauge := if x.fullInterval then x.senseUpdate.dampUpdate else x

/-- The record after the compensation part, not run while HOLD stands. -/
def Gauge.compensated (x : Gauge) (hold : Bool) (vs : Nat) : Gauge :=
  if hold then x
  else
    { x with
      d := (compensate x.p x.cfg.dfs x.cfg.vref vs).1
      limit := (compensate x.p x.cfg.dfs x.cfg.vref vs).2
      shortCount := if (compensate x.p x.cfg.dfs x.cfg.vref vs).1 = 0 then 0 else x.shortCount }

/-- The record after the update at a mark, with the test at a step. -/
def Gauge.updated (x : Gauge) (n : Nat) (hold : Bool) (vs : Nat) : Gauge :=
  match x.state with
  | .run => if x.fullInterval then x.sensed.compensated hold vs else x
  | .test => { x.sensed with p := rampPosition n }.compensated hold vs
  | .off | .outputFault => x

/-- The events of a gauge's update: a change of sender status, then one of the limit status. -/
def gaugeEvents (g : GaugeId) (x y : Gauge) : List (EventKind × Nat × Nat) :=
  (if y.sender = x.sender then [] else [(.gaugeSender, g.val, y.sender.code)]) ++
    (if y.limit = x.limit then [] else [(.gaugeLimit, g.val, y.limit.code)])

theorem setGauge_self (s : State) (g : GaugeId) : s.setGauge g (s.gauge g) = s := by
  have same : s.gauges.gauges.set g (s.gauges.gauges[g]) = s.gauges.gauges := Vector.set_getElem_self ..
  exact congrArg (fun v => { s with gauges := { s.gauges with gauges := v } }) same

theorem setGauge_twice (s : State) (g : GaugeId) (x y : Gauge) : (s.setGauge g x).setGauge g y = s.setGauge g y := by
  have same : (s.gauges.gauges.set g x).set g y = s.gauges.gauges.set g y := Vector.set_set ..
  exact congrArg (fun v => { s with gauges := { s.gauges with gauges := v } }) same

section
variable (x : Gauge)

theorem senseUpdate_kept : x.senseUpdate.state = x.state ∧ x.senseUpdate.cfg = x.cfg ∧ x.senseUpdate.limit = x.limit := ⟨rfl, rfl, rfl⟩

theorem sensed_kept : x.sensed.state = x.state ∧ x.sensed.cfg = x.cfg ∧ x.sensed.limit = x.limit ∧ x.sensed.d = x.d ∧
    x.sensed.shortCount = x.shortCount := by
  unfold Gauge.sensed
  split <;> exact ⟨rfl, rfl, rfl, rfl, rfl⟩

theorem compensated_kept (hold : Bool) (vs : Nat) :
    x.compensated hold vs = { x with d := (x.compensated hold vs).d, limit := (x.compensated hold vs).limit
                                     shortCount := (x.compensated hold vs).shortCount } := by
  unfold Gauge.compensated
  split <;> rfl

theorem updated_idle {n vs : Nat} {hold : Bool} (idle : x.state = .off ∨ x.state = .outputFault ∨ (x.state = .run ∧ x.fullInterval = false)) :
    x.updated n hold vs = x := by
  unfold Gauge.updated
  rcases idle with e | e | ⟨e, short⟩
  · rw [e]
  · rw [e]
  · rw [e]
    simp [short]

end

theorem gaugeSense_eq (s : State) (g : GaugeId) :
    s.gaugeSense g = { s.setGauge g (s.gauge g).sensed with
      report := (s.raiseEach (if (s.gauge g).sensed.sender = (s.gauge g).sender then []
        else [(.gaugeSender, g.val, (s.gauge g).sensed.sender.code)])).report } := by
  unfold State.gaugeSense Gauge.sensed
  dsimp only
  split
  · split
    · rfl
    · exact raise_eq (by rfl) ..
  · rw [setGauge_self]
    simp only [if_true]
    rfl

theorem gaugeCompensate_eq (s : State) (g : GaugeId) :
    s.gaugeCompensate g = { s.setGauge g ((s.gauge g).compensated s.supply.hold s.supply.vs) with
      report := (s.raiseEach (if ((s.gauge g).compensated s.supply.hold s.supply.vs).limit = (s.gauge g).limit then []
        else [(.gaugeLimit, g.val, ((s.gauge g).compensated s.supply.hold s.supply.vs).limit.code)])).report } := by
  unfold State.gaugeCompensate Gauge.compensated
  dsimp only
  split
  · rw [setGauge_self]
    simp only [if_true]
    rfl
  · dsimp only
    split
    · rfl
    · exact raise_eq (by rfl) ..

/-- The compensation part after a record is written and events are raised. -/
theorem gaugeCompensate_after (s : State) (g : GaugeId) (w : Gauge) (events : List (EventKind × Nat × Nat)) :
    State.gaugeCompensate { s.setGauge g w with report := (s.raiseEach events).report } g =
      { s.setGauge g (w.compensated s.supply.hold s.supply.vs) with
        report := (s.raiseEach (events ++ if (w.compensated s.supply.hold s.supply.vs).limit = w.limit then []
          else [(.gaugeLimit, g.val, (w.compensated s.supply.hold s.supply.vs).limit.code)])).report } := by
  have written : State.gauge { s.setGauge g w with report := (s.raiseEach events).report } g = w := State.gauge_setGauge_same ..
  have twice (y : Gauge) : State.setGauge { s.setGauge g w with report := (s.raiseEach events).report } g y =
      { s.setGauge g y with report := (s.raiseEach events).report } :=
    congrArg (fun u : State => { u with report := (s.raiseEach events).report }) (setGauge_twice s g w y)
  rw [gaugeCompensate_eq, written, twice, State.raiseEach_append,
    raiseEach_report_congr (s := { s.setGauge g w with report := _ }) (u := s.raiseEach events) rfl]
  rfl

/-- The update of one gauge writes its record and raises its events. -/
theorem gaugeUpdateOne_eq (n : Nat) (s : State) (g : GaugeId) :
    State.gaugeUpdateOne n s g = { s.setGauge g ((s.gauge g).updated n s.supply.hold s.supply.vs) with
      report := (s.raiseEach (gaugeEvents g (s.gauge g) ((s.gauge g).updated n s.supply.hold s.supply.vs))).report } := by
  have idle (same : (s.gauge g).updated n s.supply.hold s.supply.vs = s.gauge g) :
      { s.setGauge g ((s.gauge g).updated n s.supply.hold s.supply.vs) with
        report := (s.raiseEach (gaugeEvents g (s.gauge g) ((s.gauge g).updated n s.supply.hold s.supply.vs))).report } = s := by
    rw [same, setGauge_self, gaugeEvents, if_pos rfl, if_pos rfl]
    rfl
  have chain (w : Gauge) (sender : w.sender = (s.gauge g).sensed.sender) (limit : w.limit = (s.gauge g).limit)
      (updated : (s.gauge g).updated n s.supply.hold s.supply.vs = w.compensated s.supply.hold s.supply.vs) :
      State.gaugeCompensate { s.setGauge g w with
        report := (s.raiseEach (if (s.gauge g).sensed.sender = (s.gauge g).sender then []
          else [(.gaugeSender, g.val, (s.gauge g).sensed.sender.code)])).report } g =
      { s.setGauge g ((s.gauge g).updated n s.supply.hold s.supply.vs) with
        report := (s.raiseEach (gaugeEvents g (s.gauge g) ((s.gauge g).updated n s.supply.hold s.supply.vs))).report } := by
    have same : (w.compensated s.supply.hold s.supply.vs).sender = (s.gauge g).sensed.sender := by
      rw [compensated_kept]
      exact sender
    rw [gaugeCompensate_after, updated, gaugeEvents, same, limit]
  unfold State.gaugeUpdateOne
  split
  · rename_i run
    by_cases full : (s.gauge g).fullInterval = true
    · rw [if_pos full, gaugeSense_eq]
      exact chain _ rfl (sensed_kept _).2.2.1 (by simp only [Gauge.updated, run, full, if_true])
    · rw [if_neg full]
      exact (idle (updated_idle _ (.inr (.inr ⟨run, by simpa using full⟩)))).symm
  · rename_i test
    rw [gaugeSense_eq]
    have written (r : Report) (w : Gauge) : State.gauge { s.setGauge g w with report := r } g = w := State.gauge_setGauge_same ..
    have twice (r : Report) (w y : Gauge) : State.setGauge { s.setGauge g w with report := r } g y = { s.setGauge g y with report := r } :=
      congrArg (fun u : State => { u with report := r }) (setGauge_twice s g w y)
    dsimp only
    rw [written, twice]
    exact chain _ rfl (sensed_kept _).2.2.1 (by simp only [Gauge.updated, test])
  · rename_i off
    exact (idle (updated_idle _ (.inl off))).symm
  · rename_i fault
    exact (idle (updated_idle _ (.inr (.inl fault)))).symm

/-! ### The whole mark -/

/-- The record of a gauge after a mark at a step of the test, which it may end. -/
def Gauge.marked (x : Gauge) (n : Nat) (done hold : Bool) (vs : Nat) : Gauge :=
  let y := { x.updated n hold vs with samples := [] }
  if done then y.endTest else y

/-- A mark brings the test to its end. -/
def State.testEnds (s : State) : Bool := s.testRunning && s.gauges.testStep + 1 == 60

/-- The record that a mark makes of a gauge of the part. -/
def State.gaugeMarked (s : State) (g : GaugeId) : Gauge :=
  (s.gauge g).marked (s.gauges.testStep + 1) s.testEnds s.supply.hold s.supply.vs

/-- The events of a mark: gauge A's, then gauge B's, then the end of the test. -/
def State.markEvents (s : State) : List (EventKind × Nat × Nat) :=
  gaugeEvents 0 (s.gauge 0) (s.gaugeMarked 0) ++ gaugeEvents 1 (s.gauge 1) (s.gaugeMarked 1) ++
    if s.testEnds then [(.testEnd, 0, 0)] else []

theorem marked_reported (x : Gauge) (n : Nat) (done hold : Bool) (vs : Nat) :
    (x.marked n done hold vs).sender = (x.updated n hold vs).sender ∧ (x.marked n done hold vs).limit = (x.updated n hold vs).limit := by
  unfold Gauge.marked Gauge.endTest
  dsimp only
  split
  · split <;> exact ⟨rfl, rfl⟩
  · exact ⟨rfl, rfl⟩

theorem gaugeEvents_marked (s : State) (g : GaugeId) :
    gaugeEvents g (s.gauge g) ((s.gauge g).updated (s.gauges.testStep + 1) s.supply.hold s.supply.vs) =
      gaugeEvents g (s.gauge g) (s.gaugeMarked g) := by
  obtain ⟨sender, limit⟩ := marked_reported (s.gauge g) (s.gauges.testStep + 1) s.testEnds s.supply.hold s.supply.vs
  rw [gaugeEvents, gaugeEvents, State.gaugeMarked, sender, limit]

/-- The updates of both gauges at a mark, before their intervals begin anew. -/
theorem gaugeUpdates_eq (n k : Nat) (s : State) :
    ∃ v, allGauges.foldl (State.gaugeUpdateOne n) { s with gauges := { s.gauges with testStep := k } } =
        { s with gauges := { gauges := v, testStep := k }
                 report := (s.raiseEach (gaugeEvents 0 (s.gauge 0) ((s.gauge 0).updated n s.supply.hold s.supply.vs) ++
                   gaugeEvents 1 (s.gauge 1) ((s.gauge 1).updated n s.supply.hold s.supply.vs))).report } ∧
      ∀ g : GaugeId, v[g] = (s.gauge g).updated n s.supply.hold s.supply.vs := by
  refine ⟨(s.gauges.gauges.set (0 : GaugeId) ((s.gauge 0).updated n s.supply.hold s.supply.vs)).set (1 : GaugeId)
    ((s.gauge 1).updated n s.supply.hold s.supply.vs), ?_, fun g => by fin_cases g <;> simp⟩
  generalize first : { s with gauges := { s.gauges with testStep := k } } = s0
  have report : s0.report = s.report := by rw [← first]
  have gauge (g : GaugeId) : s0.gauge g = s.gauge g := by rw [← first]; rfl
  have supply : s0.supply = s.supply := by rw [← first]
  rw [allGauges, List.foldl_cons, List.foldl_cons, List.foldl_nil]
  have second := gaugeUpdateOne_eq n s0 0
  rw [gauge, supply] at second
  generalize State.gaugeUpdateOne n s0 0 = s1 at second
  have gauge1 : s1.gauge 1 = s.gauge 1 := by
    rw [second, ← gauge 1]
    exact (State.gauge_setGauge ..).trans (if_neg (by decide))
  have supply1 : s1.supply = s.supply := by
    rw [second]
    exact supply
  have report1 : s1.report =
      (s.raiseEach (gaugeEvents 0 (s.gauge 0) ((s.gauge 0).updated n s.supply.hold s.supply.vs))).report := by
    rw [second]
    exact raiseEach_report_congr report _
  have third := gaugeUpdateOne_eq n s1 1
  rw [gauge1, supply1, raiseEach_report_congr report1, ← State.raiseEach_append] at third
  refine third.trans ?_
  rw [second, ← first]
  rfl

/-- What a mark of the gauge unit makes of the part. -/
theorem gaugeMark_eq (s : State) :
    (∀ g, s.gaugeMark.gauge g = s.gaugeMarked g) ∧
      s.gaugeMark.gauges.testStep =
        (if s.testRunning = true then (if s.gauges.testStep + 1 = 60 then 0 else s.gauges.testStep + 1) else s.gauges.testStep) ∧
      s.gaugeMark.report = (s.raiseEach s.markEvents).report ∧
      s.gaugeMark = { s with gauges := s.gaugeMark.gauges, report := s.gaugeMark.report } := by
  have counted : (if s.testRunning then { s with gauges := { s.gauges with testStep := s.gauges.testStep + 1 } } else s) =
      { s with gauges := { s.gauges with
        testStep := if s.testRunning then s.gauges.testStep + 1 else s.gauges.testStep } } := by split <;> rfl
  obtain ⟨v, updates, records⟩ := gaugeUpdates_eq (s.gauges.testStep + 1)
    (if s.testRunning then s.gauges.testStep + 1 else s.gauges.testStep) s
  rw [gaugeEvents_marked, gaugeEvents_marked] at updates
  have ends : (s.testRunning && s.gauges.testStep + 1 == 60) = s.testEnds := rfl
  unfold State.gaugeMark
  dsimp only
  rw [counted, updates, ends]
  obtain ⟨cleared, clearedRest⟩ := gauges_fold (fun x => { x with samples := [] })
    { s with gauges := { gauges := v, testStep := if s.testRunning then s.gauges.testStep + 1 else s.gauges.testStep }
             report := (s.raiseEach (gaugeEvents 0 (s.gauge 0) (s.gaugeMarked 0) ++
               gaugeEvents 1 (s.gauge 1) (s.gaugeMarked 1))).report }
  change ∀ g, (allGauges.foldl State.clearSamples _).gauge g = _ at cleared
  change allGauges.foldl State.clearSamples _ = _ at clearedRest
  generalize allGauges.foldl State.clearSamples _ = w at cleared clearedRest
  have wGauge (g : GaugeId) : w.gauge g =
      { (s.gauge g).updated (s.gauges.testStep + 1) s.supply.hold s.supply.vs with samples := [] } := by
    rw [cleared g, ← records g]
    rfl
  have wStep : w.gauges.testStep = if s.testRunning then s.gauges.testStep + 1 else s.gauges.testStep := by rw [clearedRest]
  have wReport : w.report = (s.raiseEach (gaugeEvents 0 (s.gauge 0) (s.gaugeMarked 0) ++
      gaugeEvents 1 (s.gauge 1) (s.gaugeMarked 1))).report := by rw [clearedRest]
  have wRest : w = { s with gauges := w.gauges, report := w.report } := by rw [clearedRest]
  clear clearedRest cleared updates
  split
  · rename_i done
    have step : s.testRunning = true ∧ s.gauges.testStep + 1 = 60 := by simpa [State.testEnds] using done
    unfold State.finishTest
    dsimp only
    obtain ⟨ended, endedRest⟩ := gauges_fold Gauge.endTest w
    dsimp only at ended endedRest
    generalize allGauges.foldl (fun s g => s.setGauge g (s.gauge g).endTest) w = y at ended endedRest
    have yReport : y.report = w.report := by rw [endedRest]
    rw [raise_eq (u := w) (by exact yReport)]
    refine ⟨fun g => ?_, ?_, ?_, ?_⟩
    · refine (ended g).trans ?_
      rw [wGauge, State.gaugeMarked, Gauge.marked, done]
      rfl
    · rw [if_pos step.1, if_pos step.2]
    · rw [State.markEvents, done, State.raiseEach_append]
      exact raise_report_congr wReport ..
    · rw [endedRest, wRest]
  · rename_i going
    have none : s.testEnds = false := by simpa using going
    refine ⟨fun g => ?_, ?_, ?_, wRest⟩
    · rw [wGauge, State.gaugeMarked, Gauge.marked, none]
      rfl
    · rw [wStep]
      split
      · rename_i testing
        rw [if_neg]
        simpa [State.testEnds, testing] using none
      · rfl
    · rw [wReport, State.markEvents, none]
      simp

end Sys2Proof.Machine
end

section
/-! PROOF. The gauges follow their senders (O52), and the marks and samples that change their status (O53). -/

namespace Sys2Proof.Machine

theorem exec_senseSample (g : GaugeId) (code : Nat) (s : State) : exec (.senseSample g code) s = s.live (fun s => s.senseSample g code) := rfl

theorem exec_gaugeUpdate (s : State) : exec .gaugeUpdate s = s.live State.gaugeMark := rfl

/-! ### The sender and damping parts (R111 to R114) -/

/-- The damping step by sign and size: at least 1 off the target. -/
theorem dampStep_eq (k f target : Nat) :
    let far : Int := 16 * (target : Int) - f
    let size : Int := ((2 * (far * k).natAbs + 256) / 512 : Nat)
    dampStep k f target = far.sign * (if size = 0 then 1 else size) := by
  intro far size
  have step := roundAway_eq (far * (k : Int)) (d := 256) (by norm_num)
  change roundAway (far * (k : Int)) 256 = (far * (k : Int)).sign * size at step
  unfold dampStep
  dsimp only
  change (if roundAway (far * (k : Int)) 256 = 0 then (if 0 < far then 1 else if far < 0 then -1 else 0)
    else roundAway (far * (k : Int)) 256) = _
  rw [step]
  by_cases none : size = 0
  · rw [none, mul_zero, if_pos rfl, if_pos rfl, mul_one]
    rcases lt_trichotomy far 0 with neg | zero | pos
    · rw [Int.sign_eq_neg_one_of_neg neg, if_neg (by omega), if_pos neg]
    · rw [zero]
      rfl
    · rw [Int.sign_eq_one_of_pos pos, if_pos pos]
  · rw [if_neg none]
    have some : k ≠ 0 := by
      rintro rfl
      exact none (by simp [size])
    have sign : (far * (k : Int)).sign = far.sign := by rw [Int.sign_mul, Int.sign_eq_one_of_pos (a := (k : Int)) (by omega), mul_one]
    rw [sign]
    split
    · rename_i zero
      rcases mul_eq_zero.mp zero with still | still
      · have there : far = 0 := Int.sign_eq_zero_iff_zero.mp still
        simp [there]
      · exact absurd still none
    · rfl

section
variable (x : Gauge)

theorem sensed_full (full : x.fullInterval = true) : x.sensed = x.senseUpdate.dampUpdate := if_pos full

/-- The code, the status with its persistence run, and the last good resistance after a full interval (R111, R112). -/
theorem senseUpdate_sender :
    let c := (x.samples.sum + 5) / 10
    let cls : SenderStatus := if 1015 ≤ c then .opened else if c ≤ 2 then .short else .ok
    let run := if cls = x.runClass then x.runCount + 1 else 1
    let y := x.senseUpdate
    y.code = c ∧
      y.resistance = (if cls = .ok then some (min 9999 ((x.cfg.rp * c + (1023 - c) / 2) / (1023 - c))) else none) ∧
      y.sender = (if cls ≠ x.sender ∧ 3 ≤ run then cls else x.sender) ∧
      y.runClass = (if cls = x.sender then x.runClass else cls) ∧
      y.runCount = (if cls = x.sender ∨ 3 ≤ run then 0 else run) ∧
      y.lastGood = (if y.sender = .ok ∧ cls = .ok then y.resistance else x.lastGood) ∧
      y.target = (if y.sender ≠ .ok ∧ x.cfg.faultAction = .zero then 0
        else match y.lastGood with
          | some r => curveAt x.cfg.curve r
          | none => 0) := by
  intro c cls run y
  have status : x.senderAfter cls =
      (if cls ≠ x.sender ∧ 3 ≤ run then cls else x.sender, if cls = x.sender then x.runClass else cls,
        if cls = x.sender ∨ 3 ≤ run then 0 else run) := by
    unfold Gauge.senderAfter
    by_cases same : cls = x.sender <;> by_cases third : 3 ≤ run <;> simp [same, third, run]
  have sender : y.sender = (x.senderAfter cls).1 := rfl
  have runClass : y.runClass = (x.senderAfter cls).2.1 := rfl
  have runCount : y.runCount = (x.senderAfter cls).2.2 := rfl
  refine ⟨rfl, rfl, ?_, ?_, ?_, rfl, rfl⟩
  · rw [sender, status]
  · rw [runClass, status]
  · rw [runCount, status]

/-- The filter and the displayed position after a full interval (R110, R114). -/
theorem sensed_damped (full : x.fullInterval = true) :
    let y := x.sensed
    let far : Int := 16 * (y.target : Int) - x.f
    let size : Int := ((2 * (far * x.cfg.k).natAbs + 256) / 512 : Nat)
    (x.fresh = true → y.f = 16 * y.target) ∧
      (x.fresh = false → y.f = ((x.f : Int) + far.sign * (if size = 0 then 1 else size)).toNat) ∧
      y.fresh = false ∧ y.p = (if x.fresh then y.target else (y.f + 8) / 16) := by
  intro y far size
  have e : y = x.senseUpdate.dampUpdate := if_pos full
  have target : y.target = x.senseUpdate.target := by rw [e]; rfl
  have f : y.f = if x.fresh then 16 * y.target else damp x.cfg.k x.f y.target := by
    rw [target, e]
    rfl
  refine ⟨fun first => by rw [f, if_pos first], fun later => ?_, by rw [e]; rfl, ?_⟩
  · rw [f, if_neg (by simp [later]), damp, dampStep_eq]
  · by_cases first : x.fresh = true
    · rw [target, e]
      simp only [Gauge.dampUpdate]
      rfl
    · rw [e]
      simp only [Gauge.dampUpdate]
      have later : x.senseUpdate.fresh = x.fresh := rfl
      simp only [later, first]
      rfl

end

/-! ### The record after a mark -/

/-- The position that a gauge displays at a mark: that of the ramp in TEST, its filter's otherwise. -/
def Gauge.displayed (x : Gauge) (n : Nat) : Gauge := if x.state = .test then { x.sensed with p := rampPosition n } else x.sensed

/-- The mark of a gauge that is updated. -/
theorem marked_active {x : Gauge} (active : (x.state = .run ∧ x.fullInterval = true) ∨ x.state = .test) (n : Nat) (done hold : Bool)
    (vs : Nat) :
    x.marked n done hold vs =
      { (x.displayed n).compensated hold vs with
        samples := []
        state := if x.state = .test ∧ done = true then .run else x.state
        shortCount := if x.state = .test ∧ done = true then 0 else ((x.displayed n).compensated hold vs).shortCount } := by
  have state : ((x.displayed n).compensated hold vs).state = x.state := by
    rw [compensated_kept, Gauge.displayed]
    dsimp only
    split
    · exact (sensed_kept x).1
    · exact (sensed_kept x).1
  have updated : x.updated n hold vs = (x.displayed n).compensated hold vs := by
    rcases active with ⟨run, full⟩ | test
    · simp only [Gauge.updated, Gauge.displayed, run, full, if_true]
      rfl
    · simp only [Gauge.updated, Gauge.displayed, test, if_true]
  rw [Gauge.marked, updated]
  generalize (x.displayed n).compensated hold vs = y at state
  rw [← state]
  unfold Gauge.endTest
  dsimp only
  cases done <;> by_cases test : y.state = .test <;> simp [test]

/-- The mark of a gauge that is updated, over its sender and damping parts. -/
theorem marked_sensed {x : Gauge} (active : (x.state = .run ∧ x.fullInterval = true) ∨ x.state = .test) (n : Nat) (done hold : Bool)
    (vs : Nat) :
    x.marked n done hold vs =
      { x.sensed with
        samples := []
        state := if x.state = .test ∧ done = true then .run else x.state
        p := if x.state = .test then rampPosition n else x.sensed.p
        d := ((x.displayed n).compensated hold vs).d
        limit := ((x.displayed n).compensated hold vs).limit
        shortCount := if x.state = .test ∧ done = true then 0 else ((x.displayed n).compensated hold vs).shortCount } := by
  have displayed : x.displayed n = { x.sensed with p := if x.state = .test then rampPosition n else x.sensed.p } := by
    unfold Gauge.displayed
    split <;> rfl
  have kept := compensated_kept (x.displayed n) hold vs
  rw [marked_active active, kept]
  generalize (x.displayed n).compensated hold vs = c
  rw [displayed]

/-- The sender, the filter and the position of a gauge that a mark updates with a full interval. -/
theorem marked_full {x : Gauge} (driven : x.state = .run ∨ x.state = .test) (full : x.fullInterval = true) (n : Nat) (done hold : Bool)
    (vs : Nat) :
    let y := x.marked n done hold vs
    let c := (x.samples.sum + 5) / 10
    let cls : SenderStatus := if 1015 ≤ c then .opened else if c ≤ 2 then .short else .ok
    let run := if cls = x.runClass then x.runCount + 1 else 1
    let far : Int := 16 * (y.target : Int) - x.f
    let size : Int := ((2 * (far * x.cfg.k).natAbs + 256) / 512 : Nat)
    y.code = c ∧
      y.resistance = (if cls = .ok then some (min 9999 ((x.cfg.rp * c + (1023 - c) / 2) / (1023 - c))) else none) ∧
      y.sender = (if cls ≠ x.sender ∧ 3 ≤ run then cls else x.sender) ∧
      y.runClass = (if cls = x.sender then x.runClass else cls) ∧
      y.runCount = (if cls = x.sender ∨ 3 ≤ run then 0 else run) ∧
      y.lastGood = (if y.sender = .ok ∧ cls = .ok then y.resistance else x.lastGood) ∧
      y.target = (if y.sender ≠ .ok ∧ x.cfg.faultAction = .zero then 0
        else match y.lastGood with
          | some r => curveAt x.cfg.curve r
          | none => 0) ∧
      (x.fresh = true → y.f = 16 * y.target) ∧
      (x.fresh = false → y.f = ((x.f : Int) + far.sign * (if size = 0 then 1 else size)).toNat) ∧
      y.fresh = false ∧ (x.state = .run → y.p = (if x.fresh then y.target else (y.f + 8) / 16)) := by
  intro y
  have sensed : y = _ := marked_sensed (driven.imp_left fun run => ⟨run, full⟩) n done hold vs
  obtain ⟨code, resistance, sender, runClass, runCount, lastGood, target⟩ := senseUpdate_sender x
  obtain ⟨first, later, fresh, p⟩ := sensed_damped x full
  have e := sensed_full x full
  have ySender : y.sender = x.senseUpdate.sender := by rw [sensed, e]; rfl
  have yGood : y.lastGood = x.senseUpdate.lastGood := by rw [sensed, e]; rfl
  have yResistance : y.resistance = x.senseUpdate.resistance := by rw [sensed, e]; rfl
  have yTarget : y.target = x.sensed.target := by rw [sensed]
  have target' : x.sensed.target = x.senseUpdate.target := by rw [e]; rfl
  have yF : y.f = x.sensed.f := by rw [sensed]
  have yP : x.state = .run → y.p = x.sensed.p := fun run => by rw [sensed, run]; rfl
  have yCode : y.code = x.senseUpdate.code := by rw [sensed, e]; rfl
  have yClass : y.runClass = x.senseUpdate.runClass := by rw [sensed, e]; rfl
  have yCount : y.runCount = x.senseUpdate.runCount := by rw [sensed, e]; rfl
  have yFresh : y.fresh = x.sensed.fresh := by rw [sensed]
  clear_value y
  dsimp only
  rw [ySender, yGood, yResistance, yTarget, yF, yCode, yClass, yCount, yFresh]
  refine ⟨code, resistance, sender, runClass, runCount, lastGood, target'.trans target, first, later, fresh, fun run => ?_⟩
  rw [yP run]
  exact p

/-- The compensation part: D and the limit status for the supply, while HOLD does not stand (R115). -/
theorem compensated_found (x : Gauge) (hold : Bool) (vs : Nat) :
    let y := x.compensated hold vs
    let den := 1000 * (vs * vs)
    let q := (x.cfg.dfs * x.p * (x.cfg.vref * x.cfg.vref) + den / 2) / den
    (hold = false →
      (2 * vs < x.cfg.vref → y.d = 0 ∧ y.limit = .undervolt) ∧
      (x.cfg.vref ≤ 2 * vs → 1000 < q → y.d = 1000 ∧ y.limit = .saturated) ∧
      (x.cfg.vref ≤ 2 * vs → q ≤ 1000 → y.d = q ∧ y.limit = .none) ∧
      y.shortCount = (if y.d = 0 then 0 else x.shortCount)) ∧
    (hold = true → y = x) := by
  intro y den q
  refine ⟨fun free => ?_, fun hold => if_pos hold⟩
  have found : compensate x.p x.cfg.dfs x.cfg.vref vs =
      if 2 * vs < x.cfg.vref then (0, .undervolt) else if 1000 < q then (1000, .saturated) else (q, .none) := by
    unfold compensate
    simp only [den, q, Nat.mul_assoc]
  have e : y = { x with
      d := (compensate x.p x.cfg.dfs x.cfg.vref vs).1
      limit := (compensate x.p x.cfg.dfs x.cfg.vref vs).2
      shortCount := if (compensate x.p x.cfg.dfs x.cfg.vref vs).1 = 0 then 0 else x.shortCount } := if_neg (by simp [free])
  rw [e, found]
  refine ⟨fun low => ?_, fun enough above => ?_, fun enough within => ?_, rfl⟩
  · simp [low]
  · simp [above, Nat.not_lt.mpr enough]
  · simp [Nat.not_lt.mpr enough, Nat.not_lt.mpr within]

/-- D, the limit status and the short count of a gauge that a mark updates (R115, R116, R118). -/
theorem marked_compensated {x : Gauge} (active : (x.state = .run ∧ x.fullInterval = true) ∨ x.state = .test) {n : Nat} {done : Bool}
    (ends : x.state = .test → (done = true ↔ n = 60)) (hold : Bool) (vs : Nat) :
    let y := x.marked n done hold vs
    let den := 1000 * (vs * vs)
    let q := (x.cfg.dfs * y.p * (x.cfg.vref * x.cfg.vref) + den / 2) / den
    (hold = false →
      (2 * vs < x.cfg.vref → y.d = 0 ∧ y.limit = .undervolt) ∧
      (x.cfg.vref ≤ 2 * vs → 1000 < q → y.d = 1000 ∧ y.limit = .saturated) ∧
      (x.cfg.vref ≤ 2 * vs → q ≤ 1000 → y.d = q ∧ y.limit = .none) ∧
      y.shortCount = (if y.d = 0 then 0 else x.shortCount)) ∧
    (hold = true → y.d = x.d ∧ y.limit = x.limit ∧ y.shortCount = (if x.state = .test ∧ n = 60 then 0 else x.shortCount)) := by
  intro y
  have sensed : y = _ := marked_sensed active n done hold vs
  have displayed : x.displayed n = { x.sensed with p := if x.state = .test then rampPosition n else x.sensed.p } := by
    unfold Gauge.displayed
    split <;> rfl
  obtain ⟨_, cfg, limit, d, short⟩ := sensed_kept x
  obtain ⟨found, held⟩ := compensated_found (x.displayed n) hold vs
  have p : y.p = (x.displayed n).p := by rw [sensed, displayed]
  have xCfg : (x.displayed n).cfg = x.cfg := by rw [displayed]; exact cfg
  have xShort : (x.displayed n).shortCount = x.shortCount := by rw [displayed]; exact short
  have xLimit : (x.displayed n).limit = x.limit := by rw [displayed]; exact limit
  have xD : (x.displayed n).d = x.d := by rw [displayed]; exact d
  have yD : y.d = ((x.displayed n).compensated hold vs).d := by rw [sensed]
  have yLimit : y.limit = ((x.displayed n).compensated hold vs).limit := by rw [sensed]
  have yShort : y.shortCount = if x.state = .test ∧ done = true then 0 else ((x.displayed n).compensated hold vs).shortCount := by
    rw [sensed]
  have last (test : x.state = .test ∧ done = true) : y.p = 0 := by
    rw [sensed, if_pos test.1, (ends test.1).mp test.2]
    rfl
  clear_value y
  dsimp only
  rw [xCfg, xShort, ← p, ← yD, ← yLimit] at found
  refine ⟨fun free => ?_, fun hold => ?_⟩
  · obtain ⟨low, above, within, count⟩ := found free
    refine ⟨low, above, within, ?_⟩
    rw [yShort, count]
    split
    · rename_i test
      have none : y.d = 0 := by
        rcases Nat.lt_or_ge (2 * vs) x.cfg.vref with under | enough
        · exact (low under).1
        · refine (within enough ?_).1.trans ?_
          all_goals
            rw [last test, Nat.mul_zero, Nat.zero_mul, Nat.zero_add]
            rcases Nat.eq_zero_or_pos (1000 * (vs * vs)) with zero | pos
            · simp [zero]
            · rw [Nat.div_eq_of_lt (by omega)]
              try omega
      rw [if_pos none]
    · rfl
  · rw [yD, yLimit, yShort, held hold, xD, xLimit, xShort]
    refine ⟨rfl, rfl, ?_⟩
    by_cases test : x.state = .test
    · simp only [test, true_and, ends test]
    · simp only [test, false_and]

/-- The mark of a gauge that is not updated. -/
theorem marked_idle {x : Gauge} (idle : x.state = .off ∨ x.state = .outputFault ∨ (x.state = .run ∧ x.fullInterval = false)) (n : Nat)
    (done hold : Bool) (vs : Nat) : x.marked n done hold vs = { x with samples := [] } := by
  rw [Gauge.marked, updated_idle x idle]
  cases done
  · rfl
  · have untested : x.state ≠ .test := by rcases idle with e | e | ⟨e, _⟩ <;> simp [e]
    exact if_neg untested

/-! ### A mark of the part (O52) -/

theorem testEnds_iff {s : State} : s.testEnds = true ↔ (∃ g, (s.gauge g).state = .test) ∧ s.gauges.testStep + 1 = 60 := by
  simp [State.testEnds, testRunning_iff]

/-- The mark of a gauge in TEST ends the test with the step. -/
theorem testEnds_tested {s : State} {g : GaugeId} (test : (s.gauge g).state = .test) :
    s.testEnds = true ↔ s.gauges.testStep + 1 = 60 := by
  rw [testEnds_iff]
  exact and_iff_right ⟨g, test⟩

/-- The kinds and subjects of the events of a mark, in their order. -/
theorem markEvents_sublist (s : State) : (s.markEvents.map fun x => (x.1, x.2.1)).Sublist
    [(EventKind.gaugeSender, 0), (.gaugeLimit, 0), (.gaugeSender, 1), (.gaugeLimit, 1), (.testEnd, 0)] := by
  have gauge (g : GaugeId) (x y : Gauge) : ((gaugeEvents g x y).map fun x => (x.1, x.2.1)).Sublist
      [(EventKind.gaugeSender, g.val), (.gaugeLimit, g.val)] := by
    unfold gaugeEvents
    by_cases sender : y.sender = x.sender <;> by_cases limit : y.limit = x.limit <;> simp [sender, limit]
  have last : ((if s.testEnds then [(EventKind.testEnd, 0, 0)] else []).map fun x => (x.1, x.2.1)).Sublist [(EventKind.testEnd, 0)] := by
    cases s.testEnds <;> simp
  rw [State.markEvents, List.map_append, List.map_append]
  exact ((gauge 0 ..).append (gauge 1 ..)).append last

/-- An event of a mark stands after it in a queue with room. -/
theorem gaugeMark_reports {s : State} {k : EventKind} {subject detail : Nat} (raised : (k, subject, detail) ∈ s.markEvents)
    (enabled : s.eventEnabled k = true) (room : s.report.events.length ≤ 8) (fits : detail ≤ 65535) :
    Reports s.gaugeMark k subject detail := by
  have sublist := markEvents_sublist s
  have distinct : (s.markEvents.map fun x => (x.1, x.2.1)).Nodup := sublist.nodup (by decide)
  have few : s.markEvents.length ≤ 5 := by simpa using sublist.length_le
  unfold Reports
  rw [(gaugeMark_eq s).2.2.1]
  obtain ⟨before, after, events⟩ := List.append_of_mem raised
  rw [events] at distinct few ⊢
  rw [List.map_append, List.map_cons, List.nodup_append] at distinct
  refine raiseEach_reports before after (by omega) enabled fits fun x mem => ?_
  by_contra same
  rw [not_or, not_not, not_not] at same
  refine (List.nodup_cons.mp distinct.2.1).1 (List.mem_map.mpr ⟨x, mem, ?_⟩)
  rw [same.1, same.2]

theorem mem_markEvents {s : State} (g : GaugeId) {x : EventKind × Nat × Nat} (h : x ∈ gaugeEvents g (s.gauge g) (s.gaugeMarked g)) :
    x ∈ s.markEvents := by
  rw [State.markEvents, List.mem_append, List.mem_append]
  fin_cases g
  · exact .inl (.inl h)
  · exact .inl (.inr h)

theorem limitCode_fits (l : LimitStatus) : l.code ≤ 65535 := by cases l <;> decide

theorem senderCode_fits (l : SenderStatus) : l.code ≤ 65535 := by cases l <;> decide

/-- Settles O52: a mark makes of each gauge's record what its update, its step of the test and the end of the test give. -/
theorem gaugesFollowTheirSenders : Obligations.GaugesFollowTheirSenders := by
  refine ⟨fun s g code running => ?_, fun s g running => ?_⟩
  · rw [exec_runs running (exec_senseSample g code s)]
    rfl
  · rw [exec_runs running (exec_gaugeUpdate s)]
    refine ⟨s.gaugeMark, rfl, ?_⟩
    obtain ⟨gauges, step, report, rest⟩ := gaugeMark_eq s
    generalize mark : s.gaugeMark = t at gauges step report rest
    intro x y full n
    have marked : y = x.marked n s.testEnds s.supply.hold s.supply.vs := gauges g
    have fullIff : x.fullInterval = true ↔ full := by simp [Gauge.fullInterval, full]
    have ends (test : x.state = .test) : s.testEnds = true ↔ n = 60 := testEnds_tested test
    have active (h : (x.state = .run ∧ full) ∨ x.state = .test) := marked_sensed (x := x) (h.imp_left fun h => ⟨h.1, fullIff.mpr h.2⟩) n
      s.testEnds s.supply.hold s.supply.vs
    rw [← marked] at active
    have idle (h : x.state = .off ∨ x.state = .outputFault ∨ (x.state = .run ∧ ¬ full)) : y = { x with samples := [] } := by
      rw [marked]
      refine marked_idle (h.imp_right fun h => h.imp_right fun h => ⟨h.1, ?_⟩) ..
      rw [Bool.eq_false_iff]
      exact fun e => h.2 (fullIff.mp e)
    have testing : s.testRunning = true ↔ (s.gauge 0).state = .test ∨ (s.gauge 1).state = .test := by simp [State.testRunning]
    refine ⟨idle, fun driven => ?_, fun run => ?_, fun test => ?_, fun either => ?_, fun none0 none1 => ?_, fun driven filled => ?_,
      fun test short => ?_, fun test => ?_, fun updates => ?_, fun change enabled room => ?_, fun same => ?_, ?_⟩
    · by_cases updates : (x.state = .run ∧ full) ∨ x.state = .test
      · rw [active updates]
        exact ⟨(sensed_kept x).2.1, rfl⟩
      · rcases driven with run | test
        · rw [idle (.inr (.inr ⟨run, fun filled => updates (.inl ⟨run, filled⟩)⟩))]
          exact ⟨rfl, rfl⟩
        · exact absurd (.inr test) updates
    · by_cases filled : full
      · rw [active (.inl ⟨run, filled⟩)]
        simp [run]
      · rw [idle (.inr (.inr ⟨run, filled⟩))]
        exact run
    · rw [active (.inr test)]
      simp [test, ends test]
    · rw [step, if_pos (testing.mpr either)]
    · rw [step, if_neg (mt testing.mp (not_or.mpr ⟨none0, none1⟩))]
    · rw [marked]
      exact marked_full driven (fullIff.mpr filled) ..
    · have still : x.sensed = x := if_neg (by rw [fullIff]; exact short)
      rw [active (.inr test), still]
      exact ⟨rfl, rfl, rfl, rfl, rfl, rfl, rfl⟩
    · rw [active (.inr test), test]
      rfl
    · rw [marked]
      exact marked_compensated (updates.imp_left fun h => ⟨h.1, fullIff.mpr h.2⟩) ends ..
    · have moved : (s.gaugeMarked g).limit ≠ (s.gauge g).limit := by rw [← gauges g]; exact change
      rw [← mark, show y = s.gaugeMarked g from gauges g]
      refine gaugeMark_reports (mem_markEvents g ?_) enabled room (limitCode_fits _)
      rw [gaugeEvents, if_neg moved]
      simp
    · rw [report]
      have none : s.markEvents = [] := by
        have ends : s.testEnds = false := by
          rw [Bool.eq_false_iff]
          intro ends
          obtain ⟨⟨h, test⟩, sixty⟩ := testEnds_iff.mp ends
          have stays := (same h).2.2 test
          rw [gauges h, State.gaugeMarked, marked_sensed (.inr test), ends] at stays
          simp [test] at stays
        have quiet (h : GaugeId) : gaugeEvents h (s.gauge h) (s.gaugeMarked h) = [] := by
          obtain ⟨limit, sender, _⟩ := same h
          rw [gaugeEvents, ← gauges h, if_pos limit, if_pos sender]
          rfl
        rw [State.markEvents, quiet, quiet, ends]
        rfl
      rw [none]
      rfl
    · rw [rest]
      exact ⟨rfl, rfl, rfl, rfl, rfl, rfl, rfl, rfl, rfl⟩

end Sys2Proof.Machine
end

section
/-! PROOF. The marks and the samples that change the status of a gauge (O53). -/

namespace Sys2Proof.Machine

theorem exec_senderStatusChange (g : GaugeId) (s : State) :
    exec (.senderStatusChange g) s = s.live (fun s => if s.senderChanges g then s.gaugeMark else s) := rfl

theorem exec_gaugeOutputShort (g : GaugeId) (milliamps : Nat) (s : State) :
    exec (.gaugeOutputShort g milliamps) s =
      s.live (fun s => if s.shortFound g milliamps then s.gaugeSample g milliamps else s) := rfl

theorem exec_testComplete (s : State) :
    exec .testComplete s = s.live (fun s => if s.testRunning ∧ s.gauges.testStep = 59 then s.gaugeMark else s) := rfl

/-! ### The output short (R116) -/

theorem gaugeSampled_iff {s : State} {g : GaugeId} :
    s.gaugeSampled g = true ↔ ((s.gauge g).state = .run ∨ (s.gauge g).state = .test) ∧ (s.gauge g).d ≠ 0 ∧ s.supply.hold = false := by
  simp [State.gaugeSampled, and_assoc]

/-- A short puts its gauge in OUTPUT_FAULT with CH_TRIP, and ends a test of that gauge alone. -/
theorem gaugeShorted_eq (s : State) (g : GaugeId) (milliamps : Nat) :
    let lastTested := (s.gauge g).state = .test ∧ ∀ h, h ≠ g → (s.gauge h).state ≠ .test
    let tripped := s.raise .chTrip (15 + g.val) milliamps
    let t := s.gaugeShorted g milliamps
    (∀ h, t.gauge h =
      if h = g then { s.gauge g with state := .outputFault, d := 0, limit := .none, shortCount := 0, fresh := false } else s.gauge h) ∧
      (lastTested → t.gauges.testStep = 0 ∧ t.report = (tripped.raise .testEnd 0 1).report) ∧
      (¬ lastTested → t.gauges.testStep = s.gauges.testStep ∧ t.report = tripped.report) ∧
      t = { s with gauges := t.gauges, report := t.report } := by
  intro lastTested tripped t
  have channel : (gaugeChan g).val = 15 + g.val := by fin_cases g <;> rfl
  have written : (s.setGauge g ((s.gauge g).leaveRun .outputFault)).raise .chTrip (15 + g.val) milliamps =
      { s.setGauge g ((s.gauge g).leaveRun .outputFault) with report := tripped.report } := raise_eq (by rfl) ..
  have gauge (h : GaugeId) : (s.setGauge g ((s.gauge g).leaveRun .outputFault)).gauge h =
      if h = g then { s.gauge g with state := .outputFault, d := 0, limit := .none, shortCount := 0, fresh := false } else s.gauge h :=
    State.gauge_setGauge ..
  have last : ((s.gauge g).state = .test ∧
      State.testRunning { s.setGauge g ((s.gauge g).leaveRun .outputFault) with report := tripped.report } = false) ↔ lastTested := by
    refine and_congr_right fun _ => ?_
    rw [← Bool.not_eq_true, testRunning_iff, not_exists]
    refine forall_congr' fun h => ?_
    rw [show State.gauge { s.setGauge g ((s.gauge g).leaveRun .outputFault) with report := tripped.report } h = _ from gauge h]
    by_cases here : h = g <;> simp [here]
  have acts : t = if lastTested then
      State.abortTest { s.setGauge g ((s.gauge g).leaveRun .outputFault) with report := tripped.report }
      else { s.setGauge g ((s.gauge g).leaveRun .outputFault) with report := tripped.report } := by
    simp only [← last]
    rw [← written, ← channel]
    rfl
  clear_value t
  by_cases ends : lastTested
  · rw [if_pos ends, State.abortTest, raise_eq (u := tripped) (by rfl)] at acts
    subst acts
    exact ⟨gauge, fun _ => ⟨rfl, rfl⟩, fun not => absurd ends not, rfl⟩
  · rw [if_neg ends] at acts
    subst acts
    exact ⟨gauge, fun is => absurd is ends, fun _ => ⟨rfl, rfl⟩, rfl⟩

/-- Settles O53: the marks are whole marks, and the sample that finds a short is stored and acts. -/
theorem gaugeStatusChanges : Obligations.GaugeStatusChanges := by
  refine ⟨fun s g cls running driven full cls' change same third => ?_, fun s g milliamps running driven some free high short => ?_,
    fun s running tested last => ?_⟩
  · have filled : (s.gauge g).fullInterval = true := by simp [Gauge.fullInterval, full]
    have sender := (senseUpdate_sender (s.gauge g)).2.2.1
    obtain ⟨_, _, marked, _, count, _⟩ := marked_full driven filled (s.gauges.testStep + 1) s.testEnds s.supply.hold s.supply.vs
    rw [← cls'] at sender marked count
    rw [if_pos same, if_pos ⟨change, by omega⟩] at sender marked
    rw [if_pos same, if_pos (.inr (by omega))] at count
    have changes : s.senderChanges g = true := by
      simp only [State.senderChanges, filled, sender, Bool.and_eq_true, Bool.or_eq_true, beq_iff_eq, bne_iff_ne]
      exact ⟨⟨driven, trivial⟩, change⟩
    rw [exec_runs running (exec_senderStatusChange g s), exec_runs running (exec_gaugeUpdate s), if_pos changes]
    have gauges := (gaugeMark_eq s).1 g
    have moved : (s.gaugeMarked g).sender = cls := marked
    refine ⟨_, rfl, rfl, ?_, ?_, fun enabled room => ?_⟩
    · rw [gauges]
      exact marked
    · rw [gauges]
      exact count
    · refine gaugeMark_reports (mem_markEvents g ?_) enabled room (senderCode_fits cls)
      rw [gaugeEvents, moved, if_neg change]
      simp
  · intro lastTested tripped
    have sampled : s.gaugeSampled g = true := gaugeSampled_iff.mpr ⟨driven, some, free⟩
    have found : s.shortFound g milliamps = true := by simp [State.shortFound, sampled, high, short]
    rw [exec_runs running (exec_gaugeOutputShort g milliamps s), if_pos found, State.gaugeSample, if_pos sampled]
    obtain ⟨stored, meas⟩ := storeSample_stored s (gaugeChan g) milliamps (s.gauge g).d
    generalize s.storeSample (gaugeChan g) milliamps (s.gauge g).d = u at stored meas
    have gauge (h : GaugeId) : u.gauge h = s.gauge h := by rw [stored]; rfl
    have report : u.report = s.report := by rw [stored]
    have acts : u.gaugeActs g milliamps = u.gaugeShorted g milliamps := by
      rw [State.gaugeActs, if_pos high, gauge, if_neg short]
    obtain ⟨gauges, ends, goes, rest⟩ := gaugeShorted_eq u g milliamps
    rw [acts]
    generalize u.gaugeShorted g milliamps = t at gauges ends goes rest
    simp only [gauge] at gauges ends goes
    have trip : (u.raise .chTrip (15 + g.val) milliamps).report = tripped.report := raise_report_congr report ..
    have abort : ((u.raise .chTrip (15 + g.val) milliamps).raise .testEnd 0 1).report = (tripped.raise .testEnd 0 1).report :=
      raise_report_congr trip ..
    have step : u.gauges.testStep = s.gauges.testStep := by rw [stored]
    refine ⟨t, rfl, gauges, meas.kept (by rw [rest]), fun last => ?_, fun others => ?_, ?_⟩
    · exact ⟨(ends last).1, (ends last).2.trans abort⟩
    · exact ⟨(goes others).1.trans step, (goes others).2.trans trip⟩
    · rw [rest, stored]
  · have done : s.testRunning = true ∧ s.gauges.testStep = 59 := ⟨(testRunning_iff s).mpr tested, last⟩
    have ends : s.testEnds = true := testEnds_iff.mpr ⟨tested, by omega⟩
    rw [exec_runs running (exec_testComplete s), exec_runs running (exec_gaugeUpdate s), if_pos done]
    obtain ⟨gauges, step, report, rest⟩ := gaugeMark_eq s
    refine ⟨_, rfl, rfl, ?_, fun g test => ?_, fun enabled room => ?_, rest⟩
    · rw [step, if_pos done.1, if_pos (by omega)]
    · rw [gauges g, State.gaugeMarked, ends, marked_sensed (.inr test), last]
      simp [test, rampPosition]
    · have raised : (EventKind.testEnd, 0, 0) ∈ s.markEvents := by
        rw [State.markEvents, ends]
        simp
      obtain ⟨r, mem, kind, _, detail⟩ := gaugeMark_reports raised enabled room (by omega)
      exact ⟨r, mem, kind, detail⟩

end Sys2Proof.Machine
end

section
/-! PROOF. What a sampling moment writes: the stored samples, the record of a lamp channel that takes one, and what settling leaves of
its counts. -/

namespace Sys2Proof.Machine

/-! ### The counts of a lamp channel as a cause is settled -/

/-- Handing a value keeps a channel's lamp-out run and the last sample of its phase, and the consecutive count of one that conducts. -/
theorem handed_counts (c : LampRec) (w : Nat × Reason) (hold signalling : Bool) :
    (c.handed w hold signalling).lampRun = c.lampRun ∧ (c.handed w hold signalling).phaseSample = c.phaseSample ∧
      (c.state = .inrush ∨ c.state = .on → (c.handed w hold signalling).overCount = c.overCount ∧
        (c.handed w hold signalling).state ≠ .queued) := by
  unfold LampRec.handed
  split
  · have turnsOn (d : LampRec) : (d.turnOn hold signalling).lampRun = d.lampRun ∧ (d.turnOn hold signalling).phaseSample = d.phaseSample := by
      cases hold <;> cases signalling <;> exact ⟨rfl, rfl⟩
    by_cases dark : w.1 = 0
    · cases state : c.state <;> simp [LampRec.takeDemand, state, dark, LampRec.turnOff]
    · cases state : c.state <;> simp [LampRec.takeDemand, state, dark, turnsOn]
  · refine ⟨rfl, rfl, fun lit => ⟨rfl, ?_⟩⟩
    rcases lit with e | e <;> simp [e]

/-- A grant keeps a channel's lamp-out run and the last sample of its phase, and reaches only one that waits. -/
theorem arbitrate_counts (s : State) (ch : LampId) :
    (s.arbitrate.lamp ch).lampRun = (s.lamp ch).lampRun ∧ (s.arbitrate.lamp ch).phaseSample = (s.lamp ch).phaseSample ∧
      ((s.lamp ch).state ≠ .queued → s.arbitrate.lamp ch = s.lamp ch) := by
  rcases (arbitrate_grantPass s).lamps ch with same | ⟨queued, granted⟩
  · rw [same]
    exact ⟨rfl, rfl, fun _ => rfl⟩
  · rw [granted]
    exact ⟨rfl, rfl, fun other => absurd queued other⟩

/-- The engine does not begin to flash as a cause is settled. -/
def FlashStill (s : State) : Prop := s.flash.phase ≠ .idle ∨ s.wanted = .none

theorem flashPoke_still {s : State} (still : FlashStill s) : s.flashPoke = s :=
  if_neg fun h => still.elim (fun p => p h.1) fun w => h.2.1 w

theorem flashPoke_overCount (s : State) (ch : LampId) : (s.flashPoke.lamp ch).overCount = (s.lamp ch).overCount := by
  have cleared (l : List LampId) (u : State) : ((l.foldl State.clearPhaseSample u).lamp ch).overCount = (u.lamp ch).overCount := by
    induction l generalizing u with
    | nil => rfl
    | cons a l ih =>
      refine (ih _).trans ?_
      rw [State.clearPhaseSample, State.lamp_setLamp]
      split
      · rename_i here; rw [here]
      · rfl
  have restarted (fl : Flash) (l : List LampId) (u : State) :
      ((l.foldl (State.restartIfCeased fl) u).lamp ch).overCount = (u.lamp ch).overCount := by
    induction l generalizing u with
    | nil => rfl
    | cons a l ih =>
      refine (ih _).trans ?_
      unfold State.restartIfCeased
      split
      · rw [State.lamp_setLamp]
        split
        · rename_i here; rw [here]
        · rfl
      · rfl
  unfold State.flashPoke
  split
  · obtain ⟨fl, e, _⟩ := onStart_writes s s.wanted
    have counts := (restarted fl allLamps (allLamps.foldl State.clearPhaseSample s)).trans (cleared allLamps s)
    rw [e]
    generalize allLamps.foldl (State.restartIfCeased fl) _ = u at counts
    exact counts
  · rfl

/-- Each channel is handed its value from the record that the engine's start leaves. -/
theorem handedOn_lamp_eq (s : State) (ch : LampId) : s.handedOn.lamp ch =
    (s.flashPoke.lamp ch).handed (s.handedOn.wantOf ch) s.supply.hold (s.signalling ch) := by
  have k := (flashPoke_keeps s).trans ((gaugePoke_keeps _).trans (resolveAll_keeps _))
  rw [← handedOn_wantOf, State.handedOn, State.handAll, handList_lamp allLamps (by decide), if_pos (mem_allLamps ch), k.supply,
    signalling_congr k, resolveAll_lamp, gaugePoke_lamp]

theorem settle_overCount (s : State) {ch : LampId} (lit : (s.lamp ch).state = .inrush ∨ (s.lamp ch).state = .on) :
    (s.settle.lamp ch).overCount = (s.lamp ch).overCount := by
  have poked : (s.flashPoke.lamp ch).state = (s.lamp ch).state := (flashPoke_quietLamps s ch).state
  have lamp : s.ready.lamp ch = _ := (ready_lamp s ch).trans (handedOn_lamp_eq s ch)
  obtain ⟨_, _, counts⟩ := handed_counts (s.flashPoke.lamp ch) (s.handedOn.wantOf ch) s.supply.hold (s.signalling ch)
  obtain ⟨count, state⟩ := counts (by rw [poked]; exact lit)
  rw [← lamp] at count state
  rw [settle_eq, (arbitrate_counts s.ready ch).2.2 state, count, flashPoke_overCount]

/-- Where the engine does not begin to flash, settling keeps every lamp-out run and every phase's last sample. -/
theorem settle_runs {s : State} (still : FlashStill s) (ch : LampId) :
    (s.settle.lamp ch).lampRun = (s.lamp ch).lampRun ∧ (s.settle.lamp ch).phaseSample = (s.lamp ch).phaseSample := by
  have lamp : s.ready.lamp ch = _ := (ready_lamp s ch).trans (handedOn_lamp_eq s ch)
  obtain ⟨run, sample, _⟩ := handed_counts (s.flashPoke.lamp ch) (s.handedOn.wantOf ch) s.supply.hold (s.signalling ch)
  obtain ⟨run', sample', _⟩ := arbitrate_counts s.ready ch
  rw [← lamp, flashPoke_still still] at run sample
  rw [settle_eq]
  exact ⟨run'.trans run, sample'.trans sample⟩

/-! ### A sample of a lamp channel (R11, R17, R18) -/

theorem setLamp_twice (s : State) (ch : LampId) (c d : LampRec) : (s.setLamp ch c).setLamp ch d = s.setLamp ch d := by
  have same : (s.bank.lamps.set ch c).set ch d = s.bank.lamps.set ch d := Vector.set_set ..
  exact congrArg (fun v => { s with bank := { s.bank with lamps := v } }) same

theorem setLamp_self (s : State) (ch : LampId) : s.setLamp ch (s.lamp ch) = s := by
  have same : s.bank.lamps.set ch (s.bank.lamps[ch]) = s.bank.lamps := Vector.set_getElem_self ..
  exact congrArg (fun v => { s with bank := { s.bank with lamps := v } }) same

theorem after_eq (r : Run) (verdict : Bool) :
    r.after verdict = { verdict := verdict, count := if r.verdict = verdict then min 3 (r.count + 1) else 1 } := by
  unfold Run.after
  split <;> rfl

/-- A run reaches three with an agreeing verdict after at least two. -/
theorem after_third {r : Run} {verdict : Bool} : (r.after verdict).count = 3 ↔ r.verdict = verdict ∧ 2 ≤ r.count := by
  rw [after_eq]
  dsimp only
  split
  · rename_i same
    simp only [same, true_and]
    omega
  · rename_i other
    simp [other]

/-- The sample that changes the lamp_out flag of a steady ON channel. -/
theorem lampOutDecides_iff {s : State} {ch : LampId} {v : Nat} :
    s.lampOutDecides ch v = true ↔
      ((s.lamp ch).state = .on ∧ s.flashDriven ch = false) ∧
        (s.lamp ch).lampRun.verdict = decide (v < lampOutThreshold (s.lamp ch).cfg) ∧ 2 ≤ (s.lamp ch).lampRun.count ∧
        (s.lamp ch).lampOut ≠ decide (v < lampOutThreshold (s.lamp ch).cfg) := by
  have verdict (r : Run) (b : Bool) : (r.after b).verdict = b := by rw [after_eq]
  unfold State.lampOutDecides
  dsimp only
  rw [verdict]
  simp only [Bool.and_eq_true, beq_iff_eq, bne_iff_ne, Bool.not_eq_true', after_third, and_assoc, ne_comm]

/-- The record of a lamp channel after a current sample, up to the trip that the sample may decide. -/
def State.lampTaken (s : State) (ch : LampId) (v : Nat) : LampRec :=
  { s.lamp ch with
    phaseSample := if s.flashDriven ch = true ∧ s.flash.phase = .on then some v else (s.lamp ch).phaseSample
    lampRun :=
      if (s.lamp ch).state = .on ∧ s.flashDriven ch = false then
        (s.lamp ch).lampRun.after (v < lampOutThreshold (s.lamp ch).cfg)
      else (s.lamp ch).lampRun
    lampOut := if s.lampOutDecides ch v then decide (v < lampOutThreshold (s.lamp ch).cfg) else (s.lamp ch).lampOut
    overCount := overCountAfter ch (s.lamp ch) v }

/-- The part after the event of the lamp_out decision that a sample may bring. -/
def State.lampSpoken (s : State) (ch : LampId) (v : Nat) : State :=
  if s.lampOutDecides ch v then s.raise (if decide (v < lampOutThreshold (s.lamp ch).cfg) then .chLampOut else .chLampOk) ch.val v else s

theorem judgeSample_eq (s : State) (ch : LampId) (v : Nat) :
    s.judgeSample ch v = { s.setLamp ch { s.lampTaken ch v with overCount := (s.lamp ch).overCount } with
      report := (s.lampSpoken ch v).report } := by
  have verdict (r : Run) (b : Bool) : (r.after b).verdict = b := by rw [after_eq]
  have silent (no : s.lampOutDecides ch v = false) : (s.lampSpoken ch v).report = s.report := by
    rw [State.lampSpoken, no]
    rfl
  unfold State.judgeSample
  dsimp only
  by_cases driven : s.flashDriven ch = true
  · have no : s.lampOutDecides ch v = false := by simp [State.lampOutDecides, driven]
    rw [if_pos driven, silent no]
    split
    · rename_i on
      have taken : { s.lampTaken ch v with overCount := (s.lamp ch).overCount } = { s.lamp ch with phaseSample := some v } := by
        simp [State.lampTaken, no, driven, on]
      rw [taken]
      rfl
    · rename_i off
      have same : { s.lampTaken ch v with overCount := (s.lamp ch).overCount } = s.lamp ch := by
        simp [State.lampTaken, no, driven, off]
      rw [same, setLamp_self]
  · rw [if_neg driven]
    have steady : s.flashDriven ch = false := by simpa using driven
    split
    · rename_i on
      split
      · rename_i third
        have written := State.lamp_setLamp_same s ch
          { s.lamp ch with lampRun := (s.lamp ch).lampRun.after (v < lampOutThreshold (s.lamp ch).cfg) }
        unfold State.setLampOut
        dsimp only
        rw [written, verdict, setLamp_twice]
        dsimp only
        by_cases same : (s.lamp ch).lampOut = decide (v < lampOutThreshold (s.lamp ch).cfg)
        · have no : s.lampOutDecides ch v = false := by
            rw [Bool.eq_false_iff]
            exact fun yes => (lampOutDecides_iff.mp yes).2.2.2 same
          have taken : { s.lampTaken ch v with overCount := (s.lamp ch).overCount } =
              { s.lamp ch with lampRun := (s.lamp ch).lampRun.after (v < lampOutThreshold (s.lamp ch).cfg) } := by
            simp [State.lampTaken, no, steady, on]
          rw [if_pos same, silent no, taken]
          rfl
        · have yes : s.lampOutDecides ch v = true :=
            lampOutDecides_iff.mpr ⟨⟨on, steady⟩, (after_third.mp third).1, (after_third.mp third).2, same⟩
          have taken : { s.lampTaken ch v with overCount := (s.lamp ch).overCount } =
              { s.lamp ch with
                lampRun := (s.lamp ch).lampRun.after (v < lampOutThreshold (s.lamp ch).cfg)
                lampOut := decide (v < lampOutThreshold (s.lamp ch).cfg) } := by
            simp [State.lampTaken, yes, steady, on]
          rw [if_neg same, raise_eq (u := s) (by rfl), State.lampSpoken, if_pos yes, taken]
      · rename_i few
        have no : s.lampOutDecides ch v = false := by
          rw [Bool.eq_false_iff]
          intro yes
          obtain ⟨_, agrees, count, _⟩ := lampOutDecides_iff.mp yes
          exact few (after_third.mpr ⟨agrees, count⟩)
        have taken : { s.lampTaken ch v with overCount := (s.lamp ch).overCount } =
            { s.lamp ch with lampRun := (s.lamp ch).lampRun.after (v < lampOutThreshold (s.lamp ch).cfg) } := by
          simp [State.lampTaken, no, steady, on]
        rw [silent no, taken]
        rfl
    · rename_i off
      have no : s.lampOutDecides ch v = false := by
        rw [Bool.eq_false_iff]
        exact fun yes => off (lampOutDecides_iff.mp yes).1.1
      have same : { s.lampTaken ch v with overCount := (s.lamp ch).overCount } = s.lamp ch := by
        simp [State.lampTaken, no, steady, off]
      rw [silent no, same, setLamp_self]

theorem lampJudged_eq (s : State) (ch : LampId) (v : Nat) :
    s.lampJudged ch v = { s.setLamp ch (s.lampTaken ch v) with report := (s.lampSpoken ch v).report } := by
  have written (r : Report) (c : LampRec) : State.lamp { s.setLamp ch c with report := r } ch = c := State.lamp_setLamp_same ..
  have twice (r : Report) (c d : LampRec) : State.setLamp { s.setLamp ch c with report := r } ch d = { s.setLamp ch d with report := r } :=
    congrArg (fun u : State => { u with report := r }) (setLamp_twice s ch c d)
  rw [State.lampJudged, judgeSample_eq, written, twice]
  rfl

end Sys2Proof.Machine
end

section
/-! PROOF. A sampling moment with the readings that fall due (O46). -/

namespace Sys2Proof.Machine

theorem exec_currentSample (readings : Vector (Option Nat) 17) (s : State) :
    exec (.currentSample readings) s = s.live (fun s => s.currentSample readings) := rfl

/-! ### What is stored (R4) -/

/-- A measurement with a sample and its slot value, which joins an interval under way. -/
def Meas.takes (m : Meas) (interval : Bool) (sample slot : Nat) : Meas :=
  if interval then { m with last := sample, slotSum := m.slotSum + slot, slotLast := slot } else { m with last := sample }

/-- A measurement after what a moment takes on its channel. -/
def Meas.takesReading (m : Meas) (interval : Bool) (taken : Taken) (reading : Nat) : Meas :=
  match taken with
  | .current duty => m.takes interval reading (reading * duty / 1000)
  | _ => m

/-- A measurement after a moment with a reading on its channel or none. -/
def Meas.afterMoment (m : Meas) (interval : Bool) (taken : Taken) : Option Nat → Meas
  | some v => m.takesReading interval taken v
  | none => m

theorem storeTaken_eq (t : State) (ch : ChanId) (taken : Taken) (v : Nat) :
    (∀ c, (t.storeTaken ch taken v).measOf c =
      if c = ch then (t.measOf c).takesReading t.bank.intervalOpen taken v else t.measOf c) ∧
      t.storeTaken ch taken v = { t with bank := { t.bank with meas := (t.storeTaken ch taken v).bank.meas } } := by
  cases taken with
  | current duty =>
    obtain ⟨rest, stored⟩ := storeSample_stored t ch v duty
    exact ⟨stored, rest⟩
  | line => exact ⟨fun c => (ite_self _).symm, rfl⟩
  | nothing => exact ⟨fun c => (ite_self _).symm, rfl⟩

/-- Storing the readings of a list of channels, each taken as a part gives it, writes each of them and no other. -/
theorem storeReadings_eq (s : State) (readings : Vector (Option Nat) 17) (l : List ChanId) (distinct : l.Nodup) (t : State) :
    let u := (l.filterMap fun ch => readings[ch].map fun v => (ch, v)).foldl (fun t x => t.storeTaken x.1 (s.takenOn x.1) x.2) t
    (∀ c, u.measOf c = match readings[c] with
      | some v => if c ∈ l then (t.measOf c).takesReading t.bank.intervalOpen (s.takenOn c) v else t.measOf c
      | none => t.measOf c) ∧
      u = { t with bank := { t.bank with meas := u.bank.meas } } := by
  induction l generalizing t with
  | nil => exact ⟨fun c => by cases readings[c] <;> simp, rfl⟩
  | cons a l ih =>
    obtain ⟨fresh, distinct⟩ := List.nodup_cons.mp distinct
    cases reading : readings[a] with
    | none =>
      obtain ⟨stored, rest⟩ := ih distinct t
      simp only [List.filterMap_cons, reading, Option.map_none]
      refine ⟨fun c => ?_, rest⟩
      rw [stored]
      by_cases here : c = a
      · rw [here, reading]
      · simp [here]
    | some v =>
      simp only [List.filterMap_cons, reading, Option.map_some, List.foldl_cons]
      obtain ⟨first, firstRest⟩ := storeTaken_eq t a (s.takenOn a) v
      generalize t.storeTaken a (s.takenOn a) v = t' at first firstRest
      obtain ⟨stored, rest⟩ := ih distinct t'
      have interval : t'.bank.intervalOpen = t.bank.intervalOpen := by rw [firstRest]
      dsimp only at stored rest ⊢
      generalize List.foldl (fun (t : State) (x : ChanId × Nat) => t.storeTaken x.1 (s.takenOn x.1) x.2) t' _ = u at stored rest
      refine ⟨fun c => ?_, rest.trans (by rw [firstRest])⟩
      rw [stored, interval, first]
      by_cases here : c = a
      · subst here
        simp [reading, fresh]
      · simp [here]

/-! ### What the readings act on -/

/-- The rules that a reading reaches, and the settling after it, keep the measurements, the controller, the inputs, the supply, the link
and the scenes. -/
structure ActsKeep (s t : State) : Prop where
  meas : t.bank.meas = s.bank.meas
  op : t.op = s.op
  inputs : t.inputs = s.inputs
  supply : t.supply = s.supply
  link : t.link = s.link
  scenes : t.resolver.scenes = s.resolver.scenes

theorem ActsKeep.refl (s : State) : ActsKeep s s := ⟨rfl, rfl, rfl, rfl, rfl, rfl⟩

theorem ActsKeep.trans {s t u : State} (h : ActsKeep s t) (k : ActsKeep t u) : ActsKeep s u :=
  ⟨k.meas.trans h.meas, k.op.trans h.op, k.inputs.trans h.inputs, k.supply.trans h.supply, k.link.trans h.link,
    k.scenes.trans h.scenes⟩

theorem SettleKeeps.acts {s t : State} (k : SettleKeeps s t) : ActsKeep s t := ⟨k.meas, k.op, k.inputs, k.supply, k.link, k.scenes⟩

theorem Examined.acts {s t : State} (k : Examined s t) : ActsKeep s t :=
  ⟨by rw [k], k.op, k.inputs, k.supply, k.link, by rw [k.resolver]⟩

theorem raise_examined (s : State) (k : EventKind) (subject detail : Nat) : Examined s (s.raise k subject detail) := by
  unfold Examined
  rw [raise_rest]

theorem lampJudged_examined (s : State) (ch : LampId) (v : Nat) : Examined s (s.lampJudged ch v) := by
  rw [lampJudged_eq]
  rfl

theorem lampTrips_examined (s : State) (ch : LampId) (v : Nat) : Examined s (s.lampTrips ch v) := by
  unfold State.lampTrips
  dsimp only
  split
  · exact (setLamp_examined ..).trans (raise_examined ..)
  · exact (((setLamp_examined ..).trans (raise_examined ..)).trans (raise_examined ..)).trans (examine_examined ..)

theorem lampActs_examined (s : State) (ch : LampId) (v : Nat) : Examined s (s.lampActs ch v) := by
  rw [lampActs_eq]
  split
  · exact (lampJudged_examined ..).trans (lampTrips_examined ..)
  · exact lampJudged_examined ..

/-- A read-back writes the fed run and flag of its channel, with CH_FED where the flag is set (R19). -/
theorem readBack_eq (s : State) (ch : LampId) (v : Nat) :
    let run := (s.lamp ch).fedRun.after (s.lineFed v)
    let fed := if run.count = 3 then run.verdict else (s.lamp ch).fed
    s.readBack ch v = { s.setLamp ch { s.lamp ch with fed := fed, fedRun := run } with
      report := if fed = true ∧ (s.lamp ch).fed = false then (s.raise .chFed ch.val v).report else s.report } := by
  intro run fed
  have acts : s.readBack ch v = if (fed && !(s.lamp ch).fed) = true then
      (s.setLamp ch { s.lamp ch with fedRun := run, fed := fed }).raise .chFed ch.val v
      else s.setLamp ch { s.lamp ch with fedRun := run, fed := fed } := rfl
  rw [acts]
  simp only [Bool.and_eq_true, Bool.not_eq_true']
  split
  · exact raise_eq (by rfl) ..
  · rfl

theorem readBack_examined (s : State) (ch : LampId) (v : Nat) : Examined s (s.readBack ch v) := by
  rw [readBack_eq]
  rfl

theorem fanActs_eq (s : State) (v : Nat) :
    s.fanActs v = { s with fan := (s.fanActs v).fan, report := (s.fanActs v).report } := by
  unfold State.fanActs
  split
  · rw [fanStalled_report]
  · split <;> rfl

theorem gaugeActs_eq (s : State) (g : GaugeId) (v : Nat) :
    s.gaugeActs g v = { s with gauges := (s.gaugeActs g v).gauges, report := (s.gaugeActs g v).report } := by
  unfold State.gaugeActs
  split
  · split
    · rfl
    · exact (gaugeShorted_eq s g v).2.2.2
  · rfl

theorem readingActs_keeps (s : State) (ch : ChanId) (taken : Taken) (v : Nat) : ActsKeep s (s.readingActs ch taken v) := by
  unfold State.readingActs State.sampleActs
  split
  · split
    · exact (lampActs_examined ..).acts
    · split
      · rw [fanActs_eq]
        exact ⟨rfl, rfl, rfl, rfl, rfl, rfl⟩
      · rw [gaugeActs_eq]
        exact ⟨rfl, rfl, rfl, rfl, rfl, rfl⟩
  · split
    · exact (readBack_examined ..).acts
    · exact .refl s
  · exact .refl s

/-- The readings of a moment, one cause after another. -/
theorem actReadings_keeps (s : State) (due : List (ChanId × Nat)) (t : State) :
    let u := due.foldl (fun t x => (t.readingActs x.1 (s.takenOn x.1) x.2).settle) t
    ActsKeep t u ∧ (due ≠ [] → Consistent u) := by
  induction due generalizing t with
  | nil => exact ⟨.refl t, fun none => absurd rfl none⟩
  | cons x due ih =>
    have rest := ih (t.readingActs x.1 (s.takenOn x.1) x.2).settle
    dsimp only at rest ⊢
    rw [List.foldl_cons]
    obtain ⟨keeps, consistent⟩ := rest
    have first := (readingActs_keeps t x.1 (s.takenOn x.1) x.2).trans (settle_keeps (t.readingActs x.1 (s.takenOn x.1) x.2)).acts
    refine ⟨first.trans keeps, fun _ => ?_⟩
    cases due with
    | nil =>
      rw [List.foldl_nil]
      exact settle_consistent _
    | cons y due => exact consistent (by simp)

/-- A sampling moment outside SLEEP: each measurement as its output stands, and nothing else of the part that readings do not reach. -/
theorem currentSample_spec {s : State} (awake : s.op.state ≠ .sleep) (readings : Vector (Option Nat) 17) :
    let t := s.currentSample readings
    (∀ c, t.measOf c = (s.measOf c).afterMoment s.bank.intervalOpen (s.takenOn c) readings[c]) ∧
      t.op = s.op ∧ t.inputs = s.inputs ∧ t.supply = s.supply ∧ t.link = s.link ∧ t.resolver.scenes = s.resolver.scenes ∧
      ((∃ ch : ChanId, readings[ch] ≠ none) → Consistent t) ∧ ((∀ ch : ChanId, readings[ch] = none) → t = s) := by
  intro t
  have everyChan (ch : ChanId) : ch ∈ allChans := by revert ch; decide
  have value : t = s.takeReadings (dueReadings readings) := (currentSample_eq s readings).trans (if_neg awake)
  obtain ⟨stored, rest⟩ := storeReadings_eq s readings allChans (by decide) s
  obtain ⟨keeps, consistent⟩ := actReadings_keeps s (dueReadings readings)
    ((dueReadings readings).foldl (fun t x => t.storeTaken x.1 (s.takenOn x.1) x.2) s)
  have empty : dueReadings readings = [] ↔ ∀ ch : ChanId, readings[ch] = none := by
    simp [dueReadings, List.filterMap_eq_nil_iff, everyChan]
  change ActsKeep _ (s.takeReadings (dueReadings readings)) at keeps
  change _ → Consistent (s.takeReadings (dueReadings readings)) at consistent
  have none' (none : dueReadings readings = []) : t = s := by
    rw [value, none]
    rfl
  change ∀ c, State.measOf (List.foldl _ s (dueReadings readings)) c = _ at stored
  change List.foldl _ s (dueReadings readings) = _ at rest
  rw [← value] at keeps consistent
  clear_value t
  generalize List.foldl (fun (t : State) (x : ChanId × Nat) => t.storeTaken x.1 (s.takenOn x.1) x.2) s (dueReadings readings) = u at keeps stored rest
  refine ⟨fun c => ?_, keeps.op.trans (by rw [rest]), keeps.inputs.trans (by rw [rest]), keeps.supply.trans (by rw [rest]),
    keeps.link.trans (by rw [rest]), keeps.scenes.trans (by rw [rest]), fun some => consistent fun none => ?_, fun none => ?_⟩
  · rw [State.measOf, keeps.meas]
    refine (stored c).trans ?_
    cases readings[c] <;> simp [everyChan, Meas.afterMoment]
  · obtain ⟨ch, some⟩ := some
    exact some (empty.mp none ch)
  · exact none' (empty.mpr none)

end Sys2Proof.Machine
end

section
/-! PROOF. Samples are taken where outputs conduct (O46). -/

namespace Sys2Proof.Machine

/-! ### One reading of a lamp channel -/

/-- The slot value of a conducting lamp channel goes by its percentage of the slot (R4, R16). -/
theorem slot_percent {s : State} {ch : LampId} (lit : (s.lamp ch).state = .inrush ∨ (s.lamp ch).state = .on) (v : Nat) :
    v * (10 * s.appliedDuty ch) / 1000 = v * slotPercent s ch / 100 := by
  have dark : ¬ ((s.lamp ch).state ≠ .inrush ∧ (s.lamp ch).state ≠ .on) := by tauto
  have duty : s.appliedDuty ch = slotPercent s ch := by
    rw [appliedDuty_eq]
    simp only [dark, or_false]
    rfl
  rw [duty, Nat.mul_left_comm]
  exact Nat.mul_div_mul_left _ 100 (by norm_num)

/-- The threshold in force of a conducting lamp channel, spelled (R11). -/
theorem tripsOn_iff {ch : LampId} {c : LampRec} {v : Nat} (lit : c.state = .inrush ∨ c.state = .on) :
    tripsOn ch c v = true ↔ hardLimit ch ≤ v ∨
      ((if c.state = .inrush then min (8 * c.cfg.nominal) (hardLimit ch)
        else min (c.cfg.nominal * c.cfg.tripPct / 100) (maxContinuous ch)) < v ∧ 2 ≤ c.overCount) := by
  have conducts := conducts_iff.mpr lit
  have threshold : overThreshold ch c = if c.state = .inrush then min (8 * c.cfg.nominal) (hardLimit ch)
      else min (c.cfg.nominal * c.cfg.tripPct / 100) (maxContinuous ch) := rfl
  have count : 3 ≤ overCountAfter ch c v ↔ overThreshold ch c < v ∧ 2 ≤ c.overCount := by
    unfold overCountAfter
    split
    · rename_i over'
      simp only [over', true_and]
      omega
    · rename_i under
      simp [under]
  simp [tripsOn, conducts, count, threshold]

/-- A moment with one reading of a conducting lamp channel. -/
theorem currentSample_lit {s : State} (awake : s.op.state ≠ .sleep) {ch : LampId}
    (lit : (s.lamp ch).state = .inrush ∨ (s.lamp ch).state = .on) (v : Nat) :
    s.currentSample (only (lampChan ch) v) = (s.lampSample ch v).settle := by
  rw [State.currentSample_only _ _ _ awake, State.takenOn_lamp, if_pos (conducts_iff.mpr lit)]
  exact congrArg State.settle (State.sampleActs_lamp _ ch v)

/-- A sample of a conducting lamp channel that neither trips it nor decides its lamp_out flag. -/
theorem lampSample_plain {s : State} {ch : LampId} {v : Nat} (holds : tripsOn ch (s.lamp ch) v = false)
    (undecided : s.lampOutDecides ch v = false) :
    ∃ m, s.lampSample ch v = State.setLamp { s with bank := { s.bank with meas := m } } ch (s.lampTaken ch v) ∧
      MeasStored s { s with bank := { s.bank with meas := m } } (lampChan ch) v (v * (10 * s.appliedDuty ch) / 1000) := by
  obtain ⟨rest, stored⟩ := storeSample_stored s (lampChan ch) v (10 * s.appliedDuty ch)
  refine ⟨_, ?_, rest ▸ stored⟩
  rw [State.lampSample, rest, lampActs_eq]
  generalize (s.storeSample (lampChan ch) v (10 * s.appliedDuty ch)).bank.meas = m
  have same : State.lamp { s with bank := { s.bank with meas := m } } ch = s.lamp ch := rfl
  have still : State.lampOutDecides { s with bank := { s.bank with meas := m } } ch v = false := undecided
  rw [same, if_neg (by simp [holds]), lampJudged_eq, State.lampSpoken, if_neg (by simp [still])]
  rfl

/-- The counts alone move: what settling keeps of a lamp record holds of the record with its sample. -/
theorem lampTaken_kept {s : State} {ch : LampId} {v : Nat} (undecided : s.lampOutDecides ch v = false) :
    LampKept (s.lamp ch) (s.lampTaken ch v) := by
  have out : (s.lampTaken ch v).lampOut = (s.lamp ch).lampOut := by simp [State.lampTaken, undecided]
  constructor
  case lampOut => exact out
  all_goals simp [State.lampTaken]

theorem exec_trip (ch : LampId) (v : Nat) (s : State) :
    exec (.trip ch v) s = s.live (fun s => if tripsOn ch (s.lamp ch) v then (s.lampSample ch v).settle else s) := rfl

theorem exec_lampOutDecision (ch : LampId) (v : Nat) (s : State) :
    exec (.lampOutDecision ch v) s = s.live (fun s => if s.lampOutDecides ch v then (s.lampSample ch v).settle else s) := rfl

/-- A moment with one reading of a lamp channel on which nothing is taken. -/
theorem currentSample_idle {s : State} (awake : s.op.state ≠ .sleep) {ch : LampId}
    (idle : (s.lamp ch).state = .queued ∨
      ((s.lamp ch).state ≠ .inrush ∧ (s.lamp ch).state ≠ .on ∧ s.supply.hold = true)) (v : Nat) :
    s.currentSample (only (lampChan ch) v) = s.settle := by
  have dark : ¬ (s.lamp ch).state.conducts = true := by
    rw [conducts_iff]
    rcases idle with e | ⟨e, e', _⟩
    · simp [e]
    · simp [e, e']
  have unread : ¬ s.readBackTaken ch = true := by
    rcases idle with e | ⟨_, _, hold⟩
    · simp [State.readBackTaken, e, LampState.readBack]
    · simp [State.readBackTaken, hold]
  rw [State.currentSample_only _ _ _ awake, State.takenOn_lamp, if_neg dark, if_neg unread]
  rfl

/-- A moment with one reading of a lamp channel that is off. -/
theorem currentSample_line {s : State} (awake : s.op.state ≠ .sleep) {ch : LampId}
    (off : (s.lamp ch).state = .off ∨ (s.lamp ch).state = .tripped ∨ (s.lamp ch).state = .lockedOut) (free : s.supply.hold = false)
    (v : Nat) : s.currentSample (only (lampChan ch) v) = (s.readBack ch v).settle := by
  have dark : ¬ (s.lamp ch).state.conducts = true := by
    rw [conducts_iff]
    rcases off with e | e | e <;> simp [e]
  have read : s.readBackTaken ch = true := by
    rcases off with e | e | e <;> simp [State.readBackTaken, e, free, awake, LampState.readBack]
  rw [State.currentSample_only _ _ _ awake, State.takenOn_lamp, if_neg dark, if_pos read]
  exact congrArg State.settle (State.readingActs_line _ ch v)

/-- A moment with one reading of a conducting lamp channel that neither trips it nor decides its lamp_out flag. -/
theorem currentSample_plain {s : State} (awake : s.op.state ≠ .sleep) {ch : LampId}
    (lit : (s.lamp ch).state = .inrush ∨ (s.lamp ch).state = .on) {v : Nat} (holds : tripsOn ch (s.lamp ch) v = false)
    (undecided : s.lampOutDecides ch v = false) :
    let t := s.currentSample (only (lampChan ch) v)
    SettleKeeps { s with bank := { s.bank with meas := t.bank.meas } } t ∧ Consistent t ∧
      (t.lamp ch).overCount = overCountAfter ch (s.lamp ch) v ∧
      (FlashStill s → (t.lamp ch).phaseSample = (s.lampTaken ch v).phaseSample ∧ (t.lamp ch).lampRun = (s.lampTaken ch v).lampRun) := by
  intro t
  obtain ⟨m, sampled, _⟩ := lampSample_plain holds undecided
  have value : t = _ := (currentSample_lit awake lit v).trans (congrArg State.settle sampled)
  have written : State.lamp (State.setLamp { s with bank := { s.bank with meas := m } } ch (s.lampTaken ch v)) ch = s.lampTaken ch v :=
    State.lamp_setLamp_same ..
  have count := settle_overCount (State.setLamp { s with bank := { s.bank with meas := m } } ch (s.lampTaken ch v)) (ch := ch)
    (by rw [written]; exact lit)
  have runs (still : FlashStill s) :=
    settle_runs (s := State.setLamp { s with bank := { s.bank with meas := m } } ch (s.lampTaken ch v)) still ch
  have settled := settle_keeps (State.setLamp { s with bank := { s.bank with meas := m } } ch (s.lampTaken ch v))
  have consistent := settle_consistent (State.setLamp { s with bank := { s.bank with meas := m } } ch (s.lampTaken ch v))
  have before : SettleKeeps { s with bank := { s.bank with meas := m } }
      (State.setLamp { s with bank := { s.bank with meas := m } } ch (s.lampTaken ch v)) := keeps_setLamp (lampTaken_kept undecided)
  rw [written] at count runs
  rw [← value] at count runs settled consistent
  clear_value t
  have keeps := before.trans settled
  have meas : t.bank.meas = m := keeps.meas
  refine ⟨?_, consistent, count, fun still => ⟨(runs still).2, (runs still).1⟩⟩
  rw [meas]
  exact keeps

/-! ### One reading of the fan and of a gauge -/

/-- A fan at its resolved step that neither stands stopped nor waits stays as it is while a cause is settled. -/
theorem settle_fan_still {s : State} (step : (s.resolve .fan).1 = s.fan.step) (stopped : s.fan.state ≠ .stopped)
    (waiting : s.fan.state ≠ .waiting) : s.settle.fan = s.fan := by
  have ready : s.ready.fan = s.fan := by
    rw [ready_fan, step, Fan.follows]
    simp [stopped]
  rw [settle_eq]
  rcases (arbitrate_grantPass s.ready).fan with same | ⟨waits, _⟩
  · exact same.trans ready
  · rw [ready] at waits
    exact absurd waits waiting

/-- A gauge that is not OFF stays as it is while a cause is settled. -/
theorem settle_gauge_still {s : State} {g : GaugeId} (on : (s.gauge g).state ≠ .off) : s.settle.gauge g = s.gauge g := by
  rw [settle_gauge]
  exact if_neg fun h => on h.1

/-- The fan's record after a sample of channel 14, and the report (R97, R98). -/
theorem fanActs_spec (s : State) (v : Nat) :
    (s.fan.stalls v = false → s.fanActs v =
      { s with fan := { s.fan with stallTimer := if s.fan.state = .kick then s.fan.stallTimer else s.fan.stallTimerAfter v } }) ∧
    (s.fan.stalls v = true → s.fanActs v = s.fanStalled v) := by
  refine ⟨fun no => ?_, fun yes => if_pos yes⟩
  rw [State.fanActs, if_neg (by simp [no])]
  split <;> rfl

/-- A moment with one reading of a driven fan whose step is the resolved one. -/
theorem currentSample_fan {s : State} (awake : s.op.state ≠ .sleep) (consistent : Consistent s) (driven : s.fan.driven = true) (v : Nat) :
    let t := s.currentSample (only 14 v)
    (s.fan.stalls v = false → t.report = s.report ∧
      t.fan = { s.fan with stallTimer := if s.fan.state = .kick then s.fan.stallTimer else s.fan.stallTimerAfter v }) ∧
    (s.fan.stalls v = true → t.fan = s.fan.stalled ∧
      t.report = if s.fan.retriesUsed < s.fan.settings.retryLimit then (s.raise .fanStall 14 v).report
        else ((s.raise .fanStall 14 v).raise .fanLockout 14 s.fan.retriesUsed).report) := by
  intro t
  obtain ⟨stored, _⟩ := storeSample_stored s fanChan v s.fan.applied
  have value : t = ((s.storeSample fanChan v s.fan.applied).fanActs v).settle := by
    have taken : s.takenOn 14 = .current s.fan.applied := (State.takenOn_fan s).trans (if_pos driven)
    refine (State.currentSample_only s 14 v awake).trans ?_
    rw [taken]
    rfl
  have step : s.fan.step = (s.resolve .fan).1 := consistent.fanStep.trans (consistent.resolved .fan).1
  rw [value, stored]
  generalize (s.storeSample fanChan v s.fan.applied).bank.meas = m
  have running : s.fan.state ≠ .stopped ∧ s.fan.state ≠ .waiting := by
    have conducts : s.fan.state.conducts = true := by
      simp only [Fan.driven, Bool.and_eq_true] at driven
      exact driven.1
    constructor <;> intro e <;> simp [e, FanState.conducts] at conducts
  obtain ⟨plain, stalls⟩ := fanActs_spec { s with bank := { s.bank with meas := m } } v
  refine ⟨fun no => ?_, fun yes => ?_⟩
  · rw [plain no]
    exact ⟨(settle_keeps _).report, settle_fan_still step.symm running.1 running.2⟩
  · have out : s.fan.stalled.state ≠ .stopped ∧ s.fan.stalled.state ≠ .waiting ∧ s.fan.stalled.step = s.fan.step := by
      unfold Fan.stalled
      split <;> simp [Fan.stop]
    rw [stalls yes, fanStalled_report]
    refine ⟨settle_fan_still (step.symm.trans out.2.2.symm) out.1 out.2.1, (settle_keeps _).report.trans ?_⟩
    have stall := raise_report_congr (s := { s with bank := { s.bank with meas := m } }) (t := s) rfl .fanStall 14 v
    dsimp only
    rw [stall, raise_report_congr stall]

/-- A moment with one reading of a gauge whose output is sampled. -/
theorem currentSample_gauge {s : State} (awake : s.op.state ≠ .sleep) {g : GaugeId} (sampled : s.gaugeSampled g = true) (v : Nat) :
    ∃ m, s.currentSample (only (gaugeChan g) v) = (State.gaugeActs { s with bank := { s.bank with meas := m } } g v).settle := by
  obtain ⟨stored, _⟩ := storeSample_stored s (gaugeChan g) v (s.gauge g).d
  refine ⟨(s.storeSample (gaugeChan g) v (s.gauge g).d).bank.meas, (State.currentSample_only s _ v awake).trans ?_⟩
  rw [State.takenOn_gauge, if_pos sampled, ← stored]
  exact congrArg State.settle (State.sampleActs_gauge _ g v)

/-- The reading of a moment with one reading. -/
theorem only_get (ch c : ChanId) (v : Nat) : (only ch v)[c] = if c = ch then some v else none := by
  unfold only
  by_cases here : c = ch
  · subst here
    simp
  · have other : ch.val ≠ c.val := fun e => here (Fin.ext e.symm)
    simp [here, other]

/-! ### What is taken -/

/-- A current is taken on a channel exactly where a condition holds, at a duty. -/
structure TakesCurrent (taken : Taken) (when : Prop) (duty : Nat) : Prop where
  current : when → taken = .current duty
  other : ¬ when → ∀ d, taken ≠ .current d

theorem takesReading_other {m : Meas} {interval : Bool} {taken : Taken} (h : ∀ d, taken ≠ .current d) (v : Nat) :
    m.takesReading interval taken v = m := by
  cases taken with
  | current d => exact absurd rfl (h d)
  | line => rfl
  | nothing => rfl

theorem takes_last (m : Meas) (interval : Bool) (v slot : Nat) : (m.takes interval v slot).last = v := by
  unfold Meas.takes
  split <;> rfl

/-- What a moment makes of a channel's measurement, by the condition under which a current is taken there. -/
theorem TakesCurrent.measured {taken : Taken} {lit : Prop} {duty : Nat} (h : TakesCurrent taken lit duty) {m n : Meas} {interval : Bool}
    {reading : Option Nat} (e : n = m.afterMoment interval taken reading) :
    (lit → n.last = reading.getD m.last) ∧ (¬ lit → n = m) ∧
      ∀ v, lit → reading = some v → n = m.takes interval v (v * duty / 1000) := by
  subst e
  refine ⟨fun on => ?_, fun off => ?_, fun v on some => ?_⟩
  · cases reading with
    | none => rfl
    | some v =>
      rw [Meas.afterMoment, h.current on]
      exact takes_last ..
  · cases reading with
    | none => rfl
    | some v => exact takesReading_other (h.other off) v
  · rw [some, h.current on]
    rfl

theorem takesCurrent_lamp (s : State) (ch : LampId) :
    TakesCurrent (s.takenOn (lampChan ch)) ((s.lamp ch).state = .inrush ∨ (s.lamp ch).state = .on) (10 * s.appliedDuty ch) where
  current lit := by rw [State.takenOn_lamp, if_pos (conducts_iff.mpr lit)]
  other dark d := by
    rw [State.takenOn_lamp, if_neg (mt conducts_iff.mp dark)]
    split <;> simp

theorem takesCurrent_fan (s : State) : TakesCurrent (s.takenOn fanChan) (s.fan.state.conducts = true ∧ s.fan.applied ≠ 0) s.fan.applied where
  current on := by rw [State.takenOn_fan, if_pos (by simp [Fan.driven, on.1, on.2])]
  other off d := by
    rw [State.takenOn_fan, if_neg (by simpa [Fan.driven] using off)]
    simp

theorem takesCurrent_gauge (s : State) (g : GaugeId) :
    TakesCurrent (s.takenOn (gaugeChan g)) (s.gaugeSampled g = true) (s.gauge g).d where
  current on := by rw [State.takenOn_gauge, if_pos on]
  other off d := by
    rw [State.takenOn_gauge, if_neg off]
    simp

/-- Settles O46: what each channel takes is stored, and one reading reaches the rules of its channel. -/
theorem samplesAreTakenWhereOutputsConduct : Obligations.SamplesAreTakenWhereOutputsConduct := by
  refine ⟨fun s readings running => ⟨fun asleep => ?_, fun awake => ?_⟩, fun s ch v running awake => ?_, fun s v running awake consistent
    conducts driven => ?_, fun s g v running awake state some free => ?_⟩
  · rw [exec_runs running (exec_currentSample readings s), currentSample_eq, if_pos asleep]
  · rw [exec_runs running (exec_currentSample readings s)]
    obtain ⟨meas, op, inputs, supply, link, scenes, consistent, idle⟩ := currentSample_spec awake readings
    generalize s.currentSample readings = t at meas op inputs supply link scenes consistent idle
    have lamp (ch : LampId) := (takesCurrent_lamp s ch).measured (meas (lampChan ch))
    have fan := (takesCurrent_fan s).measured (meas fanChan)
    have gauge (g : GaugeId) := (takesCurrent_gauge s g).measured (meas (gaugeChan g))
    refine ⟨t, rfl, fun ch => ?_, ?_, fun g => ?_, ⟨fun ch v lit reading => ?_, fun v on some reading => ?_, fun g v on reading => ?_,
      fun ch noInrush noOn => ?_, fun off => ?_, fun g off => ?_, fun ch none => ?_⟩, op, inputs, supply, link, scenes, consistent, idle⟩
    · split
      · rename_i lit
        exact (lamp ch).1 lit
      · rename_i dark
        rw [(lamp ch).2.1 dark]
    · split
      · rename_i on
        exact fan.1 on
      · rename_i off
        exact congrArg Meas.last (fan.2.1 off)
    · split
      · rename_i on
        exact (gauge g).1 on
      · rename_i off
        rw [(gauge g).2.1 off]
    · refine ((lamp ch).2.2 v lit reading).trans ?_
      rw [slot_percent lit]
      rfl
    · exact fan.2.2 v ⟨on, some⟩ reading
    · exact (gauge g).2.2 v on reading
    · exact (lamp ch).2.1 (by tauto)
    · refine fan.2.1 fun on => ?_
      rcases off with no | none
      · rw [on.1] at no
        cases no
      · exact on.2 none
    · exact (gauge g).2.1 (by simp [off])
    · rw [meas, none]
      rfl
  · intro c sampled
    have runs : sampled = .next (s.currentSample (only (lampChan ch) v)) := exec_runs running (exec_currentSample _ s)
    refine ⟨fun lit => ?_, fun idle => ?_, fun off free => ?_⟩
    · intro limit out trips steady decides
      have tripsIff : tripsOn ch (s.lamp ch) v = true ↔ trips := tripsOn_iff lit
      have decidesIff : s.lampOutDecides ch v = true ↔ decides := lampOutDecides_iff
      refine ⟨fun yes => ?_, fun _ yes => ?_, fun holds undecided => ?_⟩
      · rw [runs, currentSample_lit awake lit, exec_runs running (exec_trip ch v s), if_pos (tripsIff.mpr yes)]
      · rw [runs, currentSample_lit awake lit, exec_runs running (exec_lampOutDecision ch v s), if_pos (decidesIff.mpr yes)]
      · obtain ⟨keeps, consistent, count, still⟩ := currentSample_plain awake lit (v := v)
          (by rw [← Bool.not_eq_true, tripsIff]; exact holds) (by rw [← Bool.not_eq_true, decidesIff]; exact undecided)
        refine ⟨_, runs, keeps, consistent, count, fun stays => ?_⟩
        obtain ⟨sample, run⟩ := still stays
        refine ⟨sample, fun on => run.trans ?_, fun other => run.trans (if_neg other)⟩
        exact (if_pos on).trans (after_eq ..)
    · refine ⟨_, runs, ?_⟩
      rw [currentSample_idle awake idle]
      exact ⟨settle_keeps s, settle_consistent s⟩
    · intro now n fed
      refine ⟨_, runs, ?_⟩
      rw [currentSample_line awake off free, readBack_eq, after_eq]
      exact ⟨settle_consistent _, settle_keeps _⟩
  · obtain ⟨plain, stalled⟩ := currentSample_fan awake consistent (by simp [Fan.driven, conducts, driven]) v
    obtain ⟨meas, _⟩ := currentSample_spec awake (only 14 v)
    have last := ((takesCurrent_fan s).measured (meas fanChan)).1 ⟨conducts, driven⟩
    rw [exec_runs running (exec_currentSample (only 14 v) s)]
    generalize s.currentSample (only 14 v) = t at plain stalled last
    intro n stalls off
    have iff : s.fan.stalls v = true ↔ stalls := by
      rw [stalls_iff]
      exact ⟨fun h => h.2.2, fun h => ⟨conducts, driven, h⟩⟩
    refine ⟨t, rfl, last.trans ?_, fun no => ?_, fun yes left => ?_, fun yes spent => ?_⟩
    · rw [show (only 14 v)[fanChan] = Option.some v from only_get 14 fanChan v]
      rfl
    · exact plain (by rw [← Bool.not_eq_true, iff]; exact no)
    · obtain ⟨fan, report⟩ := stalled (iff.mpr yes)
      rw [fan, report, Fan.stalled, if_pos left, if_pos left]
      exact ⟨rfl, rfl, rfl, ⟨rfl, rfl, rfl, rfl, rfl, rfl⟩, rfl⟩
    · obtain ⟨fan, report⟩ := stalled (iff.mpr yes)
      rw [fan, report, Fan.stalled, if_neg (by omega), if_neg (by omega)]
      exact ⟨rfl, rfl, rfl, ⟨rfl, rfl, rfl, rfl, rfl, rfl⟩, rfl⟩
  · intro x tripped lastTested
    have sampled : s.gaugeSampled g = true := gaugeSampled_iff.mpr ⟨state, some, free⟩
    have running' := exec_runs running (exec_currentSample (only (gaugeChan g) v) s)
    obtain ⟨m, value⟩ := currentSample_gauge awake sampled v
    obtain ⟨meas, _⟩ := currentSample_spec awake (only (gaugeChan g) v)
    have last := ((takesCurrent_gauge s g).measured (meas (gaugeChan g))).1 sampled
    rw [only_get, if_pos rfl] at last
    refine ⟨_, running', last, ?_⟩
    rw [value]
    have acts : State.gaugeActs { s with bank := { s.bank with meas := m } } g v =
        if 1000 < v then
          if x.shortCount = 0 then State.setGauge { s with bank := { s.bank with meas := m } } g { x with shortCount := 1 }
          else State.gaugeShorted { s with bank := { s.bank with meas := m } } g v
        else State.setGauge { s with bank := { s.bank with meas := m } } g { x with shortCount := 0 } := rfl
    have counted (n : Nat) :
        let u := State.setGauge { s with bank := { s.bank with meas := m } } g { x with shortCount := n }
        (∀ h, h ≠ g → GaugeKept (s.gauge h) (u.settle.gauge h)) ∧ u.settle.report = s.report ∧
          u.settle.gauges.testStep = s.gauges.testStep ∧ u.settle.gauge g = { x with shortCount := n } := by
      intro u
      have written (h : GaugeId) : u.gauge h = if h = g then { x with shortCount := n } else s.gauge h := State.gauge_setGauge ..
      have here : u.gauge g = { x with shortCount := n } := (written g).trans (if_pos rfl)
      refine ⟨fun h other => ?_, (settle_keeps u).report, (settle_keeps u).testStep, ?_⟩
      · have kept := (settle_keeps u).gauges h
        rwa [written, if_neg other] at kept
      · rw [← here]
        refine settle_gauge_still ?_
        rw [here]
        rcases state with e | e <;> simp [x, e]
    by_cases high : 1000 < v
    · by_cases first : x.shortCount = 0
      · obtain ⟨others, report, step, gauge⟩ := counted 1
        rw [acts, if_pos high, if_pos first]
        refine ⟨others, fun _ => ⟨report, step, gauge.trans ?_⟩, fun _ again => absurd first again⟩
        rw [if_neg (by omega)]
      · obtain ⟨gauges, ends, goes, _⟩ := gaugeShorted_eq { s with bank := { s.bank with meas := m } } g v
        rw [acts, if_pos high, if_neg first]
        generalize State.gaugeShorted { s with bank := { s.bank with meas := m } } g v = u at gauges ends goes
        have here : u.gauge g = { x with state := .outputFault, d := 0, limit := .none, shortCount := 0, fresh := false } :=
          (gauges g).trans (if_pos rfl)
        have report := (settle_keeps u).report
        have step := (settle_keeps u).testStep
        have trip := raise_report_congr (s := { s with bank := { s.bank with meas := m } }) (t := s) rfl .chTrip (15 + g.val) v
        refine ⟨fun h other => ?_, fun low => ?_, fun _ _ => ⟨?_, fun tested => ?_, fun more => ?_⟩⟩
        · have kept := (settle_keeps u).gauges h
          rw [gauges h, if_neg other] at kept
          exact kept
        · exact absurd low (by omega)
        · rw [← here]
          refine settle_gauge_still ?_
          rw [here]
          simp
        · exact ⟨step.trans (ends tested).1, report.trans ((ends tested).2.trans (raise_report_congr trip ..))⟩
        · exact ⟨step.trans (goes more).1, report.trans ((goes more).2.trans trip)⟩
    · obtain ⟨others, report, step, gauge⟩ := counted 0
      rw [acts, if_neg high]
      refine ⟨others, fun _ => ⟨report, step, gauge.trans ?_⟩, fun above => absurd above high⟩
      rw [if_pos (by omega)]

end Sys2Proof.Machine
end

section
/-! PROOF. What an examination of the substitution table does, entry by entry (R23). -/

namespace Sys2Proof.Machine

/-! ### The entries that an examination engages -/

/-- An entry engages in an examination: the occasion names its pair, its primary is locked out, the part is outside LIMP, its spare is
engaged for no entry and is not locked out, and no lower entry is due the same spare. -/
structure EntryEngages (occasion : LampId × LampId → Bool) (s : State) (e : Fin 3) (p q : LampId) : Prop where
  pair : (s.subEntry e).pair = some (p, q)
  named : occasion (p, q) = true
  primary : (s.lamp p).state = .lockedOut
  configured : s.op.state ≠ .limp
  free : ∀ e' p', (s.subEntry e').engaged = true → (s.subEntry e').pair ≠ some (p', q)
  available : (s.lamp q).state ≠ .lockedOut
  lowest : ∀ e', e' < e → ∀ p', (s.subEntry e').pair = some (p', q) → occasion (p', q) = true → (s.lamp p').state ≠ .lockedOut

/-- One spare is engaged by one entry. -/
theorem EntryEngages.unique {occasion : LampId × LampId → Bool} {s : State} {e e' : Fin 3} {p p' q : LampId}
    (h : EntryEngages occasion s e p q) (k : EntryEngages occasion s e' p' q) : e = e' ∧ p = p' := by
  rcases lt_trichotomy e e' with below | rfl | above
  · exact absurd h.primary (k.lowest e below p h.pair h.named)
  · have same := h.pair.symm.trans k.pair
    simp only [Option.some.injEq, Prod.mk.injEq] at same
    exact ⟨rfl, same.1⟩
  · exact absurd k.primary (h.lowest e' above p' k.pair k.named)

/-- An entry that engages stood not engaged. -/
theorem EntryEngages.fresh {occasion : LampId × LampId → Bool} {s : State} {e : Fin 3} {p q : LampId} (h : EntryEngages occasion s e p q) :
    (s.subEntry e).engaged = false := by
  rw [← Bool.not_eq_true]
  exact fun engaged => h.free e p engaged h.pair

/-- An entry whose lower ones leave its spare free engages: where one of them did not, the lowest of them would. -/
theorem entryEngages_of_none_lower {occasion : LampId × LampId → Bool} {s : State} {e : Fin 3} {p q : LampId}
    (pair : (s.subEntry e).pair = some (p, q)) (named : occasion (p, q) = true) (primary : (s.lamp p).state = .lockedOut)
    (configured : s.op.state ≠ .limp) (free : ∀ e' p', (s.subEntry e').engaged = true → (s.subEntry e').pair ≠ some (p', q))
    (available : (s.lamp q).state ≠ .lockedOut) (none : ∀ e', e' < e → ∀ p', ¬ EntryEngages occasion s e' p' q) :
    EntryEngages occasion s e p q := by
  refine ⟨pair, named, primary, configured, free, available, fun e' below p' pair' named' primary' => ?_⟩
  induction e' using WellFoundedLT.induction generalizing p' with
  | ind e' ih =>
    exact none e' below p' ⟨pair', named', primary', configured, free, available, fun e'' lower p'' pair'' named'' =>
      ih e'' lower (lower.trans below) p'' pair'' named''⟩

/-! ### The examination up to an entry -/

/-- What stands once the entries below one have been examined. -/
structure ExaminedBelow (occasion : LampId × LampId → Bool) (s u : State) (k : Nat) : Prop where
  op : u.op = s.op
  pairs : ∀ e, (u.subEntry e).pair = (s.subEntry e).pair
  engaged : ∀ e, (u.subEntry e).engaged = true ↔
    (s.subEntry e).engaged = true ∨ (e.val < k ∧ ∃ p q, EntryEngages occasion s e p q)
  spares : ∀ (e : Fin 3) p q, e.val < k → EntryEngages occasion s e p q → u.lamp q = ((s.lamp q).standsIn p (s.lamp p).cfg).remapped
  others : ∀ c, (∀ (e : Fin 3) p, e.val < k → ¬ EntryEngages occasion s e p c) → u.lamp c = s.lamp c
  report : u.report = (substRaised s u s).report

/-- A channel is locked out through an examination exactly where it was before it. -/
theorem ExaminedBelow.lockedOut {occasion : LampId × LampId → Bool} {s u : State} {k : Nat} (h : ExaminedBelow occasion s u k) (c : LampId) :
    (u.lamp c).state = .lockedOut ↔ (s.lamp c).state = .lockedOut := by
  by_cases spare : ∃ (e : Fin 3) (p : LampId), e.val < k ∧ EntryEngages occasion s e p c
  · obtain ⟨e, p, below, engages⟩ := spare
    rw [h.spares e p c below engages]
    have available := engages.available
    unfold LampRec.remapped LampRec.standsIn
    dsimp only
    split <;> simp [available]
  · rw [h.others c fun e p below engages => spare ⟨e, p, below, engages⟩]

/-- A channel locked out keeps its record through an examination. -/
theorem ExaminedBelow.primary {occasion : LampId × LampId → Bool} {s u : State} {k : Nat} (h : ExaminedBelow occasion s u k) {c : LampId}
    (locked : (s.lamp c).state = .lockedOut) : u.lamp c = s.lamp c :=
  h.others c fun _ _ _ engages => engages.available locked

/-- The entry next to be examined engages exactly where it may. -/
theorem ExaminedBelow.next {occasion : LampId × LampId → Bool} {s u : State} {e : Fin 3} (h : ExaminedBelow occasion s u e.val)
    {p q : LampId} (pair : (s.subEntry e).pair = some (p, q)) (named : occasion (p, q) = true) :
    u.mayEngage e = true ↔ EntryEngages occasion s e p q := by
  rw [mayEngage_iff ((h.pairs e).trans pair), h.lockedOut p, h.op, ne_eq (u.lamp q).state, h.lockedOut q]
  constructor
  · rintro ⟨primary, configured, fresh, free, available⟩
    refine entryEngages_of_none_lower pair named primary configured (fun e' p' on => ?_) available fun e' below p' engages => ?_
    · rw [← h.pairs e']
      exact free e' p' ((h.engaged e').mpr (.inl on))
    · exact free e' p' ((h.engaged e').mpr (.inr ⟨below, p', q, engages⟩)) ((h.pairs e').trans engages.pair)
  · intro engages
    refine ⟨engages.primary, engages.configured, ?_, fun e' p' on => ?_, engages.available⟩
    · rw [← Bool.not_eq_true, h.engaged, not_or]
      exact ⟨by simp [engages.fresh], fun below => absurd below.1 (lt_irrefl _)⟩
    · rw [h.pairs e']
      rcases (h.engaged e').mp on with stood | ⟨below, p'', q'', lower⟩
      · exact engages.free e' p' stood
      · intro pair'
        have same := lower.pair.symm.trans pair'
        simp only [Option.some.injEq, Prod.mk.injEq] at same
        exact engages.lowest e' below p'' (same.2 ▸ lower.pair) (same.2 ▸ lower.named) lower.primary

/-! ### The SUBST events -/

/-- The SUBST event of one entry, where it engages between two states. -/
def substStep (s t : State) (e : Fin 3) (r : State) : State :=
  match (t.subEntry e).pair with
  | some (p, q) => if (t.subEntry e).engaged && !(s.subEntry e).engaged then r.raise .subst p.val q.val else r
  | none => r

theorem substRaised_eq (s t r : State) : substRaised s t r = substStep s t 2 (substStep s t 1 (substStep s t 0 r)) := by
  unfold substRaised substStep
  rfl

theorem substStep_still {s t : State} {e : Fin 3} (still : (t.subEntry e).engaged = true → (s.subEntry e).engaged = true) (r : State) :
    substStep s t e r = r := by
  unfold substStep
  split
  · refine if_neg ?_
    simp only [Bool.and_eq_true, Bool.not_eq_true', not_and, Bool.not_eq_false]
    exact still
  · rfl

theorem substStep_engages {s t : State} {e : Fin 3} {p q : LampId} (h : Engages s t e p q) (r : State) :
    substStep s t e r = r.raise .subst p.val q.val := by
  unfold substStep
  rw [h.1]
  exact if_pos (by simp [h.2.1, h.2.2])

theorem substStep_congr {s t t' : State} {e : Fin 3} (same : t'.subEntry e = t.subEntry e) (r : State) : substStep s t' e r = substStep s t e r := by
  unfold substStep
  rw [same]

/-- One more entry engages, above those that have: its event stands behind theirs. -/
theorem substRaised_next {s u v : State} {e : Fin 3} {p q : LampId} (r : State) (engages : Engages s v e p q)
    (lower : ∀ k, k < e → v.subEntry k = u.subEntry k)
    (here : (u.subEntry e).engaged = false)
    (higher : ∀ k, e < k → ((u.subEntry k).engaged = true → (s.subEntry k).engaged = true) ∧ v.subEntry k = u.subEntry k) :
    substRaised s v r = (substRaised s u r).raise .subst p.val q.val := by
  have still (k : Fin 3) (above : e < k) (r : State) : substStep s v k r = r ∧ substStep s u k r = r := by
    obtain ⟨stands, same⟩ := higher k above
    exact ⟨substStep_still (by rw [same]; exact stands) r, substStep_still stands r⟩
  have none (r : State) : substStep s u e r = r := substStep_still (by simp [here]) r
  rw [substRaised_eq, substRaised_eq]
  have each : ∀ k : Fin 3, k = 0 ∨ k = 1 ∨ k = 2 := by decide
  obtain rfl | rfl | rfl := each e
  · rw [(still 1 (by decide) _).1, (still 1 (by decide) _).2, (still 2 (by decide) _).1, (still 2 (by decide) _).2, none r]
    exact substStep_engages engages r
  · rw [(still 2 (by decide) _).1, (still 2 (by decide) _).2, none, substStep_congr (lower 0 (by decide))]
    exact substStep_engages engages _
  · rw [none, substStep_congr (lower 0 (by decide)), substStep_congr (lower 1 (by decide))]
    exact substStep_engages engages _

theorem substRaised_same {s u v : State} (same : ∀ k, v.subEntry k = u.subEntry k) (r : State) : substRaised s v r = substRaised s u r := by
  rw [substRaised_eq, substRaised_eq, substStep_congr (same 0), substStep_congr (same 1), substStep_congr (same 2)]

/-- No entry engages: no event. -/
theorem substRaised_none {s t : State} (none : ∀ e, (t.subEntry e).engaged = true → (s.subEntry e).engaged = true) (r : State) :
    substRaised s t r = r := by
  rw [substRaised_eq, substStep_still (none 0), substStep_still (none 1), substStep_still (none 2)]

theorem substRaised_report_congr (s t : State) {r r' : State} (h : r.report = r'.report) :
    (substRaised s t r).report = (substRaised s t r').report := by
  have step (e : Fin 3) {a b : State} (h : a.report = b.report) : (substStep s t e a).report = (substStep s t e b).report := by
    unfold substStep
    split
    · split
      · exact raise_report_congr h ..
      · exact h
    · exact h
  rw [substRaised_eq, substRaised_eq]
  exact step 2 (step 1 (step 0 h))

/-! ### The whole examination -/

/-- One step of an examination. -/
theorem ExaminedBelow.step {occasion : LampId × LampId → Bool} {s u : State} {e : Fin 3} (h : ExaminedBelow occasion s u e.val) :
    ExaminedBelow occasion s (if (u.subEntry e).pair.any occasion then u.examineEntry e else u) (e.val + 1) := by
  have none (no : ∀ p q, ¬ EntryEngages occasion s e p q) : ExaminedBelow occasion s u (e.val + 1) := by
    have below (k : Fin 3) (p q : LampId) (engages : EntryEngages occasion s k p q) : k.val < e.val + 1 ↔ k.val < e.val := by
      refine ⟨fun lt => lt_of_le_of_ne (Nat.lt_succ_iff.mp lt) fun same => ?_, fun lt => by omega⟩
      obtain rfl : k = e := Fin.ext same
      exact no p q engages
    refine ⟨h.op, h.pairs, fun k => (h.engaged k).trans (or_congr_right ?_), fun k p q lt engages => ?_, fun c others => ?_, h.report⟩
    · exact ⟨fun ⟨lt, p, q, engages⟩ => ⟨by omega, p, q, engages⟩, fun ⟨lt, p, q, engages⟩ => ⟨(below k p q engages).mp lt, p, q, engages⟩⟩
    · exact h.spares k p q ((below k p q engages).mp lt) engages
    · exact h.others c fun k p lt => others k p (by omega)
  cases pair : (s.subEntry e).pair with
  | none =>
    rw [(h.pairs e).trans pair]
    exact none fun p q engages => by rw [engages.pair] at pair; cases pair
  | some x =>
    obtain ⟨p, q⟩ := x
    rw [(h.pairs e).trans pair]
    have only {p' q' : LampId} (engages : EntryEngages occasion s e p' q') : p' = p ∧ q' = q := by
      have same := engages.pair.symm.trans pair
      simpa using same
    by_cases named : occasion (p, q) = true
    · rw [if_pos (by simpa using named), State.examineEntry]
      have next := h.next pair named
      by_cases engages : EntryEngages occasion s e p q
      · rw [if_pos (next.mpr engages), (h.pairs e).trans pair]
        have primary : u.lamp p = s.lamp p := h.primary engages.primary
        have own : u.lamp q = s.lamp q := h.others q fun k p' lt other =>
          absurd (congrArg Fin.val (EntryEngages.unique other engages).1) (Nat.ne_of_lt lt)
        have fresh : (u.subEntry e).engaged = false := by
          rw [← Bool.not_eq_true, h.engaged, not_or]
          exact ⟨by simp [engages.fresh], fun below => absurd below.1 (lt_irrefl _)⟩
        have index (k : Fin 3) : k.val < e.val + 1 ↔ k.val < e.val ∨ k = e := by
          rw [Fin.ext_iff]
          omega
        have entry (k : Fin 3) : (u.engage e p q).subEntry k = if k = e then { u.subEntry e with engaged := true } else u.subEntry k :=
          engage_subEntry u e k p q
        refine ⟨?_, fun k => ?_, fun k => ?_, fun k p' q' lt other => ?_, fun c others => ?_, ?_⟩
        · exact (engage_examined u e p q).op.trans h.op
        · rw [entry]
          split
          · next same => rw [same, ← h.pairs e]
          · exact h.pairs k
        · rw [entry, index]
          split
          · next same =>
            subst same
            exact iff_of_true rfl (.inr ⟨.inr rfl, p, q, engages⟩)
          · next other =>
            rw [h.engaged k]
            simp [other]
        · rw [engage_lamp]
          rcases (index k).mp lt with below | rfl
          · have apart : q' ≠ q := by
              rintro rfl
              exact absurd (congrArg Fin.val (EntryEngages.unique other engages).1) (Nat.ne_of_lt below)
            rw [if_neg apart]
            exact h.spares k p' q' below other
          · obtain ⟨rfl, rfl⟩ := only other
            rw [if_pos rfl, own, primary]
        · have apart : c ≠ q := by
            rintro rfl
            exact others e p (Nat.lt_succ_self _) engages
          rw [engage_lamp, if_neg apart]
          exact h.others c fun k p' lt => others k p' (by omega)
        · have raised : (u.engage e p q).report = (u.raise .subst p.val q.val).report := by
            unfold State.engage
            dsimp only
            refine raise_report_congr ?_ ..
            rw [functionChanged_rest]
            rfl
          have more : substRaised s (u.engage e p q) s = (substRaised s u s).raise .subst p.val q.val := by
            refine substRaised_next s ⟨?_, ?_, engages.fresh⟩ (fun k lt => ?_) fresh fun k lt => ⟨fun on => ?_, ?_⟩
            · rw [entry, if_pos rfl]
              exact (h.pairs e).trans pair
            · rw [entry, if_pos rfl]
            · rw [entry, if_neg lt.ne]
            · exact ((h.engaged k).mp on).resolve_right fun below => absurd below.1 (by have := Fin.lt_def.mp lt; omega)
            · rw [entry, if_neg lt.ne']
          rw [raised, more]
          exact raise_report_congr h.report ..
      · rw [if_neg (mt next.mp engages)]
        exact none fun p' q' engages' => by
          obtain ⟨rfl, rfl⟩ := only engages'
          exact engages engages'
    · rw [if_neg (by simpa using named)]
      exact none fun p' q' engages' => by
        obtain ⟨rfl, rfl⟩ := only engages'
        exact named engages'.named

/-- A whole examination engages the entries that are due, and no other (R23). -/
theorem examine_spec (s : State) (occasion : LampId × LampId → Bool) : ExaminedBelow occasion s (s.examine occasion) 3 := by
  have start : ExaminedBelow occasion s s 0 :=
    ⟨rfl, fun _ => rfl, fun _ => by simp, fun _ _ _ below => absurd below (Nat.not_lt_zero _), fun _ _ => rfl,
      by rw [substRaised_none fun _ => id]⟩
  have one := start.step (e := 0)
  have two := one.step (e := 1)
  exact two.step (e := 2)

/-- An examination engages exactly the entries that are due. -/
theorem examine_engages {s : State} {occasion : LampId × LampId → Bool} {e : Fin 3} {p q : LampId} :
    Engages s (s.examine occasion) e p q ↔ EntryEngages occasion s e p q := by
  have done := examine_spec s occasion
  unfold Engages
  rw [done.pairs, done.engaged]
  constructor
  · rintro ⟨pair, stood | ⟨-, p', q', engages⟩, fresh⟩
    · rw [fresh] at stood
      cases stood
    · have same := engages.pair.symm.trans pair
      simp only [Option.some.injEq, Prod.mk.injEq] at same
      exact same.1 ▸ same.2 ▸ engages
  · exact fun engages => ⟨engages.pair, .inr ⟨e.isLt, p, q, engages⟩, engages.fresh⟩

end Sys2Proof.Machine
end

section
/-! PROOF. The settling of a cause and the rules of a lamp channel's sample read no measurement, and of the inputs their
levels alone: what is stored may be stored after them. -/

namespace Sys2Proof.Machine

/-- The part with other measurements and another input block. -/
def State.besides (s : State) (m : Vector Meas 17) (x : Inputs) : State := { s with bank := { s.bank with meas := m }, inputs := x }

/-- The part with other measurements. -/
def State.withMeas (s : State) (m : Vector Meas 17) : State := { s with bank := { s.bank with meas := m } }

/-- The part with another input block. -/
def State.withInputs (s : State) (x : Inputs) : State := { s with inputs := x }

/-- Two parts whose measurements and counts of inputs alone differ. -/
theorem besides_alike {s : State} {m : Vector Meas 17} {x : Inputs} (levels : ∀ i, (s.besides m x).level i = s.level i) :
    ResolvesAlike s (s.besides m x) ∧ WantsAlike s (s.besides m x) :=
  ⟨⟨fun _ => ⟨rfl, rfl, rfl⟩, rfl, rfl, levels .brake, rfl, fun _ => levels .ign, rfl, rfl, rfl⟩,
    ⟨fun _ => rfl, fun _ => rfl, rfl, rfl, fun _ => ⟨rfl, rfl⟩⟩⟩

theorem besides_foldl {α : Type} {f : State → α → State} (h : ∀ a s m x, f (State.besides s m x) a = (f s a).besides m x) (l : List α)
    (s : State) (m : Vector Meas 17) (x : Inputs) : l.foldl f (s.besides m x) = (l.foldl f s).besides m x := by
  induction l generalizing s with
  | nil => rfl
  | cons a l ih => rw [List.foldl_cons, List.foldl_cons, h a, ih]

section
variable (s : State) (m : Vector Meas 17) (x : Inputs)

/-! ### The stages of settling -/

theorem restartIfCeased_besides (fl : Flash) (ch : LampId) (s : State) (m : Vector Meas 17) (x : Inputs) :
    State.restartIfCeased fl (s.besides m x) ch = (State.restartIfCeased fl s ch).besides m x := by
  unfold State.restartIfCeased
  refine Eq.trans ?_ (apply_ite (State.besides · m x) _ _ _).symm
  rfl

theorem setFlash_besides (fl : Flash) : (s.besides m x).setFlash fl = (s.setFlash fl).besides m x := by
  have restarted := besides_foldl (restartIfCeased_besides fl) allLamps s m x
  unfold State.setFlash
  rw [restarted]
  generalize allLamps.foldl (State.restartIfCeased fl) s = u
  rfl

theorem onStart_besides (set : Sides) : (s.besides m x).onStart set = (s.onStart set).besides m x := by
  have cleared := besides_foldl (f := State.clearPhaseSample) (fun a s m x => rfl) allLamps s m x
  unfold State.onStart
  dsimp only
  rw [cleared, setFlash_besides]
  generalize allLamps.foldl State.clearPhaseSample s = u
  rfl

theorem flashPoke_besides : (s.besides m x).flashPoke = s.flashPoke.besides m x := by
  have started := onStart_besides s m x s.wanted
  unfold State.flashPoke
  refine Eq.trans ?_ (apply_ite (State.besides · m x) _ _ _).symm
  rw [← started]
  rfl

theorem gaugePoke_besides : (s.besides m x).gaugePoke = s.gaugePoke.besides m x :=
  besides_foldl (f := State.gaugePokeOne) (fun g s m x => by
    unfold State.gaugePokeOne
    refine Eq.trans ?_ (apply_ite (State.besides · m x) _ _ _).symm
    rfl) allGauges s m x

variable {s m x} in
theorem resolveAll_besides (levels : ∀ i, (s.besides m x).level i = s.level i) :
    (s.besides m x).resolveAll = s.resolveAll.besides m x := by
  unfold State.resolveAll
  generalize allFns = l
  induction l generalizing s with
  | nil => rfl
  | cons f l ih =>
    have same := (besides_alike levels).1.resolve f
    have step : (s.besides m x).resolveFn f = (s.resolveFn f).besides m x := by
      unfold State.resolveFn
      rw [same]
      rfl
    rw [List.foldl_cons, List.foldl_cons, step]
    exact ih (s := s.resolveFn f) levels

theorem handAll_besides : (s.besides m x).handAll = s.handAll.besides m x :=
  besides_foldl (f := State.hand) (fun ch s m x => by
    have same : (s.besides m x).wantOf ch = s.wantOf ch :=
      WantsAlike.wantOf (s := s) ⟨fun _ => rfl, fun _ => rfl, rfl, rfl, fun _ => ⟨rfl, rfl⟩⟩ ch
    unfold State.hand State.handDue
    rw [same]
    refine Eq.trans ?_ (apply_ite (State.besides · m x) _ _ _).symm
    rfl) allLamps s m x

theorem grantPass_besides (q : List QEntry) (s : State) (m : Vector Meas 17) (x : Inputs) :
    State.grantPass q (s.besides m x) = (State.grantPass q s).besides m x := by
  induction q generalizing s with
  | nil => rfl
  | cons e q ih =>
    have granted : (s.besides m x).grant e.ch = (s.grant e.ch).besides m x := by
      unfold State.grant
      split <;> rfl
    unfold State.grantPass
    refine Eq.trans ?_ (apply_ite (State.besides · m x) _ _ _).symm
    rw [granted, ih]
    rfl

theorem arbitrate_besides : (s.besides m x).arbitrate = s.arbitrate.besides m x := by
  have removed : (s.besides m x).removalPass = s.removalPass.besides m x := grantPass_besides s.stillQueued s m x
  unfold State.arbitrate
  rw [removed]
  exact grantPass_besides s.removalPass.joinedQueue s.removalPass m x

variable {s m x} in
/-- Settling reads of the inputs their levels alone. -/
theorem settle_besides (levels : ∀ i, (s.besides m x).level i = s.level i) : (s.besides m x).settle = s.settle.besides m x := by
  have follows (u : State) : (u.besides m x).fanFollow.fanStart = u.fanFollow.fanStart.besides m x := by
    rw [fanFollow_start, fanFollow_start]
    rfl
  have still (i : InputId) : (s.flashPoke.gaugePoke.besides m x).level i = s.flashPoke.gaugePoke.level i :=
    (levels i).trans (level_congr ((flashPoke_keeps s).trans (gaugePoke_keeps _)).inputs i).symm
  unfold State.settle
  rw [flashPoke_besides, gaugePoke_besides, resolveAll_besides still, handAll_besides, follows, arbitrate_besides]

theorem settle_withMeas : (s.withMeas m).settle = s.settle.withMeas m := by
  have same (t : State) (kept : t.inputs = s.inputs) : t.besides m s.inputs = t.withMeas m := by
    rw [← kept]
    rfl
  rw [← same _ (settle_keeps s).inputs]
  exact settle_besides fun _ => rfl

variable {s x} in
theorem settle_withInputs (levels : ∀ i, (s.withInputs x).level i = s.level i) : (s.withInputs x).settle = s.settle.withInputs x := by
  have same (t : State) (kept : t.bank.meas = s.bank.meas) : t.besides s.bank.meas x = t.withInputs x := by
    rw [← kept]
    rfl
  rw [← same _ (settle_keeps s).meas]
  exact settle_besides levels

/-! ### A sample of a lamp channel -/

theorem raise_withMeas (k : EventKind) (subject detail : Nat) :
    (s.withMeas m).raise k subject detail = (s.raise k subject detail).withMeas m := by
  rw [raise_eq (s := s.withMeas m) (u := s) rfl, raise_eq (s := s) (u := s) rfl]
  rfl

theorem functionChanged_withMeas (ch : LampId) : (s.withMeas m).functionChanged ch = (s.functionChanged ch).withMeas m := by
  unfold State.functionChanged
  refine Eq.trans ?_ (apply_ite (State.withMeas · m) _ _ _).symm
  rfl

theorem engage_withMeas (e : Fin 3) (p q : LampId) : (s.withMeas m).engage e p q = (s.engage e p q).withMeas m := by
  unfold State.engage
  dsimp only
  rw [← raise_withMeas, ← functionChanged_withMeas]
  rfl

theorem examine_withMeas (occasion : LampId × LampId → Bool) : (s.withMeas m).examine occasion = (s.examine occasion).withMeas m := by
  unfold State.examine
  generalize allSubs = l
  induction l generalizing s with
  | nil => rfl
  | cons e l ih =>
    have entry : (s.withMeas m).examineEntry e = (s.examineEntry e).withMeas m := by
      have same : (s.withMeas m).mayEngage e = s.mayEngage e := rfl
      have pair : ((s.withMeas m).subEntry e).pair = (s.subEntry e).pair := rfl
      unfold State.examineEntry
      rw [same, pair]
      split
      · split
        · exact engage_withMeas ..
        · rfl
      · rfl
    have step : (if ((s.withMeas m).subEntry e).pair.any occasion then (s.withMeas m).examineEntry e else s.withMeas m) =
        (if (s.subEntry e).pair.any occasion then s.examineEntry e else s).withMeas m := by
      refine Eq.trans ?_ (apply_ite (State.withMeas · m) _ _ _).symm
      rw [← entry]
      rfl
    rw [List.foldl_cons, List.foldl_cons, step, ih]

theorem lampTrips_withMeas (ch : LampId) (v : Nat) : (s.withMeas m).lampTrips ch v = (s.lampTrips ch v).withMeas m := by
  unfold State.lampTrips
  refine Eq.trans ?_ (apply_ite (State.withMeas · m) _ _ _).symm
  rw [← raise_withMeas, ← examine_withMeas, ← raise_withMeas, ← raise_withMeas]
  rfl

theorem lampJudged_withMeas (ch : LampId) (v : Nat) : (s.withMeas m).lampJudged ch v = (s.lampJudged ch v).withMeas m := by
  have spoken : ((s.withMeas m).lampSpoken ch v).report = (s.lampSpoken ch v).report := by
    have raised := raise_withMeas s m
    unfold State.lampSpoken
    refine Eq.trans (congrArg State.report ?_) rfl (b := State.report (State.withMeas (s.lampSpoken ch v) m))
    unfold State.lampSpoken
    refine Eq.trans ?_ (apply_ite (State.withMeas · m) _ _ _).symm
    rw [← raised]
    rfl
  rw [lampJudged_eq, lampJudged_eq, spoken]
  rfl

theorem lampActs_withMeas (ch : LampId) (v : Nat) : (s.withMeas m).lampActs ch v = (s.lampActs ch v).withMeas m := by
  rw [lampActs_eq, lampActs_eq]
  refine Eq.trans ?_ (apply_ite (State.withMeas · m) _ _ _).symm
  rw [lampJudged_withMeas, lampTrips_withMeas]
  rfl

end

end Sys2Proof.Machine
end

section
/-! PROOF. Trips, decisions of lamp_out and fed, and two trips on one moment (O48). -/

namespace Sys2Proof.Machine

/-! ### Urgent events stand (R172 to R174) -/

/-- In a queue of the form of R172 the last record is ordinary where any is. -/
theorem EventListOk.last_ordinary {q : List EventRec} (h : EventListOk q) {y : EventRec} (held : y ∈ q) (ordinary : y.kind.urgent = false)
    {x : EventRec} (mem : x ∈ q) (urgent : x.kind.urgent = true) : x ∈ q.dropLast := by
  have some : q ≠ [] := List.ne_nil_of_mem held
  have split := List.dropLast_append_getLast some
  rw [← split] at mem
  rcases List.mem_append.mp mem with early | last
  · exact early
  · have order := h.2.1
    rw [← split, List.pairwise_append] at order
    have isLast : x = q.getLast some := by simpa using last
    rw [← split] at held
    rcases List.mem_append.mp held with before | same
    · have := (order.2.2 y before _ (List.mem_singleton.mpr rfl)).1 (isLast ▸ urgent)
      rw [ordinary] at this
      cases this
    · have same : y = x := (by simpa using same : y = q.getLast some).trans isLast.symm
      rw [same, urgent] at ordinary
      cases ordinary

/-- An urgent record of another kind or subject stands through an insertion. -/
theorem insertEvent_urgent {q : List EventRec} {r x : EventRec} (h : EventListOk q) (mem : x ∈ q) (urgent : x.kind.urgent = true)
    (other : x.same r = false) : x ∈ (insertEvent q r).1 := by
  unfold insertEvent
  split
  · exact List.mem_map.mpr ⟨x, mem, if_neg (by simp [other])⟩
  · split
    · exact mem_placeEvent.mpr (.inr mem)
    · split
      · exact mem
      · split
        · exact mem
        · rename_i mixed
          obtain ⟨y, held, ordinary⟩ : ∃ y ∈ q, y.kind.urgent = false := by simpa using mixed
          exact mem_placeEvent.mpr (.inr (h.last_ordinary held ordinary mem urgent))

/-- An urgent occurrence stands after it is inserted in a queue that has room or holds an ordinary record. -/
theorem insertEvent_stands {q : List EventRec} {r : EventRec} (urgent : r.kind.urgent = true)
    (room : q.length < 16 ∨ ∃ y ∈ q, y.kind.urgent = false) :
    ∃ x ∈ (insertEvent q r).1, x.kind = r.kind ∧ x.subject = r.subject ∧ x.detail = r.detail := by
  by_cases short : q.length < 16
  · exact (insertEvent_spec short).1
  · obtain ⟨y, held, ordinary⟩ := room.resolve_left short
    unfold insertEvent
    split
    · rename_i known
      obtain ⟨x, mem, same⟩ := List.any_eq_true.mp known
      have agree : x.kind = r.kind ∧ x.subject = r.subject := by simpa [EventRec.same] using same
      exact ⟨x.coalesce r, List.mem_map.mpr ⟨x, mem, if_pos same⟩, agree.1, agree.2, rfl⟩
    · rw [if_neg (by simp [urgent]), if_neg (by simpa using ⟨y, held, ordinary⟩)]
      exact ⟨r, mem_placeEvent.mpr (.inl rfl), rfl, rfl, rfl⟩

theorem Reports.urgent {s : State} {k : EventKind} {subject detail : Nat} (h : Reports s k subject detail) (form : EventsOk s)
    (urgent : k.urgent = true) {k' : EventKind} {subject' : Nat} (other : k' ≠ k ∨ subject' ≠ subject) (detail' : Nat) :
    Reports (s.raise k' subject' detail') k subject detail := by
  obtain ⟨r, mem, kind, at_, value⟩ := h
  unfold State.raise
  split
  · refine ⟨r, insertEvent_urgent form mem (kind ▸ urgent) ?_, kind, at_, value⟩
    simp only [EventRec.same, kind, at_, Bool.and_eq_false_iff, beq_eq_false_iff_ne]
    exact other.imp Ne.symm Ne.symm
  · exact ⟨r, mem, kind, at_, value⟩

/-- An urgent event that the mask lets through stands once it is raised where the queue has room or holds an ordinary record. -/
theorem raise_stands {s : State} {k : EventKind} (urgent : k.urgent = true) (enabled : s.eventEnabled k = true)
    (room : s.report.events.length < 16 ∨ ∃ y ∈ s.report.events, y.kind.urgent = false) (subject detail : Nat) :
    Reports (s.raise k subject detail) k subject (min 65535 detail) := by
  unfold State.raise
  rw [if_pos enabled]
  exact insertEvent_stands (r := { kind := k, subject := subject, detail := min 65535 detail, count := 1, time := s.report.timeCount })
    urgent room

/-- An ordinary event raised in a queue with room leaves room, or an ordinary record. -/
theorem raise_ordinary {s : State} {k : EventKind} (ordinary : k.urgent = false) (room : s.report.events.length < 16)
    (subject detail : Nat) :
    (s.raise k subject detail).report.events.length < 16 ∨ ∃ y ∈ (s.raise k subject detail).report.events, y.kind.urgent = false := by
  by_cases enabled : s.eventEnabled k = true
  · unfold State.raise
    rw [if_pos enabled]
    obtain ⟨x, mem, kind, _⟩ := (insertEvent_spec
      (r := { kind := k, subject := subject, detail := min 65535 detail, count := 1, time := s.report.timeCount }) room).1
    exact .inr ⟨x, mem, by rw [kind]; exact ordinary⟩
  · unfold State.raise
    rw [if_neg enabled]
    exact .inl room

theorem substRaised_reports {s t r : State} {k : EventKind} {subject detail : Nat} (h : Reports r k subject detail) (form : EventsOk r)
    (urgent : k.urgent = true) (other : k ≠ .subst) : Reports (substRaised s t r) k subject detail := by
  have step (e : Fin 3) {r : State} (h : Reports r k subject detail ∧ EventsOk r) :
      Reports (substStep s t e r) k subject detail ∧ EventsOk (substStep s t e r) := by
    unfold substStep
    split
    · split
      · exact ⟨h.1.urgent h.2 urgent (.inl other.symm) _, raise_eventsOk h.2 ..⟩
      · exact h
    · exact h
  rw [substRaised_eq]
  exact (step 2 (step 1 (step 0 ⟨h, form⟩))).1

/-! ### The trip of a channel, up to the settling (R12, R23) -/

/-- The record of a channel that a sample trips (R12). -/
def State.tripRec (s : State) (ch : LampId) (v : Nat) : LampRec :=
  if (s.lamp ch).retriesUsed < (s.lamp ch).cfg.retryLimit then (s.lampTaken ch v).tripped else (s.lampTaken ch v).lockedOut

/-- The part once the sample, CH_TRIP and CH_LOCKOUT are written, with the table not yet examined. -/
def State.tripWritten (s : State) (ch : LampId) (v : Nat) : State :=
  { s.setLamp ch (s.tripRec ch v) with
    bank := { (s.setLamp ch (s.tripRec ch v)).bank with meas := (s.storeSample (lampChan ch) v (10 * s.appliedDuty ch)).bank.meas }
    report :=
      if (s.lamp ch).retriesUsed < (s.lamp ch).cfg.retryLimit then ((s.lampSpoken ch v).raise .chTrip ch.val v).report
      else (((s.lampSpoken ch v).raise .chTrip ch.val v).raise .chLockout ch.val (s.lamp ch).retriesUsed).report }

theorem tripWritten_lamp (s : State) (ch : LampId) (v : Nat) (c : LampId) :
    (s.tripWritten ch v).lamp c = if c = ch then s.tripRec ch v else s.lamp c := State.lamp_setLamp ..

/-- A sample that trips writes the trip, and the table is examined where the channel is locked out. -/
theorem lampSample_trips {s : State} {ch : LampId} {v : Nat} (trips : tripsOn ch (s.lamp ch) v = true) :
    s.lampSample ch v =
      if (s.lamp ch).retriesUsed < (s.lamp ch).cfg.retryLimit then s.tripWritten ch v
      else (s.tripWritten ch v).examine (fun p => p.1 == ch) := by
  obtain ⟨rest, _⟩ := storeSample_stored s (lampChan ch) v (10 * s.appliedDuty ch)
  have written (r : Report) (c : LampRec) : State.lamp { s.setLamp ch c with report := r } ch = c := State.lamp_setLamp_same ..
  have twice (r : Report) (c d : LampRec) : State.setLamp { s.setLamp ch c with report := r } ch d = { s.setLamp ch d with report := r } :=
    congrArg (fun u : State => { u with report := r }) (setLamp_twice s ch c d)
  unfold State.lampSample State.tripWritten State.tripRec
  generalize (s.storeSample (lampChan ch) v (10 * s.appliedDuty ch)).bank.meas = m at rest ⊢
  rw [rest]
  refine (lampActs_withMeas s m ch v).trans ?_
  have acts : s.lampActs ch v = (s.lampJudged ch v).lampTrips ch v := by rw [lampActs_eq, if_pos trips]
  have retries : (s.lampTaken ch v).retriesUsed = (s.lamp ch).retriesUsed ∧ (s.lampTaken ch v).cfg = (s.lamp ch).cfg := ⟨rfl, rfl⟩
  have raised (c : LampRec) : State.raise { s.setLamp ch c with report := (s.lampSpoken ch v).report } .chTrip ch.val v =
      { s.setLamp ch c with report := ((s.lampSpoken ch v).raise .chTrip ch.val v).report } := raise_eq (by rfl) ..
  have raisedOut (c : LampRec) : State.raise { s.setLamp ch c with report := ((s.lampSpoken ch v).raise .chTrip ch.val v).report }
      .chLockout ch.val (s.lamp ch).retriesUsed = { s.setLamp ch c with
        report := (((s.lampSpoken ch v).raise .chTrip ch.val v).raise .chLockout ch.val (s.lamp ch).retriesUsed).report } :=
    raise_eq (by rfl) ..
  rw [acts, lampJudged_eq, State.lampTrips]
  dsimp only
  rw [written, twice, twice, retries.1, retries.2, raised, raised, raisedOut]
  by_cases left : (s.lamp ch).retriesUsed < (s.lamp ch).cfg.retryLimit
  · rw [if_pos left, if_pos left, if_pos left, if_pos left]
    rfl
  · rw [if_neg left, if_neg left, if_neg left, if_neg left, ← examine_withMeas]
    rfl

/-- Nothing engages in an examination where no entry is due. -/
theorem examinedBelow_idle {occasion : LampId × LampId → Bool} {s : State} (none : ∀ e p q, ¬ EntryEngages occasion s e p q) :
    ExaminedBelow occasion s s 3 :=
  ⟨rfl, fun _ => rfl, fun e => by simp [none e], fun e p q _ engages => absurd engages (none e p q), fun _ _ => rfl,
    by rw [substRaised_none fun _ => id]⟩

/-- The entries due once a trip is written are those that fit, where it has locked the channel out (R23). -/
theorem tripWritten_engages {s : State} {ch : LampId} {v : Nat} {e : Fin 3} {p q : LampId} :
    EntryEngages (fun x => x.1 == ch) (s.tripWritten ch v) e p q ↔
      p = ch ∧ ¬ (s.lamp ch).retriesUsed < (s.lamp ch).cfg.retryLimit ∧ EntryFits s e ch q := by
  have lamp := tripWritten_lamp s ch v
  have locked : (s.tripRec ch v).state = .lockedOut ↔ ¬ (s.lamp ch).retriesUsed < (s.lamp ch).cfg.retryLimit := by
    unfold State.tripRec
    split
    · rename_i left
      simp [LampRec.tripped, left]
    · rename_i spent
      simp [LampRec.lockedOut, spent]
  have subs (k : Fin 3) : (s.tripWritten ch v).subEntry k = s.subEntry k := rfl
  have op : (s.tripWritten ch v).op = s.op := rfl
  constructor
  · intro engages
    obtain rfl : p = ch := by simpa using engages.named
    have out := engages.primary
    rw [lamp, if_pos rfl] at out
    have apart : q ≠ p := by
      rintro rfl
      exact engages.available engages.primary
    have available := engages.available
    rw [lamp, if_neg apart] at available
    exact ⟨rfl, locked.mp out, engages.pair, apart, engages.configured, engages.free, available, fun e' below pair =>
      engages.lowest e' below p pair (by simp) engages.primary⟩
  · rintro ⟨rfl, spent, fits⟩
    refine ⟨fits.pair, by simp, ?_, fits.configured, fits.free, ?_, fun e' below p' pair named => ?_⟩
    · rw [lamp, if_pos rfl]
      exact locked.mpr spent
    · rw [lamp, if_neg fits.other]
      exact fits.available
    · obtain rfl : p' = p := by simpa using named
      exact absurd pair (fits.lowest e' below)

theorem lampSample_examined {s : State} {ch : LampId} {v : Nat} (trips : tripsOn ch (s.lamp ch) v = true) :
    ExaminedBelow (fun x => x.1 == ch) (s.tripWritten ch v) (s.lampSample ch v) 3 := by
  rw [lampSample_trips trips]
  split
  · rename_i left
    exact examinedBelow_idle fun e p q engages => (tripWritten_engages.mp engages).2.1 left
  · exact examine_spec ..

/-! ### The settling after it -/

/-- A faulted channel keeps its grant flag as a cause is settled. -/
theorem settle_granted {s : State} {ch : LampId} (faulted : (s.lamp ch).state = .tripped ∨ (s.lamp ch).state = .lockedOut) :
    (s.settle.lamp ch).granted = (s.lamp ch).granted := by
  have quiet := flashPoke_quietLamps s ch
  have lamp : s.ready.lamp ch = _ := (ready_lamp s ch).trans (handedOn_lamp_eq s ch)
  have handed (c : LampRec) (w : Nat × Reason) (hold signalling : Bool) (faulted : c.state = .tripped ∨ c.state = .lockedOut) :
      (c.handed w hold signalling).granted = c.granted ∧ (c.handed w hold signalling).state = c.state := by
    unfold LampRec.handed LampRec.takeDemand
    split
    · rcases faulted with e | e <;> simp [e]
    · exact ⟨rfl, rfl⟩
  obtain ⟨grant, state⟩ := handed (s.flashPoke.lamp ch) (s.handedOn.wantOf ch) s.supply.hold (s.signalling ch) (by rwa [quiet.state])
  rw [← lamp] at grant state
  rw [settle_eq, (arbitrate_counts s.ready ch).2.2 ?_, grant, quiet.granted]
  rw [state, quiet.state]
  rcases faulted with e | e <;> simp [e]

/-- What settling keeps of a part of which an examination and stored measurements are written. -/
theorem Examined.settled {s y t : State} {m : Vector Meas 17} (x : Examined (s.withMeas m) y) (k : SettleKeeps y t) :
    SettleKeeps
      { s with
        bank := { s.bank with lamps := t.bank.lamps, meas := t.bank.meas, subs := t.bank.subs }
        report := t.report } t := by
  unfold Examined at x
  rw [x] at k
  exact { op := k.op, inputs := k.inputs, supply := k.supply, link := k.link, report := rfl, freeCount := k.freeCount, pending := k.pending,
          meas := rfl, subs := rfl, intervalOpen := k.intervalOpen, averagesReady := k.averagesReady, scenes := k.scenes,
          courtesy := k.courtesy, fns := k.fns, lamps := fun _ => .refl _, hostSide := k.hostSide, hostHazard := k.hostHazard,
          hazIn := k.hazIn, rate := k.rate, fanSettings := k.fanSettings, fanRetries := k.fanRetries, testStep := k.testStep,
          gauges := k.gauges }

theorem substRaised_entries {s s' t t' : State} (before : ∀ e, s'.subEntry e = s.subEntry e) (after : ∀ e, t'.subEntry e = t.subEntry e)
    (r : State) : substRaised s' t' r = substRaised s t r := by
  have step (e : Fin 3) (r : State) : substStep s' t' e r = substStep s t e r := by
    unfold substStep
    rw [before, after]
  rw [substRaised_eq, substRaised_eq, step, step, step]

theorem lampSample_touches (s : State) (ch : LampId) (v : Nat) :
    Examined (s.withMeas (s.storeSample (lampChan ch) v (10 * s.appliedDuty ch)).bank.meas) (s.lampSample ch v) := by
  have acts := lampActs_examined (s.storeSample (lampChan ch) v (10 * s.appliedDuty ch)) ch v
  rw [(storeSample_stored s (lampChan ch) v (10 * s.appliedDuty ch)).1] at acts
  unfold State.lampSample
  rw [(storeSample_stored s (lampChan ch) v (10 * s.appliedDuty ch)).1]
  exact acts

end Sys2Proof.Machine
end

section
/-! PROOF. What a trip leaves of the part (O48, first part). -/

namespace Sys2Proof.Machine

/-- What a tripping sample leaves, up to the settling: the records of the channels and the table. -/
structure Tripped (s t : State) (ch : LampId) (v : Nat) : Prop where
  lamps : ∀ c, (∀ e p, ¬ Engages s t e p c) → LampKept (if c = ch then s.tripRec ch v else s.lamp c) (t.lamp c)
  spares : ∀ e p q, Engages s t e p q → LampKept ((s.lamp q).standsIn p (if p = ch then s.tripRec ch v else s.lamp p).cfg).remapped (t.lamp q)
  granted : (t.lamp ch).granted = false
  engages : TripEngages s t ch
  fresh : ∀ e, (t.subEntry e).engaged = true → (s.subEntry e).engaged = true ∨ ∃ p q, Engages s t e p q
  meas : MeasStored s t (lampChan ch) v (v * (10 * s.appliedDuty ch) / 1000)
  report : t.report = (substRaised s t (s.tripWritten ch v)).report
  keeps : SettleKeeps
    { s with bank := { s.bank with lamps := t.bank.lamps, meas := t.bank.meas, subs := t.bank.subs }, report := t.report } t
  consistent : Consistent t

theorem tripRec_state (s : State) (ch : LampId) (v : Nat) :
    ((s.tripRec ch v).state = .tripped ∨ (s.tripRec ch v).state = .lockedOut) ∧
      ((s.tripRec ch v).state = .lockedOut ↔ ¬ (s.lamp ch).retriesUsed < (s.lamp ch).cfg.retryLimit) ∧ (s.tripRec ch v).granted = false := by
  unfold State.tripRec
  split
  · rename_i left
    simp [LampRec.tripped, left]
  · rename_i spent
    simp [LampRec.lockedOut, spent]

/-- A sample that trips a channel, with its settling. -/
theorem lampSample_tripped {s : State} {ch : LampId} {v : Nat} (trips : tripsOn ch (s.lamp ch) v = true) :
    Tripped s (s.lampSample ch v).settle ch v := by
  have below := lampSample_examined trips
  have touches := lampSample_touches s ch v
  have stored := (storeSample_stored s (lampChan ch) v (10 * s.appliedDuty ch)).2
  generalize s.lampSample ch v = y at below touches
  have keeps := settle_keeps y
  have consistent := settle_consistent y
  have grants (faulted) := settle_granted (s := y) (ch := ch) faulted
  generalize y.settle = t at keeps consistent grants
  have entry (e : Fin 3) : t.subEntry e = y.subEntry e := by rw [State.subEntry, keeps.subs]; rfl
  have before (e : Fin 3) : (s.tripWritten ch v).subEntry e = s.subEntry e := rfl
  have engages (e : Fin 3) (p q : LampId) : Engages s t e p q ↔ EntryEngages (fun x => x.1 == ch) (s.tripWritten ch v) e p q := by
    unfold Engages
    rw [entry, below.pairs, below.engaged]
    constructor
    · rintro ⟨pair, stood | ⟨-, p', q', due⟩, fresh⟩
      · rw [before, fresh] at stood
        cases stood
      · have same := due.pair.symm.trans pair
        simp only [Option.some.injEq, Prod.mk.injEq] at same
        exact same.1 ▸ same.2 ▸ due
    · exact fun due => ⟨due.pair, .inr ⟨e.isLt, p, q, due⟩, due.fresh⟩
  have here : y.lamp ch = s.tripRec ch v := by
    rw [below.others ch fun e p _ due => (tripWritten_engages.mp due).2.2.other rfl,
      tripWritten_lamp, if_pos rfl]
  obtain ⟨faulted, locked, ungranted⟩ := tripRec_state s ch v
  refine ⟨fun c none => ?_, fun e p q due => ?_, ?_, ⟨fun e p q => ?_, fun e => ?_, fun e on => ?_⟩, fun e on => ?_, ?_, ?_, touches.settled keeps, consistent⟩
  · have kept := keeps.lamps c
    rwa [below.others c fun e p _ due => none e p ((engages e p c).mpr due), tripWritten_lamp] at kept
  · have kept := keeps.lamps q
    have due := (engages e p q).mp due
    have apart : q ≠ ch := (tripWritten_engages.mp due).2.2.other
    rwa [below.spares e p q e.isLt due, tripWritten_lamp, tripWritten_lamp, if_neg apart] at kept
  · rw [grants (by rw [here]; exact faulted), here]
    exact ungranted
  · rw [engages, tripWritten_engages]
    refine and_congr_right fun _ => and_congr_left fun _ => ?_
    rw [(keeps.lamps ch).lockedOut, here]
    exact locked.symm
  · rw [entry, below.pairs]
    rfl
  · rw [entry]
    exact (below.engaged e).mpr (.inl on)
  · rw [entry] at on
    refine ((below.engaged e).mp on).imp_right fun ⟨_, p, q, due⟩ => ⟨p, q, (engages e p q).mpr due⟩
  · refine stored.kept (keeps.meas.trans ?_)
    rw [touches]
    rfl
  · rw [keeps.report, below.report, substRaised_entries before fun e => (entry e).symm]

/-- The fields of a channel that trips. -/
theorem tripRec_fields (s : State) (ch : LampId) (v : Nat) :
    (s.tripRec ch v).cfg = (s.lamp ch).cfg ∧ (s.tripRec ch v).setAside = (s.lamp ch).setAside ∧
      (s.tripRec ch v).substituteFor = (s.lamp ch).substituteFor ∧ (s.tripRec ch v).fed = (s.lamp ch).fed ∧
      (s.tripRec ch v).fedRun = (s.lamp ch).fedRun ∧ (s.tripRec ch v).onTime = 0 ∧
      (s.tripRec ch v).lampOut = (s.lampTaken ch v).lampOut := by
  unfold State.tripRec
  split <;> exact ⟨rfl, rfl, rfl, rfl, rfl, rfl, rfl⟩

theorem lampSpoken_form {s : State} (form : EventsOk s) (ch : LampId) (v : Nat) : EventsOk (s.lampSpoken ch v) := by
  unfold State.lampSpoken
  split
  · exact raise_eventsOk form ..
  · exact form

/-- CH_TRIP stands behind a trip where the mask lets it through and the queue had room. -/
theorem tripped_reports {s t : State} {ch : LampId} {v : Nat} (report : t.report = (substRaised s t (s.tripWritten ch v)).report)
    (enabled : s.eventEnabled .chTrip = true) (form : EventsOk s) (room : s.report.events.length < 16) :
    Reports t .chTrip ch.val (min 65535 v) := by
  have spoken : (s.lampSpoken ch v).report.events.length < 16 ∨ ∃ y ∈ (s.lampSpoken ch v).report.events, y.kind.urgent = false := by
    unfold State.lampSpoken
    split
    · refine raise_ordinary ?_ room ..
      split <;> rfl
    · exact .inl room
  have mask : (s.lampSpoken ch v).eventEnabled .chTrip = true := by
    rw [← enabled]
    unfold State.lampSpoken State.eventEnabled
    split
    · rw [raise_mask]
    · rfl
  have trip := raise_stands (k := .chTrip) rfl mask spoken ch.val v
  have tripForm : EventsOk ((s.lampSpoken ch v).raise .chTrip ch.val v) := raise_eventsOk (lampSpoken_form form ch v) ..
  have written : Reports (s.tripWritten ch v) .chTrip ch.val (min 65535 v) ∧ EventsOk (s.tripWritten ch v) := by
    unfold State.tripWritten Reports EventsOk
    dsimp only
    split
    · exact ⟨trip, tripForm⟩
    · exact ⟨trip.urgent tripForm rfl (.inl (by decide)) _, raise_eventsOk tripForm ..⟩
  have last := substRaised_reports (s := s) (t := t) written.1 written.2 rfl (by decide)
  unfold Reports
  rw [report]
  exact last

/-- A spare that engages stands in with its primary's settings where the table and the records agreed (R23). -/
theorem Tripped.takes {s t : State} {ch : LampId} {v : Nat} (h : Tripped s t ch v) (agree : SubstitutionOk s) {e : Fin 3} {p q : LampId}
    (due : Engages s t e p q) : SpareTakes s t e p q := by
  obtain ⟨rfl, locked, fits⟩ := (h.engages.engages e p q).mp due
  have kept := h.spares e p q due
  have own : (s.lamp q).setAside = none := by
    rw [agree.setAside q, Option.eq_none_iff_forall_ne_some]
    intro p' stands
    obtain ⟨k, on, pair⟩ := (agree.engaged q p').mp stands
    exact fits.free k p' on pair
  have primary : (s.tripRec p v).cfg = (s.lamp p).cfg := (tripRec_fields s p v).1
  rw [if_pos rfl, primary] at kept
  refine ⟨?_, kept.substituteFor, fun e' p' other on pair => ?_, ?_, ?_⟩
  · rw [ne_eq, kept.lockedOut]
    unfold LampRec.remapped LampRec.standsIn
    dsimp only
    have available := fits.available
    split <;> simp [available]
  · rw [h.engages.pairs] at pair
    by_cases stood : (s.subEntry e').engaged = true
    · exact fits.free e' p' stood pair
    · have again := (h.engages.engages e' p' q).mp ⟨(h.engages.pairs e').trans pair, on, by simpa using stood⟩
      obtain ⟨rfl, -, fits'⟩ := again
      rcases lt_or_gt_of_ne other with lower | higher
      · exact fits.lowest e' lower pair
      · exact fits'.lowest e higher fits.pair
  · rw [own]
    exact kept.setAside
  · rw [own]
    exact kept.cfg

/-- A spare that engages keeps its retries, its time on and its fed flag. -/
theorem Tripped.spareKeeps {s t : State} {ch : LampId} {v : Nat} (h : Tripped s t ch v) {e : Fin 3} {p q : LampId}
    (due : Engages s t e p q) : (t.lamp q).retriesUsed = (s.lamp q).retriesUsed ∧ (t.lamp q).onTime = (s.lamp q).onTime ∧
      (t.lamp q).fed = (s.lamp q).fed :=
  have kept := h.spares e p q due
  ⟨kept.retriesUsed, kept.onTime, kept.fed⟩

/-! ### The decisions (R17, R19) -/

theorem exec_fedDecision (ch : LampId) (v : Nat) (s : State) :
    exec (.fedDecision ch v) s = s.live (fun s => if s.fedDecides ch v then s.readBack ch v else s) := rfl

/-- A sample that decides a lamp_out flag and trips nothing. -/
theorem lampSample_decides {s : State} {ch : LampId} {v : Nat} (holds : tripsOn ch (s.lamp ch) v = false)
    (decides : s.lampOutDecides ch v = true) :
    ∃ m, s.lampSample ch v = { (s.setLamp ch (s.lampTaken ch v)).withMeas m with report := (s.lampSpoken ch v).report } ∧
      MeasStored s (s.withMeas m) (lampChan ch) v (v * (10 * s.appliedDuty ch) / 1000) := by
  obtain ⟨rest, stored⟩ := storeSample_stored s (lampChan ch) v (10 * s.appliedDuty ch)
  refine ⟨_, ?_, rest ▸ stored⟩
  unfold State.lampSample
  rw [rest]
  generalize (s.storeSample (lampChan ch) v (10 * s.appliedDuty ch)).bank.meas = m
  refine (lampActs_withMeas s m ch v).trans ?_
  rw [lampActs_eq, if_neg (by simp [holds]), lampJudged_eq]
  rfl

/-- A sample that decides a lamp_out flag writes the flag, and the counts beside it. -/
theorem lampTaken_decided {s : State} {ch : LampId} {v : Nat} (decides : s.lampOutDecides ch v = true) :
    LampKept { s.lamp ch with lampOut := decide (v < lampOutThreshold (s.lamp ch).cfg) } (s.lampTaken ch v) := by
  have out : (s.lampTaken ch v).lampOut = decide (v < lampOutThreshold (s.lamp ch).cfg) := by simp [State.lampTaken, decides]
  constructor
  case lampOut => exact out
  all_goals simp [State.lampTaken]

theorem fedDecides_iff {s : State} {ch : LampId} {v : Nat} :
    s.fedDecides ch v = true ↔ s.readBackTaken ch = true ∧ (s.lamp ch).fedRun.verdict = s.lineFed v ∧ 2 ≤ (s.lamp ch).fedRun.count ∧
      (s.lamp ch).fed ≠ s.lineFed v := by
  have verdict (r : Run) (b : Bool) : (r.after b).verdict = b := by rw [after_eq]
  unfold State.fedDecides
  dsimp only
  rw [verdict]
  simp only [Bool.and_eq_true, beq_iff_eq, bne_iff_ne, after_third, and_assoc, ne_comm]

end Sys2Proof.Machine
end

section
/-! PROOF. Trips, decisions of lamp_out and fed, and two trips on one moment (O48). -/

namespace Sys2Proof.Machine

/-! ### Two readings on one moment -/

/-- What a stored sample writes follows from the measurements and the interval alone. -/
theorem storeSample_meas {s t : State} (meas : t.bank.meas = s.bank.meas) (interval : t.bank.intervalOpen = s.bank.intervalOpen)
    (ch : ChanId) (v duty : Nat) : t.storeSample ch v duty = t.withMeas (s.storeSample ch v duty).bank.meas := by
  have same : t.measOf ch = s.measOf ch := by rw [State.measOf, meas]; rfl
  unfold State.storeSample
  dsimp only
  rw [same, interval]
  unfold State.setMeas State.withMeas
  split <;> rw [meas]

/-- The readings due where one falls due on each of two lamp channels. -/
theorem due_two {a b : LampId} (below : a < b) (va vb : Nat) :
    dueReadings ((only (lampChan a) va).set (lampChan b) (some vb)) = [(lampChan a, va), (lampChan b, vb)] := by
  have pick : ∀ a b : LampId, a < b →
      allChans.filter (fun c => decide (c = lampChan a ∨ c = lampChan b)) = [lampChan a, lampChan b] := by decide
  have apart : lampChan a ≠ lampChan b := fun e => by
    have := congrArg Fin.val e
    have := Fin.lt_def.mp below
    simp only [lampChan] at *
    omega
  have reading (c : ChanId) : ((only (lampChan a) va).set (lampChan b) (some vb))[c].map (fun v => (c, v)) =
      if decide (c = lampChan a ∨ c = lampChan b) then some (c, if c = lampChan b then vb else va) else none := by
    by_cases second : c = lampChan b
    · subst second
      simp
    · have other : (lampChan b).val ≠ c.val := fun e => second (Fin.ext e.symm)
      have read : ((only (lampChan a) va).set (lampChan b) (some vb))[c] = (only (lampChan a) va)[c] := by simp [other]
      rw [read, only_get]
      by_cases first : c = lampChan a
      · subst first
        simp [second]
      · simp [first, second]
  unfold dueReadings
  simp only [reading]
  rw [← List.filterMap_filter, pick a b below]
  simp [apart]

/-- A channel that conducts and is handed a nonzero value goes on conducting. -/
theorem handed_on {c : LampRec} (lit : c.state = .inrush ∨ c.state = .on) {w : Nat × Reason} (value : w.1 ≠ 0) (hold signalling : Bool) :
    (c.handed w hold signalling).state = c.state := by
  unfold LampRec.handed
  split
  · unfold LampRec.takeDemand
    rcases lit with e | e <;> simp [e, value]
  · rfl

/-- Where a consistent part's engine does not begin to flash, a trip leaves the value of every channel that is no spare. -/
theorem Tripped.want {s t : State} {ch : LampId} {v : Nat} (h : Tripped s t ch v) (consistent : Consistent s) (flash : t.flash = s.flash)
    {b : LampId} (other : b ≠ ch) (spare : ∀ e p, (s.subEntry e).pair ≠ some (p, b)) : t.wantOf b = s.wantOf b ∧ t.serving b = s.serving b := by
  have settings (c : LampId) : (t.lamp c).cfg.fn = (s.lamp c).cfg.fn := by
    by_cases engaged : ∃ e p, Engages s t e p c
    · obtain ⟨e, p, due⟩ := engaged
      rw [(h.spares e p c due).cfg]
      rfl
    · rw [(h.lamps c fun e p due => engaged ⟨e, p, due⟩).cfg]
      split
      · rename_i same
        rw [same, (tripRec_fields s ch v).1]
      · rfl
  have kept := h.lamps b fun e p due => spare e p ((h.engages.pairs e).symm.trans due.1)
  rw [if_neg other] at kept
  have serving : t.serving b = s.serving b := by
    have op : t.op = s.op := h.keeps.op
    have stands := kept.substituteFor
    have own := settings b
    have primary := settings
    simp only [State.serving, Bank.servingIn, State.lamp, op] at stands primary ⊢
    rw [stands, primary]
    split
    · rfl
    · split
      · rename_i p _
        exact primary p
      · rfl
  have alike : ResolvesAlike s t :=
    ⟨h.keeps.fns, by rw [h.keeps.scenes], by rw [h.keeps.courtesy], level_congr h.keeps.inputs _, by rw [h.keeps.op],
      fun _ => level_congr h.keeps.inputs _, by rw [h.keeps.op], by rw [h.keeps.supply], by rw [h.keeps.supply]⟩
  have fns (f : Fn) : (t.fnRec f).resolved = (s.fnRec f).resolved ∧ (t.fnRec f).reason = (s.fnRec f).reason := by
    rw [(h.consistent.resolved f).1, (h.consistent.resolved f).2, alike.resolve, State.resolvedReason, alike.hold]
    exact ⟨(consistent.resolved f).1.symm, (consistent.resolved f).2.symm⟩
  have stopTurn : t.stopTurnChannel b = s.stopTurnChannel b := by
    unfold State.stopTurnChannel
    rw [alike.state, kept.cfg, serving]
  refine ⟨?_, serving⟩
  unfold State.wantOf State.flashValue
  simp only [serving, stopTurn, flash, (fns _).1, (fns _).2]

/-- After a trip on another channel a conducting one with a nonzero demand stands as it stood. -/
theorem tripped_other {s : State} {a b : LampId} {va : Nat} (trips : tripsOn a (s.lamp a) va = true) (consistent : Consistent s)
    (still : FlashStill s) (below : a < b) (lit : (s.lamp b).state = .inrush ∨ (s.lamp b).state = .on) (demand : (s.lamp b).demand ≠ 0)
    (spare : ∀ e p, (s.subEntry e).pair ≠ some (p, b)) :
    let t := (s.lampSample a va).settle
    (t.lamp b).state = (s.lamp b).state ∧ t.appliedDuty b = s.appliedDuty b := by
  intro t
  have tripped : Tripped s t a va := lampSample_tripped trips
  have other : b ≠ a := (ne_of_lt below).symm
  have touches := lampSample_touches s a va
  have examined := lampSample_examined trips
  have flash : t.flash = s.flash := by
    have poke : FlashStill (s.lampSample a va) := by
      have op := touches.op
      unfold FlashStill State.wanted at still ⊢
      rw [touches.flash, op]
      exact still
    exact (settle_flash _).trans ((congrArg State.flash (flashPoke_still poke)).trans touches.flash)
  obtain ⟨want, serving⟩ := tripped.want consistent flash other spare
  have value : (t.lamp b).demand = (s.lamp b).demand := by
    rw [(tripped.consistent.demands b).1, want, (consistent.demands b).1]
  have record : (s.lampSample a va).lamp b = s.lamp b := by
    rw [examined.others b fun e p _ due => spare e p ?_, tripWritten_lamp, if_neg other]
    exact due.pair
  have state : (t.lamp b).state = (s.lamp b).state := by
    have lamp := (ready_lamp (s.lampSample a va) b).trans (handedOn_lamp_eq (s.lampSample a va) b)
    have poked : ((s.lampSample a va).flashPoke.lamp b).state = (s.lamp b).state := by rw [(flashPoke_quietLamps _ b).state, record]
    have carried : ((s.lampSample a va).handedOn.wantOf b).1 = (t.lamp b).demand := by
      have arb := (arbitrate_demand (s.lampSample a va).ready b).1
      rw [← settle_eq, ready_lamp] at arb
      exact (arb.trans ((handAll_demand _ b).1.trans (congrArg Prod.fst (handedOn_wantOf _ b)))).symm
    have on := handed_on (c := (s.lampSample a va).flashPoke.lamp b) (by rwa [poked]) (w := (s.lampSample a va).handedOn.wantOf b)
      (by rw [carried, value]; exact demand) (s.lampSample a va).supply.hold ((s.lampSample a va).signalling b)
    rw [← lamp, poked] at on
    have arb := (arbitrate_counts (s.lampSample a va).ready b).2.2 (by rw [on]; rcases lit with e | e <;> simp [e])
    rw [← settle_eq] at arb
    exact (congrArg LampRec.state arb).trans on
  refine ⟨state, ?_⟩
  unfold State.appliedDuty
  have supply : t.supply = s.supply := tripped.keeps.supply
  dsimp only
  rw [supply, state, value, serving]

theorem storeTaken_lit {s t : State} {ch : LampId} (lit : (s.lamp ch).state = .inrush ∨ (s.lamp ch).state = .on) (v : Nat) :
    t.storeTaken (lampChan ch) (s.takenOn (lampChan ch)) v = t.storeSample (lampChan ch) v (10 * s.appliedDuty ch) := by
  rw [State.takenOn_lamp, if_pos (conducts_iff.mpr lit)]
  rfl

theorem readingActs_lit {s t : State} {ch : LampId} (lit : (s.lamp ch).state = .inrush ∨ (s.lamp ch).state = .on) (v : Nat) :
    t.readingActs (lampChan ch) (s.takenOn (lampChan ch)) v = t.lampActs ch v := by
  rw [State.takenOn_lamp, if_pos (conducts_iff.mpr lit)]
  exact State.sampleActs_lamp t ch v

/-- Two trips on one moment are two trips, the lower channel's first (R31, R32). -/
theorem currentSample_two {s : State} (awake : s.op.state ≠ .sleep) {a b : LampId} {va vb : Nat} (below : a < b)
    (litA : (s.lamp a).state = .inrush ∨ (s.lamp a).state = .on) (litB : (s.lamp b).state = .inrush ∨ (s.lamp b).state = .on)
    (duty : (s.lampSample a va).settle.appliedDuty b = s.appliedDuty b) :
    s.currentSample ((only (lampChan a) va).set (lampChan b) (some vb)) = ((s.lampSample a va).settle.lampSample b vb).settle := by
  have acts : s.currentSample ((only (lampChan a) va).set (lampChan b) (some vb)) = s.takeReadings (dueReadings _) :=
    (currentSample_eq s _).trans (if_neg awake)
  rw [acts, due_two below, State.takeReadings]
  simp only [List.foldl_cons, List.foldl_nil]
  rw [storeTaken_lit litA, storeTaken_lit litB, readingActs_lit litA, readingActs_lit litB]
  have second := storeSample_meas (s := s.storeSample (lampChan a) va (10 * s.appliedDuty a)) rfl rfl (lampChan b) vb (10 * s.appliedDuty b)
  have keeps := (lampActs_examined (s.storeSample (lampChan a) va (10 * s.appliedDuty a)) a va).acts.trans
    (settle_keeps ((s.storeSample (lampChan a) va (10 * s.appliedDuty a)).lampActs a va)).acts
  have opened : ((s.storeSample (lampChan a) va (10 * s.appliedDuty a)).lampActs a va).settle.bank.intervalOpen =
      (s.storeSample (lampChan a) va (10 * s.appliedDuty a)).bank.intervalOpen := by
    rw [(settle_keeps _).intervalOpen, lampActs_examined]
  have later := storeSample_meas keeps.meas opened (lampChan b) vb (10 * s.appliedDuty b)
  unfold State.lampSample at duty ⊢
  rw [duty]
  generalize s.storeSample (lampChan a) va (10 * s.appliedDuty a) = stored at *
  generalize (stored.storeSample (lampChan b) vb (10 * s.appliedDuty b)).bank.meas = m at *
  rw [later, second, lampActs_withMeas, settle_withMeas]

/-- Settles O48: the deciding sample or read-back writes its channel, the table is examined, and the cause is settled. -/
theorem samplesDecideTripsLampOutAndFed : Obligations.SamplesDecideTripsLampOutAndFed := by
  refine ⟨fun s ch v running lit due => ?_, fun s ch v running on steady low few => ?_, fun s ch v running awake off free => ?_,
    fun s a b va vb running awake consistent still below litA litB demand highA highB spare => ?_⟩
  · have trips : tripsOn ch (s.lamp ch) v = true := (tripsOn_iff lit).mpr due
    have tripped := lampSample_tripped trips
    rw [exec_runs running (exec_trip ch v s), if_pos trips]
    generalize (s.lampSample ch v).settle = t at tripped
    obtain ⟨cfg, setAside, substituteFor, fed, fedRun, onTime, lampOut⟩ := tripRec_fields s ch v
    have kept := tripped.lamps ch fun e p engaged => absurd rfl ((tripped.engages.engages e p ch).mp engaged).2.2.other
    rw [if_pos rfl] at kept
    obtain ⟨faulted, locked, -⟩ := tripRec_state s ch v
    refine ⟨t, rfl, tripped.granted, kept.onTime.trans onTime, ?_, fun left => ?_, fun spent => ?_, fun enabled form room => ?_, ?_,
      tripped.engages, fun agree e p q engaged => tripped.takes agree engaged, fun e p q engaged => tripped.spareKeeps engaged,
      fun c other none => ?_, ⟨kept.cfg.trans cfg, kept.setAside.trans setAside, kept.substituteFor.trans substituteFor,
        kept.fed.trans fed, kept.fedRun.trans fedRun⟩, tripped.keeps, tripped.consistent⟩
    · rw [← slot_percent lit]
      exact tripped.meas
    · have record : s.tripRec ch v = (s.lampTaken ch v).tripped := if_pos left
      rw [record] at kept
      exact ⟨kept.tripped.mpr rfl, kept.faultReason (.inl rfl), kept.retriesUsed, kept.retryTimer⟩
    · have record : s.tripRec ch v = (s.lampTaken ch v).lockedOut := if_neg (by omega)
      rw [record] at kept
      exact ⟨kept.lockedOut.mpr rfl, kept.faultReason (.inr rfl), kept.retriesUsed⟩
    · exact tripped_reports tripped.report enabled form room
    · intro out changes
      have decides : s.lampOutDecides ch v = true ↔ changes := lampOutDecides_iff.trans and_assoc
      refine ⟨s.lampSpoken ch v, fun yes => ⟨if_pos (decides.mpr yes), ?_⟩, fun no => ⟨if_neg (mt decides.mp no), ?_⟩, fun left => ?_,
        fun spent => ?_⟩
      · rw [kept.lampOut, lampOut]
        exact if_pos (decides.mpr yes)
      · rw [kept.lampOut, lampOut]
        exact if_neg (mt decides.mp no)
      · have none (e : Fin 3) : (t.subEntry e).engaged = true → (s.subEntry e).engaged = true := by
          intro on
          refine (tripped.fresh e on).resolve_right fun ⟨p, q, engaged⟩ => ?_
          obtain ⟨rfl, out, -⟩ := (tripped.engages.engages e p q).mp engaged
          rw [kept.lockedOut, locked] at out
          exact out left
        rw [tripped.report, substRaised_none none]
        exact if_pos left
      · rw [tripped.report]
        exact substRaised_report_congr s t (if_neg (by omega))
    · have other' := tripped.lamps c none
      rwa [if_neg other] at other'
  · intro out agrees count changes
    have decides : s.lampOutDecides ch v = true := lampOutDecides_iff.mpr ⟨⟨on, steady⟩, agrees, count, changes⟩
    have holds : tripsOn ch (s.lamp ch) v = false := by
      rw [← Bool.not_eq_true, tripsOn_iff (.inr on), if_neg (by simp [on])]
      rintro (high | ⟨over', again⟩)
      · omega
      · rcases low' : few with under | few
        · omega
        · omega
    rw [exec_runs running (exec_lampOutDecision ch v s), if_pos decides]
    obtain ⟨m, value, stored⟩ := lampSample_decides holds decides
    rw [value]
    have keeps := settle_keeps { (s.setLamp ch (s.lampTaken ch v)).withMeas m with report := (s.lampSpoken ch v).report }
    have consistent := settle_consistent { (s.setLamp ch (s.lampTaken ch v)).withMeas m with report := (s.lampSpoken ch v).report }
    generalize State.settle { (s.setLamp ch (s.lampTaken ch v)).withMeas m with report := (s.lampSpoken ch v).report } = t at keeps consistent
    have spoken : s.lampSpoken ch v = s.raise (if out then .chLampOut else .chLampOk) ch.val v := if_pos decides
    refine ⟨t, rfl, ?_, keeps.report.trans (?_ : (s.lampSpoken ch v).report = _), ?_, consistent⟩
    · rw [← slot_percent (.inr on)]
      exact stored.kept keeps.meas
    · rw [spoken]
    · exact { keeps with
        meas := rfl
        report := rfl
        lamps := fun c => by
          refine LampKept.trans ?_ (keeps.lamps c)
          change LampKept ((s.setLamp ch _).lamp c) ((s.setLamp ch _).lamp c)
          rw [State.lamp_setLamp, State.lamp_setLamp]
          split
          · exact lampTaken_decided decides
          · exact .refl _ }
  · intro fed agrees count changes
    have taken : s.readBackTaken ch = true := by
      unfold State.readBackTaken
      rcases off with e | e | e <;> simp [e, free, awake, LampState.readBack]
    have decides : s.fedDecides ch v = true := fedDecides_iff.mpr ⟨taken, agrees, count, changes⟩
    have run : (s.lamp ch).fedRun.after fed = { verdict := fed, count := 3 } := by
      rw [after_eq, if_pos agrees]
      congr 1
      omega
    have acts := readBack_eq s ch v
    dsimp only at acts
    rw [show s.lineFed v = fed from rfl, run] at acts
    rw [exec_runs running (exec_fedDecision ch v s), if_pos decides, acts]
    have rises : (fed = true ∧ (s.lamp ch).fed = false) ↔ fed = true := by
      refine ⟨And.left, fun set => ⟨set, ?_⟩⟩
      rw [set] at changes
      simpa using changes
    simp only [if_true, rises]
  · have tripsA : tripsOn a (s.lamp a) va = true := (tripsOn_iff litA).mpr (.inl highA)
    obtain ⟨state, duty⟩ := tripped_other tripsA consistent still below litB demand spare
    have moment := currentSample_two awake below litA litB (vb := vb) duty
    have op : (s.lampSample a va).settle.op = s.op := (lampSample_tripped tripsA).keeps.op
    rw [exec_runs running (exec_currentSample _ s), moment]
    generalize first : (s.lampSample a va).settle = t at state duty op
    have litB' : (t.lamp b).state = .inrush ∨ (t.lamp b).state = .on := by rwa [state]
    have tripsB : tripsOn b (t.lamp b) vb = true := (tripsOn_iff litB').mpr (.inl highB)
    refine ⟨t, _, ?_, exec_runs (by rw [op]; exact running) (exec_trip b vb t), ?_, ?_⟩
    · rw [exec_runs running (exec_trip a va s), if_pos tripsA, first]
    · rw [if_pos tripsB]
      exact (lampSample_tripped tripsB).granted
    · rw [if_pos tripsB]

end Sys2Proof.Machine
end

section
/-! PROOF. The ends of the flash engine's phases (O50). -/

namespace Sys2Proof.Machine

/-- The same channels serve the same functions, and the flash record is the same. -/
structure FlashAlike (s t : State) : Prop where
  serving : ∀ ch, t.serving ch = s.serving ch
  flash : t.flash = s.flash

theorem FlashAlike.driven {s t : State} (h : FlashAlike s t) (ch : LampId) : t.flashDriven ch = s.flashDriven ch := by
  rw [State.flashDriven, State.flashDriven, State.flashDrivenBy, State.flashDrivenBy, h.serving, h.flash]

theorem FlashAlike.drivenBy {s t : State} (h : FlashAlike s t) (fl : Flash) (ch : LampId) : t.flashDrivenBy fl ch = s.flashDrivenBy fl ch := by
  rw [State.flashDrivenBy, State.flashDrivenBy, h.serving]

/-- A lamp record is written that keeps what a serving function follows from. -/
theorem FlashAlike.write {s t u : State} (h : FlashAlike s t) {ch : LampId} {c : LampRec} (cfg : c.cfg = (t.lamp ch).cfg)
    (substituteFor : c.substituteFor = (t.lamp ch).substituteFor) (lamps : u.bank.lamps = (t.setLamp ch c).bank.lamps)
    (op : u.op = t.op) (flash : u.flash = t.flash) : FlashAlike s u := by
  refine ⟨fun k => Eq.trans ?_ (h.serving k), flash.trans h.flash⟩
  refine serving_of_map (by rw [op]) (fun d => ?_) k
  have lamp : u.lamp d = (t.setLamp ch c).lamp d := by rw [State.lamp, lamps]; rfl
  rw [lamp, State.lamp_setLamp]
  split
  · rename_i same
    rw [same, cfg, substituteFor]
    exact ⟨rfl, rfl⟩
  · exact ⟨rfl, rfl⟩

/-! ### A new flash record (R17) -/

/-- A channel's record as the flash record changes: one that ceases to be flash-driven begins its lamp-out run again. -/
def State.ceases (s : State) (fl : Flash) (ch : LampId) : LampRec :=
  if s.flashDriven ch = true ∧ s.flashDrivenBy fl ch = false then { s.lamp ch with lampRun := { verdict := false, count := 0 } }
  else s.lamp ch

theorem restartIfCeased_fold (s : State) (fl : Flash) (l : List LampId) (distinct : l.Nodup) (u : State) (alike : FlashAlike s u)
    (same : ∀ c ∈ l, u.lamp c = s.lamp c) :
    let t := l.foldl (State.restartIfCeased fl) u
    (∀ c, t.lamp c = if c ∈ l then s.ceases fl c else u.lamp c) ∧ t = { u with bank := { u.bank with lamps := t.bank.lamps } } := by
  induction l generalizing u with
  | nil => exact ⟨fun c => by simp, rfl⟩
  | cons a l ih =>
    obtain ⟨fresh, distinct⟩ := List.nodup_cons.mp distinct
    have here := same a (.head _)
    have step : State.restartIfCeased fl u a = u.setLamp a (s.ceases fl a) := by
      unfold State.restartIfCeased State.ceases
      rw [alike.driven, alike.drivenBy, here]
      simp only [Bool.and_eq_true, Bool.not_eq_true']
      split
      · rfl
      · rw [← here, setLamp_self]
    have kept : (s.ceases fl a).cfg = (u.lamp a).cfg ∧ (s.ceases fl a).substituteFor = (u.lamp a).substituteFor := by
      rw [here]
      unfold State.ceases
      split <;> exact ⟨rfl, rfl⟩
    have more := ih distinct (u.setLamp a (s.ceases fl a)) (alike.write kept.1 kept.2 rfl rfl rfl) fun c mem => by
      have other : c ≠ a := by rintro rfl; exact fresh mem
      rw [State.lamp_setLamp_other _ _ other]
      exact same c (.tail _ mem)
    dsimp only at more ⊢
    rw [List.foldl_cons, step]
    obtain ⟨lamps, rest⟩ := more
    refine ⟨fun c => ?_, rest⟩
    rw [lamps, State.lamp_setLamp]
    by_cases e : c = a
    · subst e
      simp [fresh]
    · simp [e]

theorem setFlash_eq (s : State) (fl : Flash) :
    (∀ ch, (s.setFlash fl).lamp ch = s.ceases fl ch) ∧
      s.setFlash fl = { s with bank := { s.bank with lamps := (s.setFlash fl).bank.lamps }, flash := fl } := by
  obtain ⟨lamps, rest⟩ := restartIfCeased_fold s fl allLamps (by decide) s ⟨fun _ => rfl, rfl⟩ fun _ _ => rfl
  unfold State.setFlash
  dsimp only at lamps rest
  generalize allLamps.foldl (State.restartIfCeased fl) s = u at lamps rest
  refine ⟨fun ch => (lamps ch).trans (if_pos (mem_allLamps ch)), ?_⟩
  exact congrArg (fun v : State => { v with flash := fl }) rest

theorem ceases_kept (s : State) (fl : Flash) (ch : LampId) :
    (s.ceases fl ch).phaseSample = (s.lamp ch).phaseSample ∧ (s.ceases fl ch).lampRun =
      if s.flashDriven ch = true ∧ s.flashDrivenBy fl ch = false then { verdict := false, count := 0 } else (s.lamp ch).lampRun := by
  unfold State.ceases
  split <;> exact ⟨rfl, rfl⟩

/-! ### The end of an OFF phase (R76) -/

theorem exec_offPhaseEnd (s : State) : exec .offPhaseEnd s = s.live (fun s => if s.flash.phase = .off then s.endOffPhase else s) := rfl

theorem exec_onPhaseEnd (s : State) : exec .onPhaseEnd s = s.live (fun s => if s.flash.phase = .on then s.endOnPhase else s) := rfl

theorem anyLampOut_iff {s : State} {f : Fn} : s.anyLampOut f = true ↔ ∃ ch, s.serving ch = some f ∧ (s.lamp ch).lampOut = true := by
  simp [State.anyLampOut, State.channelsOf, mem_allLamps]

theorem fastFor_iff {s : State} {set : Sides} : s.fastFor set = true ↔
    (set = .left ∧ ∃ ch, s.serving ch = some .indL ∧ (s.lamp ch).lampOut = true) ∨
      (set = .right ∧ ∃ ch, s.serving ch = some .indR ∧ (s.lamp ch).lampOut = true) := by
  cases set <;> simp [State.fastFor, anyLampOut_iff]

theorem wanted_eq (s : State) : s.wanted =
    if s.flash.hazIn = true ∨ s.flash.hostHazard = true then .both
    else if s.op.state = .drive then s.flash.hostSide else .none := by
  simp [State.wanted, Flash.hazard]

/-- A settled write of the flash record: the record stands, each run with it. -/
theorem setFlash_settled {s : State} {fl : Flash} (still : FlashStill { s with flash := fl }) :
    (s.setFlash fl).settle.flash = fl ∧ ∀ ch, ((s.setFlash fl).settle.lamp ch).phaseSample = (s.lamp ch).phaseSample ∧
      ((s.setFlash fl).settle.lamp ch).lampRun =
        if s.flashDriven ch = true ∧ s.flashDrivenBy fl ch = false then { verdict := false, count := 0 } else (s.lamp ch).lampRun := by
  obtain ⟨lamps, rest⟩ := setFlash_eq s fl
  generalize s.setFlash fl = u at lamps rest
  have poke : FlashStill u := by
    rw [rest]
    exact still
  refine ⟨?_, fun ch => ?_⟩
  · rw [settle_flash, flashPoke_still poke, rest]
  · obtain ⟨run, sample⟩ := settle_runs poke ch
    rw [run, sample, lamps]
    exact ceases_kept s fl ch

/-- What settling keeps holds of the part with another flash record, before and after. -/
theorem setFlash_keepsAll {s t : State} {fl : Flash} (k : SettleKeeps (s.setFlash fl) t) :
    SettleKeeps { s with flash := t.flash } t := by
  obtain ⟨lamps, rest⟩ := setFlash_eq s fl
  generalize s.setFlash fl = u at k lamps rest
  have kept (ch : LampId) : LampKept (s.lamp ch) (s.ceases fl ch) := by
    unfold State.ceases
    split
    · constructor <;> simp
    · exact .refl _
  have changed (ch : LampId) : LampKept (s.lamp ch) (t.lamp ch) := (kept ch).trans (lamps ch ▸ k.lamps ch)
  rw [rest] at k
  exact { k with lamps := changed, hostSide := rfl, hostHazard := rfl, hazIn := rfl, rate := rfl }

/-- No sample of a new ON phase has been taken (R18). -/
theorem clearPhaseSample_fold (s : State) :
    (∀ ch, (allLamps.foldl State.clearPhaseSample s).lamp ch = { s.lamp ch with phaseSample := none }) ∧
      allLamps.foldl State.clearPhaseSample s =
        { s with bank := { s.bank with lamps := (allLamps.foldl State.clearPhaseSample s).bank.lamps } } := by
  obtain ⟨lamps, rest⟩ := lamps_fold (fun c => { c with phaseSample := none }) allLamps (by decide) s
  exact ⟨fun ch => (lamps ch).trans (if_pos (mem_allLamps ch)), rest⟩

/-! ### The end of an ON phase (R18, R75) -/

/-- The lamp_out flag as an ON phase ends: that of a flash-driven channel is decided by the last sample of the phase. -/
def State.phaseOut (s : State) (ch : LampId) : Bool :=
  match (s.lamp ch).phaseSample with
  | some v => if s.flashDriven ch = true then decide (v < lampOutThreshold (s.lamp ch).cfg) else (s.lamp ch).lampOut
  | none => (s.lamp ch).lampOut

/-- A channel's record as an ON phase ends. -/
def State.phaseRec (s : State) (ch : LampId) : LampRec := { s.lamp ch with lampOut := s.phaseOut ch }

/-- The event of a channel whose flag changes as an ON phase ends. -/
def State.phaseEvent (s r : State) (ch : LampId) : State :=
  match (s.lamp ch).phaseSample with
  | some v =>
    if s.flashDriven ch = true ∧ decide (v < lampOutThreshold (s.lamp ch).cfg) ≠ (s.lamp ch).lampOut then
      r.raise (if decide (v < lampOutThreshold (s.lamp ch).cfg) then .chLampOut else .chLampOk) ch.val v
    else r
  | none => r

theorem decidePhase_eq {s u r : State} {ch : LampId} (alike : FlashAlike s u) (here : u.lamp ch = s.lamp ch) (report : u.report = r.report) :
    u.decidePhase ch = { u.setLamp ch (s.phaseRec ch) with report := (s.phaseEvent r ch).report } := by
  have still (same : s.phaseOut ch = (s.lamp ch).lampOut) :
      u = { u.setLamp ch (s.phaseRec ch) with report := r.report } := by
    rw [State.phaseRec, same, ← report]
    exact ((setLamp_self u ch).symm.trans (by rw [here]; rfl))
  have decided {v : Nat} (sample : (s.lamp ch).phaseSample = some v) (driven : s.flashDriven ch = true) :
      s.phaseOut ch = decide (v < lampOutThreshold (s.lamp ch).cfg) := by
    simp only [State.phaseOut, sample]
    exact if_pos driven
  unfold State.decidePhase State.phaseEvent
  rw [alike.driven, here]
  cases sample : (s.lamp ch).phaseSample with
  | none =>
    dsimp only
    rw [ite_self]
    exact still (by simp only [State.phaseOut, sample])
  | some v =>
    dsimp only
    by_cases driven : s.flashDriven ch = true
    · rw [if_pos driven, State.setLampOut, here]
      by_cases same : (s.lamp ch).lampOut = decide (v < lampOutThreshold (s.lamp ch).cfg)
      · rw [if_pos same, if_neg fun h => h.2 same.symm]
        exact still ((decided sample driven).trans same.symm)
      · rw [if_neg same, if_pos (And.intro driven (Ne.symm same)), State.phaseRec, decided sample driven]
        exact raise_eq (by exact report) ..
    · rw [if_neg driven, if_neg fun h => driven h.1]
      refine still ?_
      simp only [State.phaseOut, sample]
      exact if_neg driven

theorem decidePhase_fold (s : State) (l : List LampId) (distinct : l.Nodup) (u r : State) (alike : FlashAlike s u)
    (same : ∀ c ∈ l, u.lamp c = s.lamp c) (report : u.report = r.report) :
    let t := l.foldl State.decidePhase u
    (∀ c, t.lamp c = if c ∈ l then s.phaseRec c else u.lamp c) ∧
      t = { u with bank := { u.bank with lamps := t.bank.lamps }, report := (l.foldl s.phaseEvent r).report } := by
  induction l generalizing u r with
  | nil => exact ⟨fun c => by simp, congrArg (fun x => { u with report := x }) report⟩
  | cons a l ih =>
    obtain ⟨fresh, distinct⟩ := List.nodup_cons.mp distinct
    have here := same a (.head _)
    have step := decidePhase_eq alike here report
    dsimp only
    rw [List.foldl_cons, List.foldl_cons]
    generalize u.decidePhase a = w at step ⊢
    have lamp (c : LampId) : w.lamp c = if c = a then s.phaseRec a else u.lamp c := by
      rw [step]
      exact State.lamp_setLamp ..
    have more := ih distinct w (s.phaseEvent r a)
      (alike.write (ch := a) (c := s.phaseRec a) (by rw [here]; rfl) (by rw [here]; rfl) (by rw [step]) (by rw [step]; rfl) (by rw [step]; rfl))
      (fun c mem => by
        have other : c ≠ a := by rintro rfl; exact fresh mem
        rw [lamp, if_neg other]
        exact same c (.tail _ mem)) (by rw [step])
    dsimp only at more
    generalize List.foldl State.decidePhase w l = t at more
    obtain ⟨lamps, rest⟩ := more
    refine ⟨fun c => ?_, rest.trans (by rw [step]; rfl)⟩
    rw [lamps, lamp]
    by_cases e : c = a
    · subst e
      simp [fresh]
    · simp [e]

/-- Settles O50: each end of a phase writes the flags and the flash record, and the cause is settled. -/
theorem flashPhasesAlternate : Obligations.FlashPhasesAlternate := by
  refine ⟨fun s running on => ?_, fun s running off => ?_⟩
  · rw [exec_runs running (exec_onPhaseEnd s), if_pos on, State.endOnPhase]
    obtain ⟨lamps, rest⟩ := decidePhase_fold s allLamps (by decide) s s ⟨fun _ => rfl, rfl⟩ (fun _ _ => rfl) rfl
    dsimp only at lamps rest ⊢
    generalize allLamps.foldl State.decidePhase s = u at lamps rest ⊢
    have flash : u.flash = s.flash := by rw [rest]
    have still : FlashStill { u with flash := { u.flash with phase := .off, timer := some u.flash.half } } := .inl (by simp)
    have flashed := (settle_flash { u with flash := { u.flash with phase := .off, timer := some u.flash.half } }).trans
      (congrArg State.flash (flashPoke_still still))
    have keeps := settle_keeps { u with flash := { u.flash with phase := .off, timer := some u.flash.half } }
    have consistent := settle_consistent { u with flash := { u.flash with phase := .off, timer := some u.flash.half } }
    generalize State.settle { u with flash := { u.flash with phase := .off, timer := some u.flash.half } } = t at flashed keeps consistent ⊢
    refine ⟨t, rfl, by rw [flashed, flash], fun ch => ?_, ?_, keeps.op.trans (by rw [rest]), keeps.inputs.trans (by rw [rest]),
      keeps.supply.trans (by rw [rest]), keeps.link.trans (by rw [rest]), keeps.meas.trans (by rw [rest]),
      keeps.scenes.trans (by rw [rest]), consistent⟩
    · have kept := keeps.lamps ch
      change LampKept (u.lamp ch) (t.lamp ch) at kept
      rw [lamps ch, if_pos (mem_allLamps ch)] at kept
      exact kept
    · rw [keeps.report, rest, allLamps_eq]
      rfl
  · intro w out
    have wants : s.wanted = w := wanted_eq s
    rw [exec_runs running (exec_offPhaseEnd s), if_pos off, State.endOffPhase, wants]
    have content (fl : Flash) (side : fl.hostSide = s.flash.hostSide) (hazard : fl.hostHazard = s.flash.hostHazard)
        (haz : fl.hazIn = s.flash.hazIn) : State.wanted { s with flash := fl } = w := by
      rw [← wants]
      simp [State.wanted, Flash.hazard, side, hazard, haz]
    clear_value w
    by_cases none : w = .none
    · rw [if_pos none]
      obtain ⟨flash, lamps⟩ := setFlash_settled (s := s) (fl := s.flash.idle) (.inr ((content s.flash.idle rfl rfl rfl).trans none))
      have keeps := setFlash_keepsAll (settle_keeps (s.setFlash s.flash.idle))
      have consistent := settle_consistent (s.setFlash s.flash.idle)
      have serves (ch : LampId) := serving_congr keeps.op keeps.lamps ch
      generalize (s.setFlash s.flash.idle).settle = t at flash lamps keeps consistent serves ⊢
      refine ⟨t, rfl, fun _ => flash, fun some => absurd none some, fun ch => ?_, keeps, consistent⟩
      have driven : t.flashDriven ch = s.flashDrivenBy s.flash.idle ch := by
        rw [State.flashDriven, flash, State.flashDrivenBy, serves]
        rfl
      rw [(lamps ch).2, driven]
    · rw [if_neg none]
      obtain ⟨cleared, rest⟩ := clearPhaseSample_fold s
      unfold State.onStart
      dsimp only
      generalize allLamps.foldl State.clearPhaseSample s = v at cleared rest ⊢
      generalize new : ({ s.flash with phase := .on, active := w, fast := s.fastFor w
                                       half := if s.fastFor w then halfFast s.flash.rate else halfNormal s.flash.rate
                                       timer := some (if s.fastFor w then halfFast s.flash.rate else halfNormal s.flash.rate) } : Flash) = fl
      have alike : FlashAlike s v := by
        refine ⟨fun k => serving_of_map (by rw [rest]) (fun d => ?_) k, by rw [rest]⟩
        rw [cleared]
        exact ⟨rfl, rfl⟩
      obtain ⟨flash, lamps⟩ := setFlash_settled (s := v) (fl := fl) (.inl (by rw [← new]; simp))
      have keeps := setFlash_keepsAll (settle_keeps (v.setFlash fl))
      have consistent := settle_consistent (v.setFlash fl)
      generalize (v.setFlash fl).settle = t at flash lamps keeps consistent ⊢
      have kept (ch : LampId) : LampKept (s.lamp ch) (t.lamp ch) := by
        refine LampKept.trans ?_ (keeps.lamps ch)
        rw [show State.lamp { v with flash := t.flash } ch = v.lamp ch from rfl, cleared]
        constructor <;> simp
      have op : t.op = s.op := keeps.op.trans (by rw [rest])
      have driven (ch : LampId) : t.flashDriven ch = v.flashDrivenBy fl ch := by
        rw [State.flashDriven, flash, State.flashDrivenBy, serving_congr op kept, State.flashDrivenBy, alike.serving]
      refine ⟨t, rfl, fun idle => absurd idle none, fun _ => ⟨?_, ?_, ?_, fun ch => ?_⟩, fun ch => ?_, ?_, consistent⟩
      · rw [flash, ← new]
      · rw [flash, ← new]
        exact fastFor_iff
      · rw [flash, ← new]
        rfl
      · rw [(lamps ch).1, cleared]
      · rw [(lamps ch).2, driven, alike.driven, cleared]
      · rw [rest] at keeps
        exact { keeps with lamps := kept }

end Sys2Proof.Machine
end

section
/-! PROOF. Samples of the supply, the declaration of HOLD and its end (O55). -/

namespace Sys2Proof.Machine

theorem exec_supplySample (bat chg : Nat) (s : State) : exec (.supplySample bat chg) s = s.live (fun s => s.supplySampled bat chg) := rfl

theorem exec_holdEnd (bat chg : Nat) (s : State) :
    exec (.holdEnd bat chg) s = s.live (fun s => if s.holdEnds bat then s.supplySampled bat chg else s) := rfl

/-! ### The declaration (R20, R101, R118, R121, R136) -/

/-- The declaration of HOLD writes the lamp channels, the fan, the gauges, the supply record and the report alone. -/
theorem holdDeclared_rest (s : State) (millivolts : Nat) :
    let t := s.holdDeclared millivolts
    t = { s with bank := { s.bank with lamps := t.bank.lamps }, fan := s.fan.onHold, gauges := t.gauges,
                 supply := { s.supply with hold := true, releaseCount := 0 }, report := t.report } ∧
      t.report = if (s.gauge 0).state = .test ∨ (s.gauge 1).state = .test then ((s.raise .holdOn 0 millivolts).raise .testEnd 0 1).report
        else (s.raise .holdOn 0 millivolts).report := by
  have spoken := raise_eq (s := { s with supply := { s.supply with hold := true, releaseCount := 0 } }) (u := s) rfl .holdOn 0 millivolts
  unfold State.holdDeclared
  dsimp only at spoken ⊢
  rw [spoken]
  generalize first : { s with supply := { s.supply with hold := true, releaseCount := 0 }, report := (s.raise .holdOn 0 millivolts).report } = u
  obtain ⟨-, lampsRest⟩ := lamps_fold LampRec.onHold allLamps (by decide) u
  dsimp only at lampsRest
  generalize allLamps.foldl (fun (s : State) ch => s.setLamp ch (s.lamp ch).onHold) u = v at lampsRest ⊢
  unfold State.gaugesOnHold
  dsimp only
  obtain ⟨-, gaugesRest⟩ := gauges_fold Gauge.onHold { v with fan := v.fan.onHold }
  dsimp only at gaugesRest
  generalize allGauges.foldl (fun (s : State) g => s.setGauge g (s.gauge g).onHold) { v with fan := v.fan.onHold } = w at gaugesRest ⊢
  have gauges : v.gauges = s.gauges := by rw [lampsRest, ← first]
  have testing : State.testRunning { v with fan := v.fan.onHold } = true ↔ (s.gauge 0).state = .test ∨ (s.gauge 1).state = .test := by
    simp [State.testRunning, State.gauge, gauges]
  have report : w.report = (s.raise .holdOn 0 millivolts).report := by rw [gaugesRest, lampsRest, ← first]
  have rest : w = { s with bank := { s.bank with lamps := w.bank.lamps }, fan := s.fan.onHold, gauges := w.gauges,
                           supply := { s.supply with hold := true, releaseCount := 0 }, report := w.report } := by
    rw [gaugesRest, lampsRest, ← first]
  simp only [testing]
  split
  · have aborted : w.abortTest = { w with gauges := { w.gauges with testStep := 0 }
                                          report := ((s.raise .holdOn 0 millivolts).raise .testEnd 0 1).report } :=
      raise_eq (s := { w with gauges := { w.gauges with testStep := 0 } }) report ..
    rw [aborted]
    refine ⟨?_, rfl⟩
    rw [rest]
  · exact ⟨rest, report⟩

/-- The records of the lamp channels and the gauges as HOLD is declared keep what HOLD keeps. -/
theorem onHold_kept (c : LampRec) : LampKept c c.onHold := by
  unfold LampRec.onHold
  cases state : c.state <;> dsimp only
  case off => split <;> constructor <;> simp [state]
  all_goals constructor <;> simp [state, LampRec.turnOff]

theorem onHold_gauge (x : Gauge) :
    x.onHold = { x with state := if x.state = .test then .run else x.state, d := 0, shortCount := 0 } := by
  unfold Gauge.onHold
  cases x.state <;> simp

/-- A channel that stays off although it is wanted says HOLD. -/
def LampRec.saysHold (c : LampRec) : Prop := c.state = .off → c.demand ≠ 0 → c.offReason = .hold

theorem onHold_saysHold (c : LampRec) : c.onHold.saysHold := by
  unfold LampRec.onHold LampRec.saysHold
  cases state : c.state <;> dsimp only
  case off =>
    split
    · rename_i dark
      exact fun _ some => absurd dark some
    · exact fun _ _ => rfl
  all_goals simp [state, LampRec.turnOff]

theorem handed_saysHold {c : LampRec} (h : c.saysHold) (w : Nat × Reason) (signalling : Bool) : (c.handed w true signalling).saysHold := by
  unfold LampRec.handed
  split
  · unfold LampRec.saysHold LampRec.takeDemand
    by_cases dark : w.1 = 0 <;> cases c.state <;> simp [dark, LampRec.turnOff, LampRec.turnOn]
  · exact h

/-- A channel is in OFF without HOLD only where nothing is wanted of it. -/
theorem handed_offDark (c : LampRec) (w : Nat × Reason) (signalling : Bool) :
    (c.handed w false signalling).state = .off → (c.handed w false signalling).demand = 0 := by
  unfold LampRec.handed
  split
  · unfold LampRec.takeDemand
    by_cases dark : w.1 = 0 <;> cases c.state <;> cases signalling <;>
      simp [dark, LampRec.turnOff, LampRec.turnOn, LampRec.enterInrush]
  · rename_i undue
    intro off
    simp only [Bool.or_eq_true, bne_iff_ne, Bool.and_eq_true, beq_iff_eq, not_or, not_and, off, not_not, ne_eq] at undue
    rw [← undue.1.1.2]
    exact undue.2 trivial

/-- Each channel of a settled part is as it was handed, or granted. -/
theorem settle_handed (s : State) (ch : LampId) : ∃ w g, s.settle.lamp ch = (s.flashPoke.lamp ch).handed w s.supply.hold g ∨
    (s.settle.lamp ch).state = .inrush := by
  have lamp := (ready_lamp s ch).trans (handedOn_lamp_eq s ch)
  refine ⟨s.handedOn.wantOf ch, s.signalling ch, ?_⟩
  rw [settle_eq]
  rcases (arbitrate_grantPass s.ready).lamps ch with same | ⟨_, granted⟩
  · exact .inl (same.trans lamp)
  · rw [granted]
    exact .inr rfl

theorem settle_saysHold {s : State} (hold : s.supply.hold = true) {ch : LampId} (h : (s.lamp ch).saysHold) : (s.settle.lamp ch).saysHold := by
  have quiet := flashPoke_quietLamps s ch
  have poked : (s.flashPoke.lamp ch).saysHold := by
    unfold LampRec.saysHold at h ⊢
    rw [quiet.state, quiet.demand, quiet.offReason]
    exact h
  obtain ⟨w, g, same | granted⟩ := settle_handed s ch
  · rw [same, hold]
    exact handed_saysHold poked w g
  · intro off
    rw [granted] at off
    cases off

theorem settle_offDark {s : State} (free : s.supply.hold = false) {ch : LampId} (off : (s.settle.lamp ch).state = .off) :
    (s.settle.lamp ch).demand = 0 := by
  obtain ⟨w, g, same | granted⟩ := settle_handed s ch
  · rw [same, free] at off ⊢
    exact handed_offDark _ w g off
  · rw [granted] at off
    cases off

/-! ### Samples (R126, R136, R137) -/

/-- The supply record after a sample is stored. -/
theorem storeSupply_eq (s : State) (bat chg : Nat) : s.storeSupply bat chg = { s with supply := (s.storeSupply bat chg).supply } := rfl

/-- Settles O55: a sample is stored, and HOLD is declared, counted or ended. -/
theorem supplySamplesDeclareAndEndHold : Obligations.SupplySamplesDeclareAndEndHold := by
  intro s bat chg running
  refine ⟨fun asleep => ?_, fun awake => ?_⟩
  · rw [exec_runs running (exec_supplySample bat chg s), State.supplySampled, if_pos asleep]
  intro x
  have stored : s.storeSupply bat chg = { s with supply := x } := rfl
  have hold : x.hold = s.supply.hold := rfl
  have count : x.releaseCount = s.supply.releaseCount := rfl
  have settings : x.settings = s.supply.settings := rfl
  have acts : exec (.supplySample bat chg) s = .next (State.checkHold { s with supply := x } bat) := by
    rw [exec_runs running (exec_supplySample bat chg s), State.supplySampled, if_neg awake, stored]
  have checked : State.checkHold { s with supply := x } bat =
      if s.supply.hold then
        if bat < s.supply.settings.vrelease then
          if 49 ≤ s.supply.releaseCount then State.endHold { s with supply := x } bat
          else { s with supply := { x with releaseCount := s.supply.releaseCount + 1 } }
        else { s with supply := { x with releaseCount := 0 } }
      else if s.supply.settings.vover ≤ bat then State.declareHold { s with supply := x } bat
      else { s with supply := x } := rfl
  rw [checked] at acts
  clear_value x
  refine ⟨fun free low => ?_, fun free high => ?_, fun held high => ?_, fun held low few => ?_, fun held low last => ?_⟩
  · rw [acts, if_neg (by simp [free]), if_neg (by omega)]
  · rw [acts, if_neg (by simp [free]), if_pos high]
    have declared : State.declareHold { s with supply := x } bat = (State.holdDeclared { s with supply := x } bat).settle := rfl
    obtain ⟨rest, spoken⟩ := holdDeclared_rest { s with supply := x } bat
    have writes := holdDeclared_writes { s with supply := x } bat
    have goes := holdDeclared_holdGoes { s with supply := x } bat
    rw [declared]
    dsimp only at rest spoken
    generalize State.holdDeclared { s with supply := x } bat = u at rest spoken writes goes ⊢
    have keeps := settle_keeps u
    have consistent := settle_consistent u
    have held : u.supply.hold = true := by rw [writes.supply]
    have speaks (ch : LampId) : (u.settle.lamp ch).saysHold :=
      settle_saysHold held (by rw [writes.lamps ch]; exact onHold_saysHold _)
    have ok : HoldOk u.settle := by
      rw [settle_eq]
      exact arbitrate_holdOk (ready_holdGoes goes)
    generalize u.settle = t at keeps consistent speaks ok ⊢
    refine ⟨t, rfl, keeps.supply.trans writes.supply, ok, speaks, keeps.report.trans ?_, fun g => ?_, ?_, consistent⟩
    · have first := raise_report_congr (s := { s with supply := x }) (t := s) rfl .holdOn 0 bat
      rw [spoken, first, raise_report_congr first]
      rfl
    · have kept := keeps.gauges g
      rw [writes.gauges g, onHold_gauge] at kept
      exact kept
    · have lamps (ch : LampId) : LampKept (s.lamp ch) (t.lamp ch) := by
        have kept := keeps.lamps ch
        rw [writes.lamps ch] at kept
        exact (onHold_kept _).trans kept
      have fan : s.fan.onHold.settings = s.fan.settings ∧ s.fan.onHold.retriesUsed = s.fan.retriesUsed := by
        unfold Fan.onHold
        split <;> exact ⟨rfl, rfl⟩
      rw [rest] at keeps
      exact { op := keeps.op, inputs := keeps.inputs, supply := rfl, link := keeps.link, report := rfl, freeCount := keeps.freeCount,
              pending := keeps.pending, meas := keeps.meas, subs := keeps.subs, intervalOpen := keeps.intervalOpen,
              averagesReady := keeps.averagesReady, scenes := keeps.scenes, courtesy := keeps.courtesy, fns := keeps.fns, lamps := lamps,
              hostSide := keeps.hostSide, hostHazard := keeps.hostHazard, hazIn := keeps.hazIn, rate := keeps.rate,
              fanSettings := keeps.fanSettings.trans fan.1, fanRetries := keeps.fanRetries.trans fan.2, testStep := rfl,
              gauges := fun _ => .refl _ }
  · rw [acts, if_pos held, if_neg (by omega)]
  · rw [acts, if_pos held, if_pos low, if_neg (by omega)]
  · have ended : s.holdEnds bat = true := by simp [State.holdEnds, awake, held, low, last]
    have same : exec (.holdEnd bat chg) s = exec (.supplySample bat chg) s := by
      rw [exec_runs running (exec_holdEnd bat chg s), exec_runs running (exec_supplySample bat chg s), if_pos ended]
    rw [same, acts, if_pos held, if_pos low, if_pos last]
    have spoken : State.raise { s with supply := { x with hold := false, releaseCount := 0 } } .holdOff 0 bat =
        { s with supply := { x with hold := false, releaseCount := 0 }, report := (s.raise .holdOff 0 bat).report } := raise_eq (by rfl) ..
    have value : State.endHold { s with supply := x } bat =
        State.settle { s with supply := { x with hold := false, releaseCount := 0 }, report := (s.raise .holdOff 0 bat).report } := by
      rw [← spoken]
      rfl
    rw [value]
    generalize freed : ({ s with supply := { x with hold := false, releaseCount := 0 }, report := (s.raise .holdOff 0 bat).report } : State) = u
    have keeps := settle_keeps u
    have consistent := settle_consistent u
    have dark (ch : LampId) (off : (u.settle.lamp ch).state = .off) := settle_offDark (s := u) (by rw [← freed]) off
    generalize u.settle = t at keeps consistent dark ⊢
    rw [← freed] at keeps
    exact ⟨t, rfl, rfl, keeps.supply, keeps.report, dark, { keeps with supply := rfl, report := rfl }, consistent⟩

end Sys2Proof.Machine
end

section
/-! PROOF. The evaluations of the supply monitor (O56). -/

namespace Sys2Proof.Machine

theorem exec_supplyEvaluation (s : State) : exec .supplyEvaluation s = s.live State.supplyMark := rfl

theorem exec_chargeChange (s : State) : exec .chargeChange s = s.live (fun s => if s.chargeChanges then s.supplyMark else s) := rfl

theorem exec_voltageLevelChange (s : State) :
    exec .voltageLevelChange s = s.live (fun s => if s.voltageChanges then s.supplyMark else s) := rfl

/-! ### The account level (R132) -/

theorem threshold_eq (x : SupplySettings) (n : Nat) :
    x.threshold n = 36000 * (if n = 1 then x.t1 else if n = 2 then x.t2 else x.t3) := by
  unfold SupplySettings.threshold
  rw [Nat.mul_comm]
  congr 1
  split
  · rfl
  · rfl
  · rename_i no1 no2
    rw [if_neg no1, if_neg no2]

theorem laRises_iff {x : SupplySettings} {account la : Nat} : laRises x account la = true ↔ la < 3 ∧ x.threshold (la + 1) ≤ account := by
  simp [laRises]

theorem laFalls_iff {x : SupplySettings} {account la : Nat} :
    laFalls x account la = true ↔ 0 < la ∧ (account + 36000 * x.h < x.threshold la ∨ account = 0) := by
  rw [Nat.mul_comm 36000]
  simp only [laFalls, Bool.and_eq_true, Bool.or_eq_true, decide_eq_true_eq, beq_iff_eq]
  exact Iff.rfl

/-- A repeated rise stops at 3 or below the next threshold, and passes none that the account has not reached. -/
theorem laRise_spec (x : SupplySettings) (account n la : Nat) (enough : 3 ≤ n + la) (low : la ≤ 3) :
    la ≤ laRise x account n la ∧ laRise x account n la ≤ 3 ∧
      (∀ k, la < k → k ≤ laRise x account n la → x.threshold k ≤ account) ∧
      (laRise x account n la < 3 → account < x.threshold (laRise x account n la + 1)) := by
  induction n generalizing la with
  | zero =>
    rw [laRise]
    exact ⟨le_rfl, low, fun k above below => absurd above (by omega), fun short => absurd short (by omega)⟩
  | succ n ih =>
    rw [laRise]
    by_cases rises : laRises x account la = true
    · rw [if_pos rises]
      obtain ⟨short, reached⟩ := laRises_iff.mp rises
      obtain ⟨above, most, passed, stops⟩ := ih (la + 1) (by omega) (by omega)
      refine ⟨by omega, most, fun k up to_ => ?_, stops⟩
      by_cases first : k = la + 1
      · rw [first]
        exact reached
      · exact passed k (by omega) to_
    · rw [if_neg rises]
      refine ⟨le_rfl, low, fun k above below => absurd above (by omega), fun short => ?_⟩
      rw [laRises_iff, not_and] at rises
      exact not_le.mp (rises short)

/-- A repeated fall stops at 0 or where the account lies above the hysteresis, and passes no other level. -/
theorem laFall_spec (x : SupplySettings) (account n la : Nat) (enough : la ≤ n) :
    laFall x account n la ≤ la ∧
      (∀ k, laFall x account n la < k → k ≤ la → account + 36000 * x.h < x.threshold k ∨ account = 0) ∧
      (0 < laFall x account n la → x.threshold (laFall x account n la) ≤ account + 36000 * x.h ∧ account ≠ 0) := by
  induction n generalizing la with
  | zero =>
    rw [laFall]
    exact ⟨le_rfl, fun k above below => absurd above (by omega), fun some => absurd some (by omega)⟩
  | succ n ih =>
    rw [laFall]
    by_cases falls : laFalls x account la = true
    · rw [if_pos falls]
      obtain ⟨some, below⟩ := laFalls_iff.mp falls
      obtain ⟨least, passed, stops⟩ := ih (la - 1) (by omega)
      refine ⟨by omega, fun k down to_ => ?_, stops⟩
      by_cases first : k = la
      · rw [first]
        exact below
      · exact passed k down (by omega)
    · rw [if_neg falls]
      refine ⟨le_rfl, fun k above below => absurd above (by omega), fun some => ?_⟩
      rw [laFalls_iff, not_and, not_or, not_lt] at falls
      exact falls some

/-! ### The record after an evaluation (R127) -/

/-- Lv by the first rule of the dwell counts that applies (R133). -/
def Supply.nextLv (x : Supply) (below1 below2 recovery : Nat) : Nat :=
  if below2 = 20 ∧ x.lv < 2 then 2 else if below1 = 20 ∧ x.lv = 0 then 1 else if recovery = 50 then x.lv - 1 else x.lv

/-- The recovery count of an evaluation (R133). -/
def Supply.recoveryAfter (x : Supply) (vs : Nat) : Nat :=
  if (x.lv = 1 ∧ x.settings.vlow1 + 300 ≤ vs) ∨ (x.lv = 2 ∧ x.settings.vlow2 + 300 ≤ vs) then min 50 (x.recovery + 1) else 0

theorem recoveryAfter_eq (x : Supply) (vs : Nat) :
    (voltageCounts x vs).recovery = x.recoveryAfter vs := by
  unfold voltageCounts Supply.recoveryAfter dwell SupplySettings.recoveryLevel
  dsimp only
  by_cases one : x.lv = 1
  · simp [one]
  · by_cases two : x.lv = 2
    · simp [two]
    · simp [one, two]

/-- The rules of the voltage level on counts brought up to date. -/
theorem voltageLevel_eq (x : Supply) (vs : Nat) :
    let c := voltageCounts x vs
    voltageLevel c = { c with
      lv := x.nextLv c.below1 c.below2 (x.recoveryAfter vs)
      recovery := if x.nextLv c.below1 c.below2 (x.recoveryAfter vs) = x.lv then x.recoveryAfter vs else 0 } := by
  intro c
  have lv : c.lv = x.lv := rfl
  have recovery : c.recovery = x.recoveryAfter vs := recoveryAfter_eq x vs
  have only (full : x.recoveryAfter vs = 50) : x.lv = 1 ∨ x.lv = 2 := by
    by_contra none
    rw [Supply.recoveryAfter, if_neg (by tauto)] at full
    omega
  unfold voltageLevel Supply.nextLv
  rw [lv, recovery]
  by_cases low2 : c.below2 = 20 ∧ x.lv < 2
  · rw [if_pos low2, if_pos low2, if_neg (by omega)]
  · rw [if_neg low2, if_neg low2]
    by_cases low1 : c.below1 = 20 ∧ x.lv = 0
    · rw [if_pos low1, if_pos low1, if_neg (by omega)]
    · rw [if_neg low1, if_neg low1]
      by_cases full : x.recoveryAfter vs = 50
      · have := only full
        rw [if_pos ⟨this, full⟩, if_pos full, if_neg (by omega)]
      · rw [if_neg fun h => full h.2, if_neg full, if_pos rfl, ← recovery, ← lv]

/-- The supply record after an evaluation, field by field (R127). -/
theorem evaluated_eq (x : Supply) (total : Nat) :
    let vs := meanOfTen (x.samples.map (·.1))
    let chg := meanOfTen (x.samples.map (·.2))
    let account := accountAfter x.account x.settings.cap (accountDelta (netCurrent total x.settings.dynamo (chargeAfter x chg).1))
    let below1 := dwell 20 x.below1 (vs < x.settings.vlow1)
    let below2 := dwell 20 x.below2 (vs < x.settings.vlow2)
    let lv := if x.hold then x.lv else x.nextLv below1 below2 (x.recoveryAfter vs)
    x.evaluated total =
      { x with
        vs := vs
        chg := chg
        charging := (chargeAfter x chg).1
        chargeCount := (chargeAfter x chg).2
        iTotal := total
        account := account
        la := laAfter x.settings account x.la
        samples := []
        below1 := if x.hold then x.below1 else below1
        below2 := if x.hold then x.below2 else below2
        lv := lv
        recovery := if x.hold then x.recovery else if lv = x.lv then x.recoveryAfter vs else 0
        l := max (laAfter x.settings account x.la) lv } := by
  intro vs chg account below1 below2 lv
  unfold Supply.evaluated
  dsimp only
  by_cases hold : x.hold = true
  · simp only [hold, if_true, lv]
    rfl
  · have free : x.hold = false := by simpa using hold
    simp only [free, lv]
    rw [if_neg (by simp), voltageLevel_eq]
    rfl

/-! ### The pieces of the record, as the rules give them -/

theorem chargeAfter_spec (x : Supply) (chg : Nat) :
    let above := decide (x.settings.chargeThreshold ≤ chg)
    if above = x.charging then chargeAfter x chg = (x.charging, 0)
    else if x.chargeCount < 9 then chargeAfter x chg = (x.charging, x.chargeCount + 1)
    else chargeAfter x chg = (above, 0) ∧ above ≠ x.charging := by
  intro above
  unfold chargeAfter
  split
  · rfl
  · rename_i other
    split
    · rw [if_neg (by omega)]
    · rw [if_pos (by omega)]
      refine ⟨?_, other⟩
      have flips : (!x.charging) = above := by
        cases e : x.charging <;> cases f : above <;> simp_all
      rw [flips]

theorem accountAfter_spec (account t3 total dynamo : Nat) (x : SupplySettings) (cap : x.t3 = t3) (charging : Bool) :
    let net : Int := if charging then (total : Int) - dynamo else total
    (0 ≤ net → accountAfter account x.cap (accountDelta (netCurrent total dynamo charging)) =
      min (36000 * t3 + 1800000) (account + (net.toNat + 5) / 10)) ∧
    (net < 0 → accountAfter account x.cap (accountDelta (netCurrent total dynamo charging)) =
      min (36000 * t3 + 1800000) (account - net.natAbs * 7 / 80)) := by
  intro net
  have limit : x.cap = 36000 * t3 + 1800000 := by rw [SupplySettings.cap, cap, Nat.mul_comm, chargeUnit]
  have value : netCurrent total dynamo charging = net := rfl
  rw [value, limit]
  unfold accountAfter accountDelta
  refine ⟨fun up => ?_, fun down => ?_⟩
  · rw [if_pos up]
    congr 1
  · rw [if_neg (by omega)]
    congr 1
    omega

/-- What an evaluation makes of the part beside the supply record: CHARGE, SHED and the settling of a changed L (R128, R135). -/
theorem evaluate_spec (s : State) :
    let y := s.supply.evaluated s.averageSum
    let told : State := if y.charging = s.supply.charging then s else s.raise .charge 0 (if y.charging then 1 else 0)
    s.evaluate.supply = y ∧ s.evaluate.bank.averagesReady = false ∧
      s.evaluate.report = (if y.l = s.supply.l then told else told.raise .shed 0 y.l).report ∧
      SettleKeeps { s with supply := y, report := s.evaluate.report, bank := { s.bank with averagesReady := false } } s.evaluate ∧
      (y.l = s.supply.l →
        s.evaluate = { s with supply := y, report := s.evaluate.report, bank := { s.bank with averagesReady := false } }) ∧
      (y.l ≠ s.supply.l → Consistent s.evaluate) := by
  intro y told
  have spoken : (if y.charging = s.supply.charging then { s with supply := y, bank := { s.bank with averagesReady := false } }
      else State.raise { s with supply := y, bank := { s.bank with averagesReady := false } } .charge 0 (if y.charging then 1 else 0)) =
      { s with supply := y, bank := { s.bank with averagesReady := false }, report := told.report } := by
    by_cases same : y.charging = s.supply.charging
    · have silent : told = s := if_pos same
      rw [if_pos same, silent]
    · have told_ : told = s.raise .charge 0 (if y.charging then 1 else 0) := if_neg same
      rw [if_neg same, told_]
      exact raise_eq (by rfl) ..
  have value : s.evaluate = if y.l = s.supply.l then { s with supply := y, bank := { s.bank with averagesReady := false }, report := told.report }
      else State.settle { s with supply := y, bank := { s.bank with averagesReady := false }, report := (told.raise .shed 0 y.l).report } := by
    have shed : State.raise { s with supply := y, bank := { s.bank with averagesReady := false }, report := told.report } .shed 0 y.l =
        { s with supply := y, bank := { s.bank with averagesReady := false }, report := (told.raise .shed 0 y.l).report } := raise_eq (by rfl) ..
    rw [← shed, ← spoken]
    rfl
  clear_value y told
  by_cases same : y.l = s.supply.l
  · rw [value, if_pos same, if_pos same]
    exact ⟨rfl, rfl, rfl, .refl _, fun _ => rfl, fun other => absurd same other⟩
  · rw [value, if_neg same, if_neg same]
    generalize base : ({ s with supply := y, bank := { s.bank with averagesReady := false }, report := (told.raise .shed 0 y.l).report } : State) = u
    have keeps := settle_keeps u
    have consistent := settle_consistent u
    generalize u.settle = t at keeps consistent ⊢
    rw [← base] at keeps
    exact ⟨keeps.supply, keeps.averagesReady, keeps.report, { keeps with report := rfl }, fun eq => absurd eq same, fun _ => consistent⟩

/-- Settles O56: the record of an evaluation field by field, its events, and the settling of a changed L. -/
theorem evaluationsMoveTheLevels : Obligations.EvaluationsMoveTheLevels := by
  refine ⟨fun s running awake short => ?_, fun s running awake ready full la => ?_⟩
  · have undue : s.evaluationDue = false := by
      rcases short with few | unready
      · simp only [State.evaluationDue, Bool.and_eq_false_iff, beq_eq_false_iff_ne]
        exact .inr (by omega)
      · simp [State.evaluationDue, unready]
    refine ⟨?_, ?_, ?_⟩
    · rw [exec_runs running (exec_supplyEvaluation s), State.supplyMark, if_neg awake, if_neg (by simp [undue])]
    · rw [exec_runs running (exec_chargeChange s), if_neg (by simp [State.chargeChanges, undue])]
    · rw [exec_runs running (exec_voltageLevelChange s), if_neg (by simp [State.voltageChanges, undue])]
  · intro x st vs chg total above threshold below1 below2 recovery
    have due : s.evaluationDue = true := by simp [State.evaluationDue, ready, full]
    have marked : s.supplyMark = s.evaluate := by rw [State.supplyMark, if_neg awake, if_pos due]
    have fields := evaluated_eq x total
    have charges : s.chargeChanges = true ↔ (x.evaluated total).charging ≠ x.charging := by
      simp only [State.chargeChanges, due, Bool.and_true, Bool.and_eq_true, bne_iff_ne, ne_eq]
      exact ⟨And.right, fun h => ⟨awake, h⟩⟩
    have changes : s.voltageChanges = true ↔ (x.evaluated total).lv ≠ x.lv := by
      simp only [State.voltageChanges, due, Bool.and_true, Bool.and_eq_true, bne_iff_ne, ne_eq]
      exact ⟨And.right, fun h => ⟨awake, h⟩⟩
    have charge : (x.evaluated total).charging ≠ x.charging → exec .chargeChange s = .next s.evaluate := fun other => by
      rw [exec_runs running (exec_chargeChange s), if_pos (charges.mpr other), marked]
    have voltage : (x.evaluated total).lv ≠ x.lv → exec .voltageLevelChange s = .next s.evaluate := fun other => by
      rw [exec_runs running (exec_voltageLevelChange s), if_pos (changes.mpr other), marked]
    obtain ⟨supply, unready, report, keeps, still, consistent⟩ := evaluate_spec s
    change s.evaluate.supply = x.evaluated total at supply
    change s.evaluate.report = _ at report
    have levels (n : Nat) : st.threshold n = threshold n := threshold_eq st n
    have charging := chargeAfter_spec x chg
    rw [exec_runs running (exec_supplyEvaluation s), marked]
    generalize s.evaluate = t at supply unready report keeps still consistent charge voltage ⊢
    refine ⟨t, rfl, ?_⟩
    intro y told
    have value : y = x.evaluated total := supply
    have same : s.supply.evaluated s.averageSum = y := value.symm
    rw [← value] at charge voltage
    rw [same] at report keeps still consistent
    have dwells (limit count : Nat) (p : Prop) [Decidable p] : dwell limit count p = if p then min limit (count + 1) else 0 := by simp [dwell]
    rw [fields] at value
    rw [dwells, dwells] at value
    clear_value y
    have charged : (y.charging, y.chargeCount) = chargeAfter x chg := by rw [value]; rfl
    have charges : y.charging = (chargeAfter x chg).1 := congrArg Prod.fst charged
    have account : y.account = accountAfter x.account st.cap (accountDelta (netCurrent total st.dynamo y.charging)) := by
      rw [charges, value]
      rfl
    have level : y.la = laAfter st y.account x.la := by rw [value]
    have free (hold : x.hold = false) : y.below1 = below1 ∧ y.below2 = below2 ∧ y.lv = x.nextLv below1 below2 recovery ∧
        y.recovery = if y.lv = x.lv then recovery else 0 := by
      rw [value]
      simp only [hold, Bool.false_eq_true, if_false]
      exact ⟨rfl, rfl, rfl, rfl⟩
    have held (hold : x.hold = true) : y.below1 = x.below1 ∧ y.below2 = x.below2 ∧ y.lv = x.lv ∧ y.recovery = x.recovery := by
      rw [value]
      simp only [hold, if_true]
      exact ⟨trivial, trivial, trivial, trivial⟩
    have highest : y.l = max y.la y.lv := by rw [value]
    have others : y.vs = vs ∧ y.chg = chg ∧ y.iTotal = total ∧ y.samples = [] ∧ y.settings = st ∧ y.latest = x.latest ∧ y.hold = x.hold ∧
        y.releaseCount = x.releaseCount := by
      rw [value]
      exact ⟨rfl, rfl, rfl, rfl, rfl, rfl, rfl, rfl⟩
    clear value fields
    obtain ⟨hvs, hchg, htotal, hsamples, hsettings, hlatest, hhold, hrelease⟩ := others
    refine ⟨hvs, hchg, htotal, hsamples, unready, ?_, ?_, ?_, fun hold => ?_, held, highest, hsettings, hlatest, hhold, hrelease, report,
      keeps, still, consistent⟩
    · by_cases agrees : above = x.charging
      · rw [if_pos agrees] at charging ⊢
        rw [charging] at charged
        exact ⟨congrArg Prod.fst charged, congrArg Prod.snd charged⟩
      · rw [if_neg agrees] at charging ⊢
        by_cases few : x.chargeCount < 9
        · rw [if_pos few] at charging ⊢
          rw [charging] at charged
          exact ⟨congrArg Prod.fst charged, congrArg Prod.snd charged⟩
        · rw [if_neg few] at charging ⊢
          rw [charging.1] at charged
          have flips : y.charging = above := congrArg Prod.fst charged
          exact ⟨flips, congrArg Prod.snd charged, charge (by rw [flips]; exact charging.2)⟩
    · rw [account]
      exact accountAfter_spec x.account st.t3 total st.dynamo st rfl y.charging
    · simp only [← levels]
      rw [level, laAfter]
      by_cases rises : laRises st y.account x.la = true
      · obtain ⟨short, reached⟩ := laRises_iff.mp rises
        rw [if_pos rises, if_pos ⟨short, reached⟩]
        obtain ⟨above', most, passed, stops⟩ := laRise_spec st y.account 3 x.la (by omega) la
        refine ⟨lt_of_le_of_ne above' fun stays => ?_, most, passed, stops⟩
        have low := stops (by omega)
        rw [← stays] at low
        omega
      · rw [if_neg rises, if_neg fun h => rises (laRises_iff.mpr h)]
        exact laFall_spec st y.account 3 x.la la
    · obtain ⟨b1, b2, lv, rec⟩ := free hold
      exact ⟨b1, b2, lv, rec, voltage⟩

end Sys2Proof.Machine
end

section
/-! PROOF. A changed input level and what it reaches (O45, O57, O58). -/

namespace Sys2Proof.Machine

/-! ### Leaving DRIVE (R109, R121) -/

/-- What leaving DRIVE says: STATE, and behind it the end of a test that it aborts. -/
theorem enterState_leaves {s u : State} {new : OpState} (drive : s.op.state = .drive) (leaves : new ≠ .drive) (report : s.report = u.report) :
    (s.enterState new).report =
      (u.raiseEach ((.state, 0, new.code) :: if s.testRunning then [(.testEnd, 0, 1)] else [])).report := by
  have spoken := raise_eq (s := { s with op := { s.op with state := new } }) (u := u) report .state 0 new.code
  unfold State.enterState
  dsimp only at spoken ⊢
  rw [if_pos ⟨drive, leaves⟩, spoken]
  generalize left : ({ s with op := { s.op with state := new }, report := (u.raise .state 0 new.code).report, fan := s.fan.leaveDrive } : State)
    = v
  have testing : v.testRunning = s.testRunning := by
    rw [← left]
    rfl
  have told : v.report = (u.raise .state 0 new.code).report := by rw [← left]
  unfold State.gaugesLeaveDrive
  dsimp only
  obtain ⟨-, rest⟩ := gauges_fold Gauge.leaveDrive v
  dsimp only at rest
  generalize allGauges.foldl (fun (s : State) g => s.setGauge g (s.gauge g).leaveDrive) v = w at rest ⊢
  have said : w.report = (u.raise .state 0 new.code).report := by rw [rest, told]
  rw [testing, State.raiseEach_cons]
  split
  · exact raise_report_congr (s := { w with gauges := { w.gauges with testStep := 0 } }) said ..
  · exact said

/-! ### What a changed level reaches (R144, R147, R154, R159, R62) -/

/-- The controller's record after a changed level. -/
def OpCtl.hears (o : OpCtl) (i : InputId) (asserted : Bool) : OpCtl :=
  match i, o.state, asserted with
  | .ign, .limp, true => { o with limpLighting := o.limpLighting || 2000 ≤ o.silenceCount, limpLatch := o.limpLatch || 2000 ≤ o.silenceCount }
  | .ign, .limp, false => { o with limpLighting := false }
  | .ign, .drive, false => { o with state := .park }
  | .ign, .park, true => { o with state := .drive }
  | .ign, .watch, true => { o with state := .drive, sleepRequested := false, silenceTimer := 0 }
  | .haz, .watch, true => { o with state := .park, sleepRequested := false, silenceTimer := 0 }
  | .door, .watch, true => { o with state := .park, sleepRequested := false, silenceTimer := 0 }
  | _, _, _ => o

/-- The courtesy record after a changed level of DOOR. -/
def State.courtesyHears (s : State) (asserted : Bool) : Courtesy :=
  let c := s.resolver.courtesy
  if s.op.state = .limp ∨ c.enable = false then c
  else if asserted then { c with phase := .opened, level := 100, timer := 0 }
  else if c.phase = .opened then
    let d := { c with phase := .dwell, level := 100, timer := 1000 * c.holdS }
    if c.holdS = 0 then d.dwellEnds s.interiorLight else d
  else c

/-- The end of the test that a released IGN aborts (R121). -/
def State.endsTest (s : State) (i : InputId) (asserted : Bool) : List (EventKind × Nat × Nat) :=
  if i = .ign ∧ asserted = false ∧ s.op.state = .drive ∧ s.testRunning = true then [(.testEnd, 0, 1)] else []

/-- What a changed level reaches, beside the fan and the gauges: the input, the report, the controller, the hazard input and the courtesy
lamp. -/
structure LevelHeard (s t : State) (i : InputId) (asserted : Bool) : Prop where
  rest : t = { s with
    inputs := (s.setInRec i { s.inRec i with level := asserted, count := 0 }).inputs
    report := t.report, op := t.op, flash := t.flash, resolver := t.resolver, fan := t.fan, gauges := t.gauges }
  op : t.op = s.op.hears i asserted
  report : t.report = (s.raiseEach (changeEvents s.op.state [(i, asserted)] ++ s.endsTest i asserted)).report
  flash : t.flash = { s.flash with hazIn := if i = .haz then asserted else s.flash.hazIn }
  resolver : t.resolver = { s.resolver with courtesy := if i = .door then s.courtesyHears asserted else s.resolver.courtesy }

theorem storeLevel_stored (s : State) (i : InputId) (asserted : Bool) :
    s.storeLevel i asserted = { s with
      inputs := (s.setInRec i { s.inRec i with level := asserted, count := 0 }).inputs
      report := (s.raise .input (inputNumber i) (if asserted then 1 else 0)).report } :=
  raise_eq (s := s.setInRec i _) (u := s) rfl ..

theorem courtesyDoor_eq (s : State) (asserted : Bool) :
    s.courtesyDoor asserted = { s with resolver := { s.resolver with courtesy := s.courtesyHears asserted } } := by
  unfold State.courtesyDoor State.courtesyHears
  dsimp only
  split
  · rfl
  · split
    · rfl
    · split <;> rfl

/-- An assertion of HAZ or DOOR wakes WATCH. -/
theorem watchWake_eq {s u : State} (report : s.report = u.report) (asserted : Bool) (cause : WakeCause) :
    s.watchWake asserted cause = { s with
      op := if asserted = true ∧ s.op.state = .watch then { s.op with state := .park, sleepRequested := false, silenceTimer := 0 } else s.op
      report := (u.raiseEach (if asserted = true ∧ s.op.state = .watch then [(.woken, 0, cause.code), (.state, 0, 2)] else [])).report } := by
  unfold State.watchWake
  simp only [Bool.and_eq_true, beq_iff_eq]
  split
  · rename_i wakes
    exact wakeTo_awake cause (by simp [wakes.2]) (by simp [wakes.2]) report
  · exact congrArg (fun r => { s with report := r }) report

/-- A level that reaches the controller alone. -/
theorem LevelHeard.ofControl {s w : State} {i : InputId} {asserted : Bool}
    (rest : w = { s.storeLevel i asserted with op := w.op, report := w.report, fan := w.fan, gauges := w.gauges })
    (op : w.op = s.op.hears i asserted)
    (report : w.report = ((s.storeLevel i asserted).raiseEach ((changeEvents s.op.state [(i, asserted)]).tail ++ s.endsTest i asserted)).report)
    (outside : i ≠ .haz ∧ i ≠ .door) : LevelHeard s w i asserted := by
  have stored := storeLevel_stored s i asserted
  generalize s.storeLevel i asserted = v at rest report stored
  refine ⟨?_, op, report.trans ?_, ?_, ?_⟩
  · rw [rest, stored]
  · exact raiseEach_report_congr (u := s.raise .input (inputNumber i) (if asserted then 1 else 0)) (by rw [stored]) _
  · rw [if_neg outside.1, rest, stored]
  · rw [if_neg outside.2, rest, stored]

/-- A level of IGN reaches the controller, and through it the fan and the gauges (R147, R154, R159). -/
theorem ignHeard (s : State) (asserted : Bool) : LevelHeard s ((s.storeLevel .ign asserted).ignLevel asserted) .ign asserted := by
  have op := storeLevel_op s .ign asserted
  have tests : (s.storeLevel .ign asserted).testRunning = s.testRunning := by
    rw [storeLevel_stored]
    rfl
  have heard (w : State) := LevelHeard.ofControl (s := s) (w := w) (i := .ign) (asserted := asserted)
  generalize s.storeLevel .ign asserted = v at op tests heard
  unfold State.ignLevel
  rw [op]
  cases state : s.op.state with
  | limp =>
    cases asserted with
    | false =>
      dsimp only
      rw [if_neg (by simp)]
      refine heard _ rfl ?_ (by simp [changeEvents, state, State.endsTest, State.endLimpLighting, State.raiseEach]) (by simp)
      simp only [State.endLimpLighting, OpCtl.hears, state, op]
    | true =>
      dsimp only
      have silent : v.report = (v.raiseEach ((changeEvents s.op.state [(.ign, true)]).tail ++ s.endsTest .ign true)).report := by
        simp [changeEvents, state, State.endsTest, State.raiseEach]
      by_cases late : 2000 ≤ s.op.silenceCount
      · rw [if_pos rfl, if_pos late]
        refine heard _ rfl ?_ silent (by simp)
        simp [State.beginLimpLighting, OpCtl.hears, state, op, late]
      · rw [if_pos rfl, if_neg late]
        refine heard _ rfl ?_ silent (by simp)
        simp only [OpCtl.hears, state, op, late, decide_false, Bool.or_false]
        rw [← state]
  | drive =>
    cases asserted with
    | false =>
      dsimp only
      rw [if_neg (by simp)]
      refine heard _ (by rw [enterState_op]; exact enterState_rest v .park) ?_ ?_ (by simp)
      · rw [enterState_op, op]
        simp only [OpCtl.hears, state]
      · rw [enterState_leaves (u := v) (by rw [op, state]) (by simp) rfl, tests]
        simp [changeEvents, state, State.endsTest, OpState.code]
    | true =>
      refine heard _ rfl (op.trans ?_) ?_ (by simp)
      · simp only [OpCtl.hears, state]
      · simp [changeEvents, state, State.endsTest, State.raiseEach]
  | park =>
    cases asserted with
    | false =>
      refine heard _ rfl (op.trans ?_) ?_ (by simp)
      · simp only [OpCtl.hears, state]
      · simp [changeEvents, state, State.endsTest, State.raiseEach]
    | true =>
      dsimp only
      rw [if_pos rfl, enterState_awake (u := v) (.inl (by simp [op, state])) rfl]
      refine heard _ rfl ?_ ?_ (by simp)
      · simp only [OpCtl.hears, state, op]
      · simp [changeEvents, state, State.endsTest, State.raiseEach, OpState.code]
  | watch =>
    cases asserted with
    | false =>
      refine heard _ rfl (op.trans ?_) ?_ (by simp)
      · simp only [OpCtl.hears, state]
      · simp [changeEvents, state, State.endsTest, State.raiseEach]
    | true =>
      dsimp only
      rw [if_pos rfl, wakeTo_awake (u := v) .ign (by simp [op, state]) (by simp [op, state]) rfl]
      refine heard _ rfl ?_ ?_ (by simp)
      · simp only [OpCtl.hears, state, op]
      · simp [changeEvents, state, State.endsTest, State.raiseEach, OpState.code, WakeCause.code]
  | sleep =>
    refine heard _ rfl (op.trans ?_) ?_ (by simp)
    · simp only [OpCtl.hears, state]
    · simp [changeEvents, state, State.endsTest, State.raiseEach]

/-- A changed level reaches its readers. -/
theorem levelHeard (s : State) (i : InputId) (asserted : Bool) : LevelHeard s ((s.storeLevel i asserted).handLevel i asserted) i asserted := by
  have silent (hears : s.op.hears i asserted = s.op) (events : changeEvents s.op.state [(i, asserted)] ++ s.endsTest i asserted =
      [(.input, inputNumber i, if asserted then 1 else 0)]) (outside : i ≠ .haz ∧ i ≠ .door) :
      LevelHeard s (s.storeLevel i asserted) i asserted := by
    refine .ofControl rfl ((storeLevel_op ..).trans hears.symm) ?_ outside
    have none : (changeEvents s.op.state [(i, asserted)]).tail ++ s.endsTest i asserted = [] := congrArg List.tail events
    rw [none]
    rfl
  have stored := storeLevel_stored s i asserted
  have op := storeLevel_op s i asserted
  have report : (s.storeLevel i asserted).report = (s.raise .input (inputNumber i) (if asserted then 1 else 0)).report := by rw [stored]
  cases i with
  | ign => exact ignHeard s asserted
  | brake => exact silent rfl (by simp [changeEvents, State.endsTest]) (by simp)
  | sw0 => exact silent rfl (by simp [changeEvents, State.endsTest]) (by simp)
  | sw1 => exact silent rfl (by simp [changeEvents, State.endsTest]) (by simp)
  | haz =>
    change LevelHeard s (State.watchWake { s.storeLevel .haz asserted with
      flash := { (s.storeLevel .haz asserted).flash with hazIn := asserted } } asserted .haz) .haz asserted
    rw [watchWake_eq (u := s.raise .input (inputNumber .haz) (if asserted then 1 else 0)) (by exact report)]
    refine ⟨?_, ?_, ?_, ?_, ?_⟩
    · rw [stored]
    · rw [op]
      cases asserted <;> cases state : s.op.state <;> simp [OpCtl.hears, state]
    · rw [op]
      cases asserted <;> cases state : s.op.state <;>
        simp [changeEvents, State.endsTest, State.raiseEach, WakeCause.code]
    · rw [stored]
      rfl
    · rw [stored]
      rfl
  | door =>
    change LevelHeard s (State.watchWake ((s.storeLevel .door asserted).courtesyDoor asserted) asserted .door) .door asserted
    rw [courtesyDoor_eq, watchWake_eq (u := s.raise .input (inputNumber .door) (if asserted then 1 else 0)) (by exact report)]
    refine ⟨?_, ?_, ?_, ?_, ?_⟩
    · rw [stored]
    · rw [op]
      cases asserted <;> cases state : s.op.state <;> simp [OpCtl.hears, state]
    · rw [op]
      cases asserted <;> cases state : s.op.state <;>
        simp [changeEvents, State.endsTest, State.raiseEach, WakeCause.code]
    · rw [stored]
      rfl
    · rw [stored]
      rfl

end Sys2Proof.Machine
end

section
/-! PROOF. A changed input level reaches its readers as one cause (O58). -/

namespace Sys2Proof.Machine

/-- What a changed level leaves of the part once it is delivered (R144). -/
structure LevelDelivered (s t : State) (i : InputId) (asserted : Bool) : Prop where
  inputs : t.inputs = (s.setInRec i { s.inRec i with level := asserted, count := 0 }).inputs
  op : t.op = s.op.hears i asserted
  report : t.report = (s.raiseEach (changeEvents s.op.state [(i, asserted)] ++ s.endsTest i asserted)).report
  hazIn : t.flash.hazIn = if i = .haz then asserted else s.flash.hazIn
  courtesy : t.resolver.courtesy = if i = .door then s.courtesyHears asserted else s.resolver.courtesy
  supply : t.supply = s.supply
  link : t.link = s.link
  freeCount : t.freeCount = s.freeCount
  meas : t.bank.meas = s.bank.meas
  subs : t.bank.subs = s.bank.subs
  scenes : t.resolver.scenes = s.resolver.scenes
  bases : ∀ f, (t.fnRec f).base = (s.fnRec f).base
  lamps : ∀ ch, LampKept (s.lamp ch) (t.lamp ch)
  consistent : hostOnly i = false ∨ Consistent s → Consistent t

theorem LevelHeard.settled {s h t : State} {i : InputId} {asserted : Bool} (heard : LevelHeard s h i asserted) (keeps : SettleKeeps h t)
    (consistent : hostOnly i = false ∨ Consistent s → Consistent t) : LevelDelivered s t i asserted := by
  obtain ⟨rest, op, report, flash, resolver⟩ := heard
  exact {
    inputs := keeps.inputs.trans (by rw [rest])
    op := keeps.op.trans op
    report := keeps.report.trans report
    hazIn := keeps.hazIn.trans (by rw [flash])
    courtesy := keeps.courtesy.trans (by rw [resolver])
    supply := keeps.supply.trans (by rw [rest])
    link := keeps.link.trans (by rw [rest])
    freeCount := keeps.freeCount.trans (by rw [rest])
    meas := keeps.meas.trans (by rw [rest])
    subs := keeps.subs.trans (by rw [rest])
    scenes := keeps.scenes.trans (by rw [resolver])
    bases := fun f => (keeps.fns f).2.2.trans (by rw [State.fnRec, resolver]; rfl)
    lamps := fun ch => by
      have kept := keeps.lamps ch
      have same : h.lamp ch = s.lamp ch := by
        rw [rest]
        rfl
      rwa [same] at kept
    consistent := consistent }

/-- A level that the host alone reads leaves a consistent part consistent. -/
theorem storeLevel_consistent {s : State} {i : InputId} (host : hostOnly i = true) (asserted : Bool) (h : Consistent s) :
    Consistent (s.storeLevel i asserted) := by
  have others (j : InputId) (read : hostOnly j = false) : (s.storeLevel i asserted).level j = s.level j := by
    have other : j ≠ i := by
      rintro rfl
      rw [host] at read
      cases read
    rw [storeLevel_stored]
    exact congrArg InRec.level (State.inRec_setInRec_other s _ other)
  have shape := storeLevel_stored s i asserted
  refine h.alike ⟨?_, ?_, ?_, others .brake rfl, ?_, fun _ => others .ign rfl, ?_, ?_, ?_⟩ ⟨?_, ?_, ?_, ?_, ?_⟩ ?_ ?_
  all_goals rw [shape]
  · exact fun f => ⟨rfl, rfl, rfl⟩
  · exact fun ch => rfl
  · exact fun ch => rfl
  · exact fun f => ⟨rfl, rfl⟩
  · exact fun ch => ⟨rfl, rfl⟩

theorem deliverLevel_spec (s : State) (i : InputId) (asserted : Bool) : LevelDelivered s (s.deliverLevel i asserted) i asserted := by
  have heard := levelHeard s i asserted
  unfold State.deliverLevel
  dsimp only
  by_cases host : hostOnly i = true
  · rw [if_pos host]
    refine heard.settled (.refl _) fun h => ?_
    have same : (s.storeLevel i asserted).handLevel i asserted = s.storeLevel i asserted := by
      cases i with
      | sw0 | sw1 => rfl
      | ign | brake | haz | door => cases host
    rw [same]
    exact storeLevel_consistent host asserted (h.resolve_left (by simp [host]))
  · rw [if_neg host]
    generalize (s.storeLevel i asserted).handLevel i asserted = h at heard
    have keeps := settle_keeps h
    have consistent := settle_consistent h
    generalize h.settle = t at keeps consistent ⊢
    exact heard.settled keeps fun _ => consistent

/-! ### The controller's record, as R147, R154 and R159 give it -/

/-- The operating state after a changed level. -/
theorem hears_state (o : OpCtl) (i : InputId) (asserted : Bool) : (o.hears i asserted).state = stateAfter o.state [(i, asserted)] := by
  cases i <;> cases asserted <;> cases state : o.state <;> simp [OpCtl.hears, stateAfter, state]

/-- What a changed level leaves of the controller's record: the state, and beside it the flags and timers that a wake or IGN in LIMP
writes. -/
theorem hears_rest (o : OpCtl) (i : InputId) (asserted : Bool) :
    let p := o.hears i asserted
    p = { o with state := p.state, sleepRequested := p.sleepRequested, limpLighting := p.limpLighting, silenceTimer := p.silenceTimer
                 limpLatch := p.limpLatch } ∧
      p.sleepRequested = (if o.state = .watch ∧ p.state ≠ .watch then false else o.sleepRequested) ∧
      p.silenceTimer = (if o.state = .watch ∧ p.state ≠ .watch then 0 else o.silenceTimer) ∧
      (i ≠ .ign ∨ o.state ≠ .limp → p.limpLighting = o.limpLighting ∧ p.limpLatch = o.limpLatch) := by
  obtain ⟨state⟩ := o
  cases i <;> cases asserted <;> cases state <;> simp [OpCtl.hears]

end Sys2Proof.Machine
end

section
/-! PROOF. A changed input level reaches its readers as one cause (O58). -/

namespace Sys2Proof.Machine

theorem exec_inputLevelChange (i : InputId) (s : State) : exec (.inputLevelChange i) s = s.live (fun s =>
    if s.levelDue i then s.deliverLevel i (!s.level i) else if s.sleptFirst i then s.deliverAsleep i else s) := rfl

/-- A sense pin in SENDER mode gives no sample of its switch input (R143). -/
theorem inputSampled_iff {s : State} {i : InputId} : s.inputSampled i = true ↔
    ¬ ((i = .sw0 ∧ s.senseModeOf 0 = .sender) ∨ (i = .sw1 ∧ s.senseModeOf 1 = .sender)) := by
  cases i <;> cases zero : s.senseModeOf 0 <;> cases one : s.senseModeOf 1 <;> simp [State.inputSampled, zero, one]

/-- The fourth disagreeing sample of an input that is read is due outside SLEEP. -/
theorem levelDue_iff {s : State} {i : InputId} : s.levelDue i = true ↔
    s.op.state ≠ .sleep ∧ ¬ ((i = .sw0 ∧ s.senseModeOf 0 = .sender) ∨ (i = .sw1 ∧ s.senseModeOf 1 = .sender)) ∧ 3 ≤ (s.inRec i).count := by
  simp only [State.levelDue, Bool.and_eq_true, bne_iff_ne, inputSampled_iff, decide_eq_true_eq, and_assoc]

/-- The report behind a changed level: INPUT, and what the level brings. -/
theorem LevelDelivered.told {s t : State} {i : InputId} {asserted : Bool} (h : LevelDelivered s t i asserted) :
    t.report = ((s.storeLevel i asserted).raiseEach ((changeEvents s.op.state [(i, asserted)]).tail ++ s.endsTest i asserted)).report := by
  rw [h.report]
  refine (raiseEach_report_congr (u := s.raise .input (inputNumber i) (if asserted then 1 else 0)) ?_ _).symm
  rw [storeLevel_stored]

/-- The events of a changed level outside SLEEP, case by case (R144, R146, R154, R121). -/
theorem changeEvents_cases (s u : State) (i : InputId) (a : Bool) :
    (u.raiseEach ((changeEvents s.op.state [(i, a)]).tail ++ s.endsTest i a)).report =
      match i, s.op.state, a with
      | .ign, .drive, false =>
        if (s.gauge 0).state = .test ∨ (s.gauge 1).state = .test then ((u.raise .state 0 2).raise .testEnd 0 1).report
        else (u.raise .state 0 2).report
      | .ign, .park, true => (u.raise .state 0 1).report
      | .ign, .watch, true => ((u.raise .woken 0 0).raise .state 0 1).report
      | .haz, .watch, true => ((u.raise .woken 0 1).raise .state 0 2).report
      | .door, .watch, true => ((u.raise .woken 0 2).raise .state 0 2).report
      | _, _, _ => u.report := by
  by_cases released : i = .ign ∧ s.op.state = .drive ∧ a = false
  · obtain ⟨rfl, drive, rfl⟩ := released
    have tests : s.testRunning = true ↔ (s.gauge 0).state = .test ∨ (s.gauge 1).state = .test := by simp [State.testRunning]
    simp only [drive, changeEvents, State.endsTest, tests, true_and, List.tail_cons, List.append_nil]
    split <;> rfl
  · have none : s.endsTest i a = [] := if_neg fun h => released ⟨h.1, h.2.2.1, h.2.1⟩
    rw [none, List.append_nil]
    cases i <;> cases a <;> cases state : s.op.state <;>
      simp [changeEvents, State.raiseEach, state] at released ⊢

/-- The courtesy record as DOOR changes, outside LIMP and with the lamp enabled (R62, R63). -/
theorem courtesyHears_spec {s : State} (outside : s.op.state ≠ .limp) (enabled : s.resolver.courtesy.enable = true) (a : Bool) :
    (a = true → s.courtesyHears a = { s.resolver.courtesy with phase := .opened, level := 100, timer := 0 }) ∧
    (a = false → s.resolver.courtesy.phase = .opened → s.resolver.courtesy.holdS ≠ 0 →
      s.courtesyHears a = { s.resolver.courtesy with phase := .dwell, level := 100, timer := 1000 * s.resolver.courtesy.holdS }) ∧
    (a = false → s.resolver.courtesy.phase = .opened → s.resolver.courtesy.holdS = 0 →
      ((∃ ch : LampId, s.serving ch = some .interior ∧ 4 ≤ ch.val) →
        s.courtesyHears a = { s.resolver.courtesy with phase := .fade, level := 100, timer := 100 }) ∧
      ((∀ ch : LampId, s.serving ch = some .interior → ch.val < 4) →
        s.courtesyHears a = { s.resolver.courtesy with phase := .quiet, level := 0, timer := 0 })) ∧
    (a = false → s.resolver.courtesy.phase ≠ .opened → s.courtesyHears a = s.resolver.courtesy) := by
  have value : s.courtesyHears a =
      if a = true then { s.resolver.courtesy with phase := .opened, level := 100, timer := 0 }
      else if s.resolver.courtesy.phase = .opened then
        if s.resolver.courtesy.holdS = 0 then
          Courtesy.dwellEnds { s.resolver.courtesy with phase := .dwell, level := 100, timer := 1000 * s.resolver.courtesy.holdS } s.interiorLight
        else { s.resolver.courtesy with phase := .dwell, level := 100, timer := 1000 * s.resolver.courtesy.holdS }
      else s.resolver.courtesy := if_neg (by simp [outside, enabled])
  refine ⟨fun on => ?_, fun off opened some => ?_, fun off opened none => ⟨fun light => ?_, fun heavy => ?_⟩, fun off other => ?_⟩
  · rw [value, if_pos on]
  · rw [value, if_neg (by simp [off]), if_pos opened, if_neg some]
  · rw [value, if_neg (by simp [off]), if_pos opened, if_pos none, interiorLight_iff.mpr light]
    rfl
  · have dark : s.interiorLight = false := by
      rw [← Bool.not_eq_true, interiorLight_iff]
      rintro ⟨ch, serves, light⟩
      exact absurd (heavy ch serves) (by omega)
    rw [value, if_neg (by simp [off]), if_pos opened, if_pos none, dark]
    rfl
  · rw [value, if_neg (by simp [off]), if_neg other]

/-! ### What lights in SLEEP (R153) -/

/-- The value that Table 4-4 or the resolver gives a channel of a function, from what they read. -/
def carried (phase : FlashPhase) (active : Sides) (stopTurn : Bool) (resolved : Fn → Nat) : Option Fn → Nat
  | none => 0
  | some f =>
    if f.flashDrivenFn then
      if f = .telltale then (if phase = .on then 100 else 0)
      else if sideActive active f then (if phase = .on then 100 else 0)
      else if stopTurn then resolved .brake
      else 0
    else resolved f

theorem resolveAll_want (s : State) (ch : LampId) :
    (s.resolveAll.wantOf ch).1 =
      carried s.flash.phase s.flash.active (s.stopTurnChannel ch) (fun f => (s.resolve f).1) (s.serving ch) := by
  have keeps := resolveAll_keeps s
  have serving := serving_congr keeps.op keeps.lamps ch
  have stopTurn : s.resolveAll.stopTurnChannel ch = s.stopTurnChannel ch := by
    unfold State.stopTurnChannel
    rw [serving, keeps.op, (keeps.lamps ch).cfg]
  have flash := resolveAll_flash s
  have fns (f : Fn) : (s.resolveAll.fnRec f).resolved = (s.resolve f).1 := by rw [resolveAll_fnRec]
  generalize s.resolveAll = t at serving stopTurn flash fns
  unfold State.wantOf State.flashValue carried
  rw [serving, stopTurn, flash]
  cases s.serving ch with
  | none => rfl
  | some f =>
    simp only [fns]
    split <;> rfl

/-- The demand of each channel once a cause is settled. -/
theorem settle_demand (s : State) (ch : LampId) : (s.settle.lamp ch).demand =
    carried s.flashPoke.flash.phase s.flashPoke.flash.active (s.stopTurnChannel ch) (fun f => (s.resolve f).1) (s.serving ch) := by
  have keeps := (flashPoke_keeps s).trans (gaugePoke_keeps _)
  have handed : (s.settle.lamp ch).demand = (s.flashPoke.gaugePoke.resolveAll.wantOf ch).1 := by
    have arb := (arbitrate_demand s.ready ch).1
    rw [← settle_eq, ready_lamp] at arb
    exact arb.trans (handAll_demand _ ch).1
  have stopTurn : s.flashPoke.gaugePoke.stopTurnChannel ch = s.stopTurnChannel ch := by
    unfold State.stopTurnChannel
    rw [serving_congr keeps.op keeps.lamps, keeps.op, (keeps.lamps ch).cfg]
  have serving := serving_congr keeps.op keeps.lamps ch
  have flash := gaugePoke_flash s.flashPoke
  have resolves (f : Fn) := resolve_congr keeps f
  rw [handed, resolveAll_want]
  generalize s.flashPoke.gaugePoke = v at serving flash resolves stopTurn
  simp only [flash, serving, stopTurn, resolves]

/-- An ON start of both sides puts out no channel. -/
theorem carried_both {phase : FlashPhase} {active : Sides} {stopTurn : Bool} {resolved : Fn → Nat} {f : Option Fn}
    (lit : carried phase active stopTurn resolved f ≠ 0) : carried .on .both stopTurn resolved f ≠ 0 := by
  unfold carried at lit ⊢
  cases f with
  | none => exact lit
  | some f => cases f <;> simp_all [Fn.flashDrivenFn, sideActive]

/-- In WATCH the engine begins to flash with both sides or not at all. -/
theorem flashPoke_watch {s : State} (watch : s.op.state = .watch) :
    s.flashPoke.flash = s.flash ∨ (s.flashPoke.flash.phase = .on ∧ s.flashPoke.flash.active = .both) := by
  unfold State.flashPoke
  split
  · rename_i begins
    have both : s.wanted = .both := by
      have some := begins.2.1
      rw [wanted_eq] at some ⊢
      by_cases hazard : s.flash.hazIn = true ∨ s.flash.hostHazard = true
      · exact if_pos hazard
      · rw [if_neg hazard, if_neg (by simp [watch])] at some
        exact absurd rfl some
    obtain ⟨fl, e, phase, active, -⟩ := onStart_writes s s.wanted
    have flash : (s.onStart s.wanted).flash = fl := by rw [e]
    rw [flash]
    exact .inr ⟨phase, active.trans both⟩
  · exact .inl rfl

/-- A part that sleeps takes on what a change makes of it: it returns to WATCH with a lamp lit, or sleeps on with none. -/
theorem settleAsleep_spec {s : State} (asleep : s.op.state = .sleep) (closed : s.op.window = none) :
    ∃ v : State, s.settleAsleep = v.settle ∧ v.op = { s.op with state := v.op.state } ∧
      v = { s with op := v.op, report := v.report, bank := { s.bank with intervalOpen := v.bank.intervalOpen, averagesReady := v.bank.averagesReady } } ∧
      ((v.op.state = .watch ∧ v.report = (s.raise .state 0 3).report ∧ ∃ ch, (v.settle.lamp ch).demand ≠ 0) ∨
        (v.op = s.op ∧ v.report = s.report ∧ ∀ ch, (v.settle.lamp ch).demand = 0)) := by
  unfold State.settleAsleep
  by_cases rises : s.resolveAll.demandRises = true
  · rw [if_pos rises, backToWatch_eq (u := s) asleep rfl]
    obtain ⟨ch, lit⟩ := demandRises_iff.mp rises
    rw [resolveAll_want] at lit
    generalize new : ({ s with bank := { s.bank with intervalOpen := false, averagesReady := false }
                               op := { s.op with state := .watch, window := none }, report := (s.raise .state 0 3).report } : State) = v
    have state : v.op = { s.op with state := .watch } := by
      rw [← new, ← closed]
    refine ⟨v, rfl, by rw [state], by rw [← new], .inl ⟨by rw [state], by rw [← new], ch, ?_⟩⟩
    have serving : v.serving ch = s.serving ch := serving_of_map (by simp [state, asleep]) (fun c => by rw [← new]; exact ⟨rfl, rfl⟩) ch
    have stopTurn : v.stopTurnChannel ch = s.stopTurnChannel ch := by
      have lamp : v.lamp ch = s.lamp ch := by rw [← new]; rfl
      unfold State.stopTurnChannel
      rw [serving, lamp, state, asleep]
      rfl
    have resolves (f : Fn) : v.resolve f = s.resolve f := by
      have gate (f : Fn) : v.ignitionGateOpen f = s.ignitionGateOpen f := by
        unfold State.ignitionGateOpen
        rw [state, asleep]
      have start (f : Fn) : v.startValue f = s.startValue f := by
        unfold State.startValue
        rw [if_neg (by simp [state]), if_neg (by simp [asleep]), ← new]
        rfl
      have scene (f : Fn) : v.sceneValue f = s.sceneValue f := by
        unfold State.sceneValue
        rw [start, ← new]
      have opened (f : Fn) : v.openValue f = s.openValue f := by
        cases f <;> simp only [State.openValue, scene]
        all_goals rw [← new]
        all_goals rfl
      have gated (f : Fn) : v.gatedValue f = s.gatedValue f := by
        unfold State.gatedValue
        rw [opened, gate, ← new]
        rfl
      cases f <;> simp only [State.resolve, gated]
    rw [settle_demand, serving, stopTurn]
    simp only [resolves]
    have flash : v.flash = s.flash := by rw [← new]
    rcases flashPoke_watch (s := v) (by rw [state]) with same | ⟨phase, active⟩
    · rw [same, flash]
      exact lit
    · rw [phase, active]
      exact carried_both lit
  · rw [if_neg rises]
    refine ⟨s, rfl, rfl, rfl, .inr ⟨rfl, rfl, fun ch => ?_⟩⟩
    have poke : s.flashPoke = s := if_neg fun h => h.2.2 asleep
    rw [settle_demand, poke, ← resolveAll_want]
    rw [demandRises_iff, not_exists] at rises
    exact not_not.mp (rises ch)

end Sys2Proof.Machine
end

section
/-! PROOF. A changed input level is stored with INPUT and reaches its readers (O58). -/

namespace Sys2Proof.Machine

/-- The limp-lighting flag and its latch as IGN changes in LIMP (R159). -/
theorem hears_limp {o : OpCtl} (limp : o.state = .limp) (a : Bool) :
    (o.hears .ign a).limpLighting = (if a then o.limpLighting || decide (2000 ≤ o.silenceCount) else false) ∧
    (o.hears .ign a).limpLatch = (o.limpLatch || (a && decide (2000 ≤ o.silenceCount))) := by
  cases a <;> simp [OpCtl.hears, limp]

/-- The operating state after one changed level (R147, R154). -/
theorem stateAfter_one (st : OpState) (i : InputId) (a : Bool) : stateAfter st [(i, a)] =
    (match i, st, a with
      | .ign, .drive, false => .park
      | .ign, .park, true => .drive
      | .ign, .watch, true => .drive
      | .haz, .watch, true => .park
      | .door, .watch, true => .park
      | _, st, _ => st) := by
  cases i <;> cases a <;> cases st <;> rfl

/-- A level of BRAKE is settled alone. -/
theorem deliverBrake_keeps (s : State) (a : Bool) : SettleKeeps (s.storeLevel .brake a) (s.deliverLevel .brake a) := by
  unfold State.deliverLevel
  rw [if_neg (by decide)]
  exact settle_keeps (s.storeLevel .brake a)

/-- An input changed in SLEEP where no window confirms it: only the level goes on. -/
theorem asleepHeard {s h : State} {i : WakeInput} (asleep : s.op.state = .sleep) (heard : LevelHeard s h i.input true) :
    h.op = s.op ∧ h.report = (s.raise .input (inputNumber i.input) 1).report := by
  rw [heard.op, heard.report]
  cases i <;> simp [OpCtl.hears, asleep, changeEvents, State.endsTest, WakeInput.input, State.raiseEach]

/-- What a changed level leaves in SLEEP (R153). -/
theorem deliverAsleep_spec {s : State} {i : WakeInput} (asleep : s.op.state = .sleep) (closed : s.op.window = none) :
    let stored := s.storeLevel i.input true
    let t := s.deliverAsleep i.input
    t.inputs = (s.setInRec i.input { s.inRec i.input with level := true, count := 0 }).inputs ∧
      ((∃ ch, (t.lamp ch).demand ≠ 0) → t.op = { s.op with state := .watch } ∧ t.report = (stored.raise .state 0 3).report) ∧
      ((∀ ch, (t.lamp ch).demand = 0) → t.op = s.op ∧ t.report = stored.report) ∧
      t.flash.hazIn = (if i = .haz then true else s.flash.hazIn) ∧ t.supply = s.supply ∧ t.link = s.link ∧
      t.resolver.scenes = s.resolver.scenes ∧ Consistent t := by
  intro stored t
  have heard := levelHeard s i.input true
  have told : stored.report = (s.raise .input (inputNumber i.input) 1).report := by rw [show stored = _ from storeLevel_stored ..]; rfl
  have moved : t = ((s.storeLevel i.input true).handLevel i.input true).settleAsleep := rfl
  generalize (s.storeLevel i.input true).handLevel i.input true = h at heard moved
  obtain ⟨op, report⟩ := asleepHeard asleep heard
  have hazIn : h.flash.hazIn = if i = .haz then true else s.flash.hazIn := by
    rw [heard.flash]
    cases i <;> rfl
  have rest := heard.rest
  obtain ⟨v, settled, vop, shape, cases⟩ := settleAsleep_spec (s := h) (by rw [op, asleep]) (by rw [op, closed])
  have keeps := settle_keeps v
  have consistent := settle_consistent v
  rw [settled] at moved
  rw [← moved] at keeps consistent cases
  clear_value t stored
  refine ⟨?_, ?_, ?_, ?_, ?_, ?_, ?_, consistent⟩
  · rw [keeps.inputs, shape, rest]
  · rintro ⟨ch, lit⟩
    rcases cases with ⟨state, said, -⟩ | ⟨-, -, dark⟩
    · refine ⟨?_, ?_⟩
      · rw [keeps.op, vop, state, op]
      · rw [keeps.report, said]
        exact raise_report_congr (report.trans told.symm) ..
    · exact absurd (dark ch) lit
  · intro dark
    rcases cases with ⟨-, -, ch, lit⟩ | ⟨same, said, -⟩
    · exact absurd (dark ch) lit
    · exact ⟨by rw [keeps.op, same, op], by rw [keeps.report, said, report, told]⟩
  · rw [keeps.hazIn, shape]
    exact hazIn
  · rw [keeps.supply, shape, rest]
  · rw [keeps.link, shape, rest]
  · rw [keeps.scenes, shape, heard.resolver]

/-- Settles O58: a delivered level is the stored level with INPUT, what its readers write, and one settling of the cause. -/
theorem levelChangesReachTheirReaders : Obligations.LevelChangesReachTheirReaders := by
  unfold Obligations.LevelChangesReachTheirReaders
  constructor
  · intro s i running awake due read
    generalize level : (!(s.inRec i).level) = a
    intro _ r stored woken parked
    have runs : exec (.inputLevelChange i) s = .next (s.deliverLevel i a) := by
      rw [exec_runs running (exec_inputLevelChange i s), if_pos (levelDue_iff.mpr ⟨awake, read, due⟩), ← level]
      rfl
    have delivered := deliverLevel_spec s i a
    have events := changeEvents_cases s stored i a
    have state := (congrArg OpCtl.state delivered.op).trans (hears_state s.op i a)
    obtain ⟨rest, requested, timer, flags⟩ := hears_rest s.op i a
    have door := courtesyHears_spec (s := s)
    have alone : i = .sw0 ∨ i = .sw1 → s.deliverLevel i a = stored := by
      rintro (rfl | rfl) <;> rfl
    have brake : i = .brake → SettleKeeps stored (s.deliverLevel i a) := by
      rintro rfl
      exact deliverBrake_keeps s a
    generalize s.deliverLevel i a = t at runs delivered state alone brake
    rw [← delivered.op] at rest requested timer flags
    refine ⟨t, runs, delivered.inputs, alone, brake, ?_, ?_, rest, requested, timer, ?_, flags, delivered.hazIn, ?_, ?_, delivered.supply,
      delivered.link, delivered.meas, delivered.scenes, ?_⟩
    · exact state.trans (stateAfter_one s.op.state i a)
    · exact delivered.told.trans events
    · rintro rfl limp
      rw [delivered.op]
      exact hears_limp limp a
    · intro none
      rw [delivered.courtesy]
      split
      · rename_i h
        exact if_pos (none.resolve_left (by simp [h]))
      · rfl
    · rintro rfl outside enabled
      rw [delivered.courtesy, if_pos rfl]
      exact door outside enabled a
    · intro first second
      refine delivered.consistent (.inl ?_)
      cases i <;> simp at first second ⊢ <;> rfl
  · intro s i running asleep closed level due r stored
    have slept : s.levelDue i.input ≠ true := fun h => (levelDue_iff.mp h).1 asleep
    have first : s.sleptFirst i.input = true := by
      have wakes : wakes i.input = true := by cases i <;> rfl
      have low : s.level i.input = false := level
      simp [State.sleptFirst, asleep, closed, wakes, low, due]
    refine ⟨s.deliverAsleep i.input, ?_, deliverAsleep_spec asleep closed⟩
    rw [exec_runs running (exec_inputLevelChange i.input s), if_neg slept, if_pos first]

end Sys2Proof.Machine
end

section
/-! PROOF. A changed level is delivered without reading the counts of the inputs (O57). -/

namespace Sys2Proof.Machine

/-! ### What a delivered level does to an input block of the same levels -/

section
variable (s : State) (x : Inputs)

theorem withInputs_foldl {α : Type} {f : State → α → State} (h : ∀ a s, f (State.withInputs s x) a = (f s a).withInputs x) (l : List α) :
    l.foldl f (s.withInputs x) = (l.foldl f s).withInputs x := by
  induction l generalizing s with
  | nil => rfl
  | cons a l ih => rw [List.foldl_cons, List.foldl_cons, h a, ih]

theorem raise_inputsApart (k : EventKind) (subject detail : Nat) :
    (s.withInputs x).raise k subject detail = (s.raise k subject detail).withInputs x := raise_withInputs s x k subject detail

theorem enterState_withInputs (new : OpState) : (s.withInputs x).enterState new = (s.enterState new).withInputs x := by
  have left (u : State) : (u.withInputs x).gaugesLeaveDrive = u.gaugesLeaveDrive.withInputs x := by
    have folded := withInputs_foldl u x (f := fun (s : State) g => s.setGauge g (s.gauge g).leaveDrive) (fun _ _ => rfl) allGauges
    unfold State.gaugesLeaveDrive
    dsimp only
    rw [folded]
    refine Eq.trans ?_ (apply_ite (State.withInputs · x) _ _ _).symm
    unfold State.abortTest
    rw [← raise_inputsApart]
    rfl
  have raised := raise_inputsApart { s with op := { s.op with state := new } } x .state 0 new.code
  by_cases leaves : s.op.state = .drive ∧ new ≠ .drive
  · have first : (s.withInputs x).op.state = .drive ∧ new ≠ .drive := leaves
    unfold State.enterState
    rw [if_pos leaves, if_pos first, ← left]
    exact congrArg (fun u : State => { u with fan := u.fan.leaveDrive }.gaugesLeaveDrive) raised
  · have first : ¬ ((s.withInputs x).op.state = .drive ∧ new ≠ .drive) := leaves
    unfold State.enterState
    rw [if_neg leaves, if_neg first]
    exact raised

theorem wakeTo_withInputs (new : OpState) (cause : WakeCause) : (s.withInputs x).wakeTo new cause = (s.wakeTo new cause).withInputs x := by
  have resumed : (if (s.withInputs x).op.state = .sleep then (s.withInputs x).resumeSampling else s.withInputs x) =
      (if s.op.state = .sleep then s.resumeSampling else s).withInputs x := by
    refine Eq.trans ?_ (apply_ite (State.withInputs · x) _ _ _).symm
    rfl
  unfold State.wakeTo
  rw [resumed, ← enterState_withInputs, ← raise_inputsApart]
  rfl

theorem watchWake_withInputs (asserted : Bool) (cause : WakeCause) :
    (s.withInputs x).watchWake asserted cause = (s.watchWake asserted cause).withInputs x := by
  unfold State.watchWake
  refine Eq.trans ?_ (apply_ite (State.withInputs · x) _ _ _).symm
  rw [← wakeTo_withInputs]
  rfl

theorem handLevel_withInputs (i : InputId) (asserted : Bool) :
    (s.withInputs x).handLevel i asserted = (s.handLevel i asserted).withInputs x := by
  cases i with
  | brake | sw0 | sw1 => rfl
  | haz => exact watchWake_withInputs { s with flash := { s.flash with hazIn := asserted } } x asserted .haz
  | door =>
    have door : (s.withInputs x).courtesyDoor asserted = (s.courtesyDoor asserted).withInputs x := by
      rw [courtesyDoor_eq, courtesyDoor_eq]
      rfl
    unfold State.handLevel
    dsimp only
    rw [door, watchWake_withInputs]
  | ign =>
    have state : (s.withInputs x).op = s.op := rfl
    unfold State.handLevel State.ignLevel
    rw [state]
    dsimp only
    cases s.op.state with
    | sleep => rfl
    | limp =>
      cases asserted with
      | false => rfl
      | true => exact (apply_ite (State.withInputs · x) (2000 ≤ s.op.silenceCount) s.beginLimpLighting s).symm
    | drive =>
      cases asserted with
      | false => exact enterState_withInputs s x .park
      | true => rfl
    | park =>
      cases asserted with
      | false => rfl
      | true => exact enterState_withInputs s x .drive
    | watch =>
      cases asserted with
      | false => rfl
      | true => exact wakeTo_withInputs s x .drive .ign

variable {s x} in
/-- A level is delivered to a block of the same levels, and the counts of the others stand. -/
theorem deliverLevel_withInputs (levels : ∀ i, (s.withInputs x).level i = s.level i) (i : InputId) (asserted : Bool) :
    (s.withInputs x).deliverLevel i asserted =
      (s.deliverLevel i asserted).withInputs ((s.withInputs x).setInRec i { (s.withInputs x).inRec i with level := asserted, count := 0 }).inputs := by
  have stored : (s.withInputs x).storeLevel i asserted =
      (s.storeLevel i asserted).withInputs ((s.withInputs x).setInRec i { (s.withInputs x).inRec i with level := asserted, count := 0 }).inputs := by
    rw [storeLevel_stored, storeLevel_stored, raise_inputsApart]
    rfl
  have heard := (levelHeard s i asserted).rest
  generalize written : ((s.withInputs x).setInRec i { (s.withInputs x).inRec i with level := asserted, count := 0 }).inputs = y at stored ⊢
  unfold State.deliverLevel
  dsimp only
  rw [stored, handLevel_withInputs]
  generalize (s.storeLevel i asserted).handLevel i asserted = h at heard ⊢
  have same (j : InputId) : (h.withInputs y).level j = h.level j := by
    have first : (h.withInputs y).inRec j = ((s.withInputs x).setInRec i { (s.withInputs x).inRec i with level := asserted, count := 0 }).inRec j := by
      rw [← written]
      rfl
    have second : h.inRec j = (s.setInRec i { s.inRec i with level := asserted, count := 0 }).inRec j := by
      rw [heard]
      rfl
    unfold State.level
    rw [first, second]
    by_cases this : j = i
    · rw [this, State.inRec_setInRec_same, State.inRec_setInRec_same]
    · rw [State.inRec_setInRec_other _ _ this, State.inRec_setInRec_other _ _ this]
      exact levels j
  rw [settle_withInputs same]
  exact (apply_ite (State.withInputs · y) _ _ _).symm

end

end Sys2Proof.Machine
end

section
/-! PROOF. The debouncing of the switch inputs (O57). -/

namespace Sys2Proof.Machine

theorem exec_inputSample (pins : PinLevels) (s : State) : exec (.inputSample pins) s = s.live (fun s => s.sampleInputs pins) := rfl

/-! ### What a sample makes of an input (R144) -/

/-- An input's record after a sample. -/
def State.sampledRec (s : State) (pins : PinLevels) (i : InputId) : InRec :=
  let r := s.inRec i
  let a := s.assertedAt i (pins.get i)
  if s.inputSampled i = false then r
  else if a = r.level then { r with count := 0 }
  else if r.count < 3 then { r with count := r.count + 1 }
  else { r with level := a, count := 0 }

/-- A sample changes an input's level. -/
def State.changesOn (s : State) (pins : PinLevels) (i : InputId) : Prop :=
  s.inputSampled i = true ∧ s.assertedAt i (pins.get i) ≠ (s.inRec i).level ∧ 3 ≤ (s.inRec i).count

/-- An input's record after a sample that leaves the levels. -/
def State.countedRec (s : State) (pins : PinLevels) (i : InputId) : InRec :=
  let r := s.inRec i
  let a := s.assertedAt i (pins.get i)
  if s.inputSampled i = false ∨ s.inputSampled i = true ∧ a ≠ r.level ∧ 3 ≤ r.count then r
  else if a = r.level then { r with count := 0 }
  else { r with count := r.count + 1 }

/-- What a sample reads of an input. -/
structure SamplesAlike (s t : State) (i : InputId) : Prop where
  recs : t.inRec i = s.inRec i
  modes : t.inputs.senseMode = s.inputs.senseMode
  polarity : t.inputs.earthPositive = s.inputs.earthPositive

theorem SamplesAlike.sampled {s t : State} {i : InputId} (h : SamplesAlike s t i) : t.inputSampled i = s.inputSampled i := by
  unfold State.inputSampled State.senseModeOf
  rw [h.modes]

theorem SamplesAlike.asserted {s t : State} {i : InputId} (h : SamplesAlike s t i) (high : Bool) : t.assertedAt i high = s.assertedAt i high := by
  unfold State.assertedAt
  rw [h.recs, h.polarity]

theorem SamplesAlike.sampledRec {s t : State} {i : InputId} (h : SamplesAlike s t i) (pins : PinLevels) :
    t.sampledRec pins i = s.sampledRec pins i := by
  unfold State.sampledRec
  rw [h.recs, h.sampled, h.asserted]

theorem SamplesAlike.changesOn {s t : State} {i : InputId} (h : SamplesAlike s t i) (pins : PinLevels) :
    t.changesOn pins i ↔ s.changesOn pins i := by
  unfold State.changesOn
  rw [h.recs, h.sampled, h.asserted]

/-- The part outside SLEEP after a sample of some inputs (R144). -/
structure Sampled (s t : State) (pins : PinLevels) (l : List InputId) : Prop where
  recs : ∀ i ∈ l, t.inRec i = s.sampledRec pins i
  others : ∀ i, i ∉ l → t.inRec i = s.inRec i
  modes : t.inputs.senseMode = s.inputs.senseMode
  polarity : t.inputs.earthPositive = s.inputs.earthPositive
  awake : t.op.state ≠ .sleep
  running : t.op.resetHeld = s.op.resetHeld
  supply : t.supply = s.supply
  link : t.link = s.link
  scenes : t.resolver.scenes = s.resolver.scenes
  rest : (∀ i ∈ l, ¬ s.changesOn pins i) → t = { s with inputs := t.inputs }

/-- No changed level leads a part that is awake to SLEEP, and none holds it. -/
theorem hears_awake {o : OpCtl} (awake : o.state ≠ .sleep) (i : InputId) (a : Bool) :
    (o.hears i a).state ≠ .sleep ∧ (o.hears i a).resetHeld = o.resetHeld := by
  obtain ⟨state⟩ := o
  cases i <;> cases a <;> cases state <;> simp [OpCtl.hears] at awake ⊢

/-- The inputs after a delivered level. -/
theorem LevelDelivered.inRec {s t : State} {i : InputId} {a : Bool} (h : LevelDelivered s t i a) :
    t.inRec i = { s.inRec i with level := a, count := 0 } ∧ (∀ j, j ≠ i → t.inRec j = s.inRec j) ∧
      t.inputs.senseMode = s.inputs.senseMode ∧ t.inputs.earthPositive = s.inputs.earthPositive := by
  have inputs := h.inputs
  refine ⟨?_, fun j other => ?_, by rw [inputs]; rfl, by rw [inputs]; rfl⟩
  · exact (congrArg (fun x : Inputs => x.recs.get i) inputs).trans (State.inRec_setInRec_same ..)
  · exact (congrArg (fun x : Inputs => x.recs.get j) inputs).trans (State.inRec_setInRec_other _ _ other)

/-- The sample of one input, case by case. -/
theorem sampleInput_cases (s : State) (pins : PinLevels) (i : InputId) :
    (s.changesOn pins i → s.sampleInput pins i = s.deliverLevel i (!s.level i) ∧
      s.sampledRec pins i = { s.inRec i with level := !s.level i, count := 0 }) ∧
    (¬ s.changesOn pins i → s.sampleInput pins i = s.setInRec i (s.sampledRec pins i) ∧ s.sampledRec pins i = s.countedRec pins i) := by
  unfold State.changesOn State.sampleInput State.sampledRec State.countedRec
  dsimp only
  have same : s.setInRec i (s.inRec i) = s := by cases i <;> rfl
  have other : s.assertedAt i (pins.get i) ≠ (s.inRec i).level → s.assertedAt i (pins.get i) = !s.level i := fun h => Bool.eq_not.mpr h
  generalize s.assertedAt i (pins.get i) = a at other ⊢
  cases sampled : s.inputSampled i with
  | false => exact ⟨fun h => absurd h.1 (by simp), fun _ => ⟨by simp [same], by simp⟩⟩
  | true =>
    by_cases agrees : a = (s.inRec i).level
    · exact ⟨fun h => absurd agrees h.2.1, fun _ => ⟨by simp [agrees], by simp [agrees]⟩⟩
    · by_cases due : 3 ≤ (s.inRec i).count
      · refine ⟨fun _ => ?_, fun h => absurd ⟨rfl, agrees, due⟩ h⟩
        have value := other agrees
        subst value
        simp [agrees, due]
      · exact ⟨fun h => absurd h.2.2 due, fun _ => ⟨by simp [agrees, due, Nat.lt_of_not_le due], by simp [agrees, due, Nat.lt_of_not_le due]⟩⟩

/-- One input outside SLEEP is debounced by itself. -/
theorem sampleInput_spec {s : State} (awake : s.op.state ≠ .sleep) (pins : PinLevels) (i : InputId) :
    Sampled s (s.sampleInput pins i) pins [i] := by
  by_cases changes : s.changesOn pins i
  · obtain ⟨moved, rec⟩ := (sampleInput_cases s pins i).1 changes
    have delivered := deliverLevel_spec s i (!s.level i)
    have op := hears_awake awake i (!s.level i)
    rw [moved]
    generalize s.deliverLevel i (!s.level i) = t at delivered
    rw [← delivered.op] at op
    obtain ⟨own, others, modes, polarity⟩ := delivered.inRec
    exact {
      recs := fun j h => by rw [List.mem_singleton.mp h, own, rec]
      others := fun j h => others j (by simpa using h)
      modes, polarity
      awake := op.1
      running := op.2
      supply := delivered.supply
      link := delivered.link
      scenes := delivered.scenes
      rest := fun none => absurd changes (none i (by simp)) }
  · obtain ⟨moved, -⟩ := (sampleInput_cases s pins i).2 changes
    rw [moved]
    exact {
      recs := fun j h => by rw [List.mem_singleton.mp h, State.inRec_setInRec_same]
      others := fun j h => State.inRec_setInRec_other _ _ (by simpa using h)
      modes := rfl
      polarity := rfl
      awake := awake
      running := rfl
      supply := rfl
      link := rfl
      scenes := rfl
      rest := fun _ => rfl }

/-- The inputs are debounced each by itself. -/
theorem sampleFold_spec {s : State} (awake : s.op.state ≠ .sleep) (pins : PinLevels) {l : List InputId} (each : l.Nodup) :
    Sampled s (l.foldl (State.sampleInput pins) s) pins l := by
  induction l generalizing s with
  | nil =>
    exact {
      recs := fun i h => absurd h (by simp)
      others := fun i _ => rfl
      modes := rfl
      polarity := rfl
      awake := awake
      running := rfl
      supply := rfl
      link := rfl
      scenes := rfl
      rest := fun _ => rfl }
  | cons i l ih =>
    obtain ⟨apart, each⟩ := List.nodup_cons.mp each
    have first := sampleInput_spec awake pins i
    have later := ih first.awake each
    rw [List.foldl_cons]
    generalize s.sampleInput pins i = u at first later ⊢
    generalize l.foldl (State.sampleInput pins) u = t at later
    have alike (j : InputId) (other : j ≠ i) : SamplesAlike s u j := ⟨first.others j (by simpa using other), first.modes, first.polarity⟩
    have ne {j : InputId} (h : j ∈ l) : j ≠ i := fun e => apart (e ▸ h)
    exact {
      recs := fun j h => by
        rcases List.mem_cons.mp h with rfl | h
        · rw [later.others j apart, first.recs j (by simp)]
        · rw [later.recs j h, (alike j (ne h)).sampledRec]
      others := fun j h => by
        obtain ⟨other, h⟩ := not_or.mp (fun e => h (List.mem_cons.mpr e))
        rw [later.others j h, first.others j (by simpa using other)]
      modes := later.modes.trans first.modes
      polarity := later.polarity.trans first.polarity
      awake := later.awake
      running := later.running.trans first.running
      supply := later.supply.trans first.supply
      link := later.link.trans first.link
      scenes := later.scenes.trans first.scenes
      rest := fun none => by
        rw [later.rest fun j h changes => none j (List.mem_cons_of_mem _ h) (((alike j (ne h)).changesOn pins).mp changes),
          first.rest fun j h => none j (by simp [List.mem_singleton.mp h])] }

/-! ### A sample as the changes of level that it makes (R144) -/

/-- Two parts whose inputs are counted so far, or still to be counted, as a sample `pins` of the part `s` gives. -/
structure CountedTo (s u v : State) (pins : PinLevels) (l : List InputId) : Prop where
  shape : u = v.withInputs u.inputs
  modes : u.inputs.senseMode = s.inputs.senseMode ∧ v.inputs.senseMode = s.inputs.senseMode
  polarity : u.inputs.earthPositive = s.inputs.earthPositive ∧ v.inputs.earthPositive = s.inputs.earthPositive
  ahead : ∀ i ∈ l, u.inRec i = s.inRec i ∧ v.inRec i = s.countedRec pins i
  past : ∀ i, i ∉ l → u.inRec i = v.inRec i
  awake : v.op.state ≠ .sleep
  running : v.op.resetHeld = false

/-- What is only counted keeps its level. -/
theorem countedRec_level (s : State) (pins : PinLevels) (i : InputId) : (s.countedRec pins i).level = (s.inRec i).level := by
  unfold State.countedRec
  dsimp only
  split
  · rfl
  · split <;> rfl

theorem CountedTo.level {s u v : State} {pins : PinLevels} {l : List InputId} (h : CountedTo s u v pins l) (i : InputId) :
    u.level i = v.level i := by
  unfold State.level
  by_cases ahead : i ∈ l
  · obtain ⟨first, second⟩ := h.ahead i ahead
    rw [first, second, countedRec_level]
  · rw [h.past i ahead]

/-- A sample is the counts, and then the changes of level one after another. -/
theorem sampleFold_changes {s u v : State} {pins : PinLevels} {l : List InputId} (each : l.Nodup) (h : CountedTo s u v pins l)
    (decide : ∀ i, Decidable (s.changesOn pins i)) :
    levelChanges (l.filter (fun i => Decidable.decide (s.changesOn pins i))) v = .next (l.foldl (State.sampleInput pins) u) := by
  induction l generalizing u v with
  | nil =>
    have recs : u.inputs.recs = v.inputs.recs := by
      have all (i : InputId) : u.inputs.recs.get i = v.inputs.recs.get i := h.past i (by simp)
      have ign := all .ign
      have brake := all .brake
      have haz := all .haz
      have door := all .door
      have first := all .sw0
      have second := all .sw1
      revert ign brake haz door first second
      generalize u.inputs.recs = x
      generalize v.inputs.recs = y
      cases x
      cases y
      simp +contextual [PerInput.get]
    have same : u.inputs = v.inputs := by
      have modes := h.modes.1.trans h.modes.2.symm
      have polarity := h.polarity.1.trans h.polarity.2.symm
      revert recs modes polarity
      generalize u.inputs = x
      generalize v.inputs = y
      cases x
      cases y
      simp +contextual
    have equal := h.shape
    rw [same] at equal
    rw [List.foldl_nil, equal]
    rfl
  | cons i l ih =>
    obtain ⟨apart, each⟩ := List.nodup_cons.mp each
    obtain ⟨ahead, counted⟩ := h.ahead i (by simp)
    have alike : SamplesAlike s u i := ⟨ahead, h.modes.1, h.polarity.1⟩
    have ne {j : InputId} (h : j ∈ l) : j ≠ i := fun e => apart (e ▸ h)
    rw [List.foldl_cons]
    by_cases changes : s.changesOn pins i
    · rw [List.filter_cons_of_pos (by simpa using changes)]
      have plain : v.inRec i = s.inRec i := by
        rw [counted]
        exact if_pos (.inr changes)
      have due : v.levelDue i = true := by
        obtain ⟨sampled, -, many⟩ := changes
        rw [← SamplesAlike.sampled ⟨plain, h.modes.2, h.polarity.2⟩, inputSampled_iff] at sampled
        exact levelDue_iff.mpr ⟨h.awake, sampled, plain ▸ many⟩
      have runs : exec (.inputLevelChange i) v = .next (v.deliverLevel i (!v.level i)) := by
        rw [exec_runs h.running (exec_inputLevelChange i v), if_pos due]
      obtain ⟨moved, -⟩ := (sampleInput_cases u pins i).1 ((alike.changesOn pins).mpr changes)
      rw [moved, h.level i]
      unfold levelChanges
      rw [runs]
      have levels (j : InputId) : (v.withInputs u.inputs).level j = v.level j := by
        rw [← h.shape]
        exact h.level j
      have apply := deliverLevel_withInputs levels i (!v.level i)
      have first := (deliverLevel_spec u i (!v.level i)).inRec
      have delivered := deliverLevel_spec v i (!v.level i)
      have op := hears_awake h.awake i (!v.level i)
      rw [← h.shape] at apply
      generalize (!v.level i) = a at apply first delivered op ⊢
      generalize u.deliverLevel i a = x at apply first ⊢
      generalize v.deliverLevel i a = y at apply delivered ⊢
      rw [← delivered.op] at op
      obtain ⟨own, others, modes, polarity⟩ := first
      obtain ⟨own', others', modes', polarity'⟩ := delivered.inRec
      refine ih each ⟨?_, ⟨modes.trans h.modes.1, modes'.trans h.modes.2⟩, ⟨polarity.trans h.polarity.1, polarity'.trans h.polarity.2⟩,
        fun j m => ?_, fun j m => ?_, op.1, op.2.trans h.running⟩
      · rw [apply]
        rfl
      · rw [others j (ne m), others' j (ne m)]
        exact h.ahead j (List.mem_cons_of_mem _ m)
      · by_cases same : j = i
        · rw [same, own, own', ahead, plain]
        · rw [others j same, others' j same]
          exact h.past j (by simp [same, m])
    · rw [List.filter_cons_of_neg (by simpa using changes)]
      refine ih each ?_
      obtain ⟨moved, rec⟩ := (sampleInput_cases u pins i).2 (mt (alike.changesOn pins).mp changes)
      obtain ⟨-, plain⟩ := (sampleInput_cases s pins i).2 changes
      rw [moved]
      refine ⟨?_, h.modes, h.polarity, fun j m => ?_, fun j m => ?_, h.awake, h.running⟩
      · rw [h.shape]
        rfl
      · rw [State.inRec_setInRec_other _ _ (ne m)]
        exact h.ahead j (List.mem_cons_of_mem _ m)
      · by_cases own : j = i
        · rw [own, State.inRec_setInRec_same, alike.sampledRec, plain, counted]
        · rw [State.inRec_setInRec_other _ _ own]
          exact h.past j (by simp [own, m])

/-- Settles O57: the sample of each input reads its own record alone, and a delivered level leaves the records of the others. -/
theorem inputsAreDebounced : Obligations.InputsAreDebounced := by
  unfold Obligations.InputsAreDebounced
  intro s pins running
  refine ⟨fun asleep closed => ?_, fun awake => ?_⟩
  · rw [exec_runs running (exec_inputSample pins s)]
    unfold State.sampleInputs
    rw [if_pos asleep, closed]
  · intro unread asserted changes
    have runs : exec (.inputSample pins) s = .next (allInputs.foldl (State.sampleInput pins) s) := by
      rw [exec_runs running (exec_inputSample pins s)]
      unfold State.sampleInputs
      rw [if_neg awake]
    have read (i : InputId) : unread i ↔ s.inputSampled i = false := by
      rw [← Bool.not_eq_true, inputSampled_iff, not_not]
    have each : allInputs.Nodup := by decide
    have all (i : InputId) : i ∈ allInputs := by cases i <;> decide
    have due (i : InputId) : changes i ↔ s.changesOn pins i := by
      unfold State.changesOn
      rw [inputSampled_iff]
      exact Iff.rfl
    refine ⟨fun u shape modes polarity counted => ?_, ?_⟩
    · rw [runs]
      have start : CountedTo s s u pins allInputs := by
        refine ⟨?_, ⟨rfl, modes⟩, ⟨rfl, polarity⟩, fun i _ => ⟨rfl, ?_⟩, fun i h => absurd (all i) h, ?_, ?_⟩
        · rw [shape]
          rfl
        · rw [counted i]
          exact if_congr (or_congr (read i) (due i)) rfl rfl
        · rw [shape]
          exact awake
        · rw [shape]
          exact running
      have dueBool : (fun i => decide (changes i)) = fun i => @decide (s.changesOn pins i) (Classical.propDecidable _) :=
        funext fun i => decide_eq_decide.mpr (due i)
      exact (sampleFold_changes each start fun i => Classical.propDecidable _).symm.trans
        (congrArg (fun test => levelChanges (allInputs.filter test) u) dueBool.symm)
    · have sampled := sampleFold_spec awake pins each
      generalize allInputs.foldl (State.sampleInput pins) s = t at runs sampled
      refine ⟨t, runs, fun i => ?_, fun still => sampled.rest fun i _ moves => ?_, sampled.modes, sampled.polarity, sampled.supply, sampled.link,
        sampled.scenes⟩
      · rw [sampled.recs i (all i)]
        simp only [read]
        rfl
      · have level := congrArg InRec.level (sampled.recs i (all i))
        rw [still i, ((sampleInput_cases s pins i).1 moves).2] at level
        exact absurd level (by simp [State.level])

end Sys2Proof.Machine
end

section
/-! PROOF. Ordinary events of a few kinds and subjects stand in a queue with room for one of each (O45). -/

namespace Sys2Proof.Machine

/-- A record of a kind and subject stands in a queue. -/
abbrev Noted (q : List EventRec) (key : EventKind × Nat) : Prop := ∃ x ∈ q, x.kind = key.1 ∧ x.subject = key.2

/-- How many records of some kinds and subjects are still to come. -/
def unnoted (q : List EventRec) (keys : Finset (EventKind × Nat)) : Nat := (keys.filter fun key => ¬ Noted q key).card

theorem unnoted_le (q : List EventRec) (keys : Finset (EventKind × Nat)) : unnoted q keys ≤ keys.card := Finset.card_filter_le ..

theorem unnoted_mono {q p : List EventRec} (keys : Finset (EventKind × Nat)) (kept : ∀ key, Noted q key → Noted p key) :
    unnoted p keys ≤ unnoted q keys := by
  exact Finset.card_le_card fun key h => by
    simp only [Finset.mem_filter] at h ⊢
    exact ⟨h.1, fun noted => h.2 (kept key noted)⟩

theorem unnoted_lt {q p : List EventRec} {keys : Finset (EventKind × Nat)} (kept : ∀ key, Noted q key → Noted p key)
    {key : EventKind × Nat} (mem : key ∈ keys) (new : ¬ Noted q key) (now : Noted p key) : unnoted p keys < unnoted q keys := by
  refine Finset.card_lt_card ((Finset.ssubset_iff_of_subset fun key h => ?_).mpr ⟨key, ?_, ?_⟩)
  · simp only [Finset.mem_filter] at h ⊢
    exact ⟨h.1, fun noted => h.2 (kept key noted)⟩
  · exact Finset.mem_filter.mpr ⟨mem, new⟩
  · exact fun h => (Finset.mem_filter.mp h).2 now

/-- What inserting an ordinary record does: the records of the queue stand, but for the detail of one of its kind and subject. -/
theorem insertEvent_ordinary {q : List EventRec} {r : EventRec} (ordinary : r.kind.urgent = false) :
    (∀ key, Noted q key → Noted (insertEvent q r).1 key) ∧ (∀ x ∈ q, x.same r = false → x ∈ (insertEvent q r).1) ∧
      (q.length < 16 → Noted (insertEvent q r).1 (r.kind, r.subject)) ∧
      ∀ keys, (r.kind, r.subject) ∈ keys → (insertEvent q r).1.length + unnoted (insertEvent q r).1 keys ≤ q.length + unnoted q keys := by
  by_cases known : KnownIn q r
  · rw [insertEvent_known known]
    have kept : ∀ key, Noted q key → Noted (q.map fun x => if x.kind = r.kind ∧ x.subject = r.subject then x.coalesce r else x) key := by
      rintro key ⟨x, mem, same⟩
      refine ⟨_, List.mem_map_of_mem mem, ?_⟩
      split <;> exact same
    refine ⟨kept, fun x mem other => ?_, fun _ => ?_, fun keys mem => ?_⟩
    · refine List.mem_map.mpr ⟨x, mem, if_neg ?_⟩
      simpa [EventRec.same] using other
    · obtain ⟨x, mem, same⟩ := known
      exact kept _ ⟨x, mem, same⟩
    · simpa using unnoted_mono keys kept
  · by_cases room : q.length < 16
    · rw [insertEvent_room known room]
      have kept : ∀ key, Noted q key → Noted (placeEvent q r) key := fun key ⟨x, mem, same⟩ => ⟨x, mem_placeEvent.mpr (.inr mem), same⟩
      have now : Noted (placeEvent q r) (r.kind, r.subject) := ⟨r, mem_placeEvent.mpr (.inl rfl), rfl, rfl⟩
      refine ⟨kept, fun x mem _ => mem_placeEvent.mpr (.inr mem), fun _ => now, fun keys mem => ?_⟩
      have fewer := unnoted_lt kept mem known now
      have longer := placeEvent_length q r
      dsimp only
      omega
    · have lost : insertEvent q r = (q, true) := by
        rw [insertEvent, if_neg (mt any_same_iff.mp known), if_neg room, if_pos (by simp [ordinary])]
      rw [lost]
      exact ⟨fun _ h => h, fun _ h _ => h, fun h => absurd h room, fun _ _ => le_rfl⟩

/-- An ordinary event raised: what stands, and how full the queue becomes. -/
theorem raise_noted (s : State) {k : EventKind} (ordinary : k.urgent = false) (subject detail : Nat) :
    (∀ key, Noted s.report.events key → Noted (s.raise k subject detail).report.events key) ∧
      (s.eventEnabled k = true → s.report.events.length < 16 → Noted (s.raise k subject detail).report.events (k, subject)) ∧
      ∀ keys, (k, subject) ∈ keys → (s.raise k subject detail).report.events.length + unnoted (s.raise k subject detail).report.events keys ≤
        s.report.events.length + unnoted s.report.events keys := by
  have inserted := insertEvent_ordinary (q := s.report.events)
    (r := { kind := k, subject := subject, detail := min 65535 detail, count := 1, time := s.report.timeCount }) ordinary
  obtain ⟨kept, -, now, fill⟩ := inserted
  unfold State.raise
  split
  · exact ⟨kept, fun _ => now, fill⟩
  · rename_i disabled
    exact ⟨fun _ h => h, fun enabled => absurd enabled disabled, fun _ _ => le_rfl⟩

/-- Ordinary events of a few kinds and subjects stand where the queue has room for one of each. -/
theorem raiseEach_noted {keys : Finset (EventKind × Nat)} (l : List (EventKind × Nat × Nat)) {s : State}
    (room : s.report.events.length + unnoted s.report.events keys < 16)
    (within : ∀ x ∈ l, x.1.urgent = false ∧ (x.1, x.2.1) ∈ keys) :
    (∀ key, Noted s.report.events key → Noted (s.raiseEach l).report.events key) ∧
      ∀ x ∈ l, s.eventEnabled x.1 = true → Noted (s.raiseEach l).report.events (x.1, x.2.1) := by
  induction l generalizing s with
  | nil => exact ⟨fun _ h => h, fun x h => absurd h (by simp)⟩
  | cons x l ih =>
    obtain ⟨ordinary, mem⟩ := within x (by simp)
    obtain ⟨kept, now, fill⟩ := raise_noted s ordinary x.2.1 x.2.2
    have enabled (k : EventKind) : (s.raise x.1 x.2.1 x.2.2).eventEnabled k = s.eventEnabled k := by
      rw [State.eventEnabled, raise_mask]
      rfl
    obtain ⟨keptLater, nowLater⟩ := ih (s := s.raise x.1 x.2.1 x.2.2) (lt_of_le_of_lt (fill keys mem) room)
      fun y h => within y (List.mem_cons_of_mem _ h)
    rw [State.raiseEach_cons]
    refine ⟨fun key h => keptLater key (kept key h), fun y h on => ?_⟩
    rcases List.mem_cons.mp h with rfl | h
    · exact keptLater _ (now on (by omega))
    · exact nowLater y h ((enabled y.1).trans on)

/-- An event stands, with its detail, through ordinary events of other kinds. -/
theorem raiseEach_standing (l : List (EventKind × Nat × Nat)) {s : State} {k : EventKind} {subject detail : Nat}
    (h : Reports s k subject detail) (other : ∀ x ∈ l, x.1.urgent = false ∧ x.1 ≠ k) : Reports (s.raiseEach l) k subject detail := by
  induction l generalizing s with
  | nil => exact h
  | cons x l ih =>
    rw [State.raiseEach_cons]
    refine ih ?_ fun y mem => other y (List.mem_cons_of_mem _ mem)
    obtain ⟨ordinary, differs⟩ := other x (by simp)
    obtain ⟨r, mem, kind, rest⟩ := h
    unfold State.raise
    split
    · refine ⟨r, (insertEvent_ordinary ordinary).2.1 r mem ?_, kind, rest⟩
      simp [EventRec.same, kind, differs.symm]
    · exact ⟨r, mem, kind, rest⟩

end Sys2Proof.Machine
end

section
/-! PROOF. What a window held back is delivered once the part is awake (O45). -/

namespace Sys2Proof.Machine

/-! ### No test begins (R119, R121) -/

/-- No gauge comes into TEST by leaving DRIVE or by a change of state. -/
theorem enterState_untested (s : State) (new : OpState) (g : GaugeId) (h : (s.gauge g).state ≠ .test) : ((s.enterState new).gauge g).state ≠ .test := by
  have raised := raise_eq (s := { s with op := { s.op with state := new } }) (u := s) rfl .state 0 new.code
  unfold State.enterState
  dsimp only at raised ⊢
  rw [raised]
  split
  · generalize before : ({ s with op := { s.op with state := new }, report := (s.raise .state 0 new.code).report, fan := s.fan.leaveDrive } : State) = v
    have same : v.gauge g = s.gauge g := by
      rw [← before]
      rfl
    unfold State.gaugesLeaveDrive
    obtain ⟨left, -⟩ := gauges_fold Gauge.leaveDrive v
    generalize allGauges.foldl (fun (s : State) g => s.setGauge g (s.gauge g).leaveDrive) v = w at left ⊢
    have off : (w.gauge g).state ≠ .test := by
      rw [left g, same]
      cases state : (s.gauge g).state <;> simp [Gauge.leaveDrive, Gauge.leaveRun, state] at h ⊢
    split
    · unfold State.abortTest
      rw [raise_eq (u := w) (by rfl)]
      exact off
    · exact off
  · exact h

theorem wakeTo_untested (s : State) (new : OpState) (cause : WakeCause) (g : GaugeId) (h : (s.gauge g).state ≠ .test) :
    ((s.wakeTo new cause).gauge g).state ≠ .test := by
  unfold State.wakeTo
  refine enterState_untested _ new g ?_
  rw [raise_eq (u := s) (by split <;> rfl)]
  split <;> exact h

theorem handLevel_untested (s : State) (i : InputId) (a : Bool) (g : GaugeId) (h : (s.gauge g).state ≠ .test) :
    ((s.handLevel i a).gauge g).state ≠ .test := by
  have watch (u : State) (same : u.gauge g = s.gauge g) (cause : WakeCause) : ((u.watchWake a cause).gauge g).state ≠ .test := by
    unfold State.watchWake
    split
    · exact wakeTo_untested u .park cause g (same ▸ h)
    · exact same ▸ h
  cases i with
  | brake | sw0 | sw1 => exact h
  | haz => exact watch { s with flash := { s.flash with hazIn := a } } rfl .haz
  | door =>
    refine watch _ ?_ .door
    rw [courtesyDoor_eq]
    rfl
  | ign =>
    unfold State.handLevel State.ignLevel
    dsimp only
    split
    · split
      · split <;> exact h
      · exact h
    · split
      · exact h
      · exact enterState_untested s .park g h
    · split
      · exact enterState_untested s .drive g h
      · exact h
    · split
      · exact wakeTo_untested s .drive .ign g h
      · exact h
    · exact h

theorem settle_untested (s : State) (g : GaugeId) (h : (s.gauge g).state ≠ .test) : (s.settle.gauge g).state ≠ .test := by
  rcases ((settle_keeps s).gauges g).state with same | ⟨-, run, -⟩
  · rwa [same]
  · rw [run]
    simp

/-- A delivered level begins no test. -/
theorem deliverLevel_untested (s : State) (i : InputId) (a : Bool) (g : GaugeId) (h : (s.gauge g).state ≠ .test) :
    ((s.deliverLevel i a).gauge g).state ≠ .test := by
  have stored : ((s.storeLevel i a).gauge g).state ≠ .test := by
    rw [storeLevel_stored]
    exact h
  have handed := handLevel_untested _ i a g stored
  unfold State.deliverLevel
  dsimp only
  split
  · exact handed
  · exact settle_untested _ g handed

/-! ### The changes of level that a window held (R155) -/

/-- The kinds and subjects of the events that a wake and the changes of a window may raise. -/
def wakeKeys : Finset (EventKind × Nat) :=
  {(.woken, 0), (.state, 0), (.testEnd, 0), (.input, 0), (.input, 1), (.input, 2), (.input, 3), (.input, 4), (.input, 5)}

/-- What delivering the changes that a window held leaves of a part that is awake outside LIMP. -/
structure HeldDelivered (s t : State) (held : List (InputId × Bool)) : Prop where
  state : t.op.state = stateAfter s.op.state held
  requested : t.op.sleepRequested = if s.op.state = .watch ∧ t.op.state ≠ .watch then false else s.op.sleepRequested
  timer : t.op.silenceTimer = if s.op.state = .watch ∧ t.op.state ≠ .watch then 0 else s.op.silenceTimer
  op : t.op = { s.op with state := t.op.state, sleepRequested := t.op.sleepRequested, silenceTimer := t.op.silenceTimer }
  outside : t.op.state ≠ .limp ∧ t.op.state ≠ .sleep ∧ (t.op.state = .watch → s.op.state = .watch)
  levels : ∀ j, t.level j = levelAfter (s.level j) j held
  report : ∃ l, t.report = (s.raiseEach l).report ∧
    (∀ x ∈ l, x.1.urgent = false ∧ (x.1, x.2.1) ∈ wakeKeys) ∧
    (∀ x ∈ held, ∃ y ∈ l, y.1 = .input ∧ y.2.1 = inputNumber x.1) ∧
    (s.op.state ≠ .watch → ∀ x ∈ l, x.1 ≠ .woken) ∧
    ((∀ g, (s.gauge g).state ≠ .test) → l = changeEvents s.op.state held)
  supply : t.supply = s.supply
  link : t.link = s.link
  freeCount : t.freeCount = s.freeCount
  meas : t.bank.meas = s.bank.meas
  subs : t.bank.subs = s.bank.subs
  scenes : t.resolver.scenes = s.resolver.scenes
  bases : ∀ f, (t.fnRec f).base = (s.fnRec f).base
  lamps : ∀ ch, LampKept (s.lamp ch) (t.lamp ch)
  consistent : Consistent s → Consistent t

/-- The events of one changed level. -/
theorem changeEvents_one (st : OpState) (i : InputId) (a : Bool) (x : EventKind × Nat × Nat) (mem : x ∈ changeEvents st [(i, a)]) :
    x.1.urgent = false ∧ (x.1, x.2.1) ∈ wakeKeys ∧ (st ≠ .watch → x.1 ≠ .woken) := by
  revert x
  cases st <;> cases a <;> cases i <;> decide

theorem changeEvents_cons (st : OpState) (x : InputId × Bool) (rest : List (InputId × Bool)) :
    changeEvents st (x :: rest) = changeEvents st [x] ++ changeEvents (stateAfter st [x]) rest := by
  simp [changeEvents]

theorem endsTest_mem {s : State} {i : InputId} {a : Bool} {x : EventKind × Nat × Nat} (mem : x ∈ s.endsTest i a) : x = (.testEnd, 0, 1) := by
  unfold State.endsTest at mem
  split at mem
  · exact List.mem_singleton.mp mem
  · exact absurd mem (by simp)

theorem stateAfter_cons (st : OpState) (x : InputId × Bool) (rest : List (InputId × Bool)) :
    stateAfter st (x :: rest) = stateAfter (stateAfter st [x]) rest := rfl

/-- WATCH is left once. -/
theorem leaves_watch {α : Type} {o p q : OpState} (first : p = .watch → o = .watch) (later : q = .watch → p = .watch) (x y : α) :
    (if p = .watch ∧ q ≠ .watch then x else if o = .watch ∧ p ≠ .watch then x else y) = if o = .watch ∧ q ≠ .watch then x else y := by
  by_cases stays : p = .watch
  · simp [stays, first stays]
  · simp [stays, mt later stays]

/-- A changed level leads neither to LIMP nor to SLEEP nor back to WATCH. -/
theorem hears_outside {o : OpCtl} (outside : o.state ≠ .limp ∧ o.state ≠ .sleep) (i : InputId) (a : Bool) :
    (o.hears i a).state ≠ .limp ∧ (o.hears i a).state ≠ .sleep ∧ ((o.hears i a).state = .watch → o.state = .watch) := by
  obtain ⟨state⟩ := o
  cases i <;> cases a <;> cases state <;> simp [OpCtl.hears] at outside ⊢

/-- The changes that a window held are delivered one after another. -/
theorem deliverHeld_spec {s : State} (outside : s.op.state ≠ .limp ∧ s.op.state ≠ .sleep) (held : List (InputId × Bool)) :
    HeldDelivered s (s.deliverHeld held) held := by
  induction held generalizing s with
  | nil =>
    exact {
      state := rfl
      requested := (if_neg fun h => h.2 h.1).symm
      timer := (if_neg fun h => h.2 h.1).symm
      op := rfl
      outside := ⟨outside.1, outside.2, id⟩
      levels := fun _ => rfl
      report := ⟨[], rfl, by simp, by simp, by simp, fun _ => rfl⟩
      supply := rfl
      link := rfl
      freeCount := rfl
      meas := rfl
      subs := rfl
      scenes := rfl
      bases := fun _ => rfl
      lamps := fun _ => .refl _
      consistent := id }
  | cons x held ih =>
    obtain ⟨i, a⟩ := x
    have delivered := deliverLevel_spec s i a
    have untested := deliverLevel_untested s i a
    have split : s.deliverHeld ((i, a) :: held) = (s.deliverLevel i a).deliverHeld held := rfl
    rw [split]
    generalize s.deliverLevel i a = u at delivered untested
    obtain ⟨rest, requested, timer, flags⟩ := hears_rest s.op i a
    have state := hears_state s.op i a
    have moves : u.op.state ≠ .limp ∧ u.op.state ≠ .sleep ∧ (u.op.state = .watch → s.op.state = .watch) := by
      rw [delivered.op]
      exact hears_outside outside i a
    rw [← delivered.op] at rest requested timer flags state
    have later := ih ⟨moves.1, moves.2.1⟩
    generalize u.deliverHeld held = t at later
    obtain ⟨own, others, -⟩ := delivered.inRec
    obtain ⟨l, report, keys, inputs, quiet, plain⟩ := later.report
    obtain ⟨limp, latch⟩ := flags (.inr outside.1)
    exact {
      state := by rw [later.state, state, ← stateAfter_cons]
      requested := by
        rw [later.requested, requested]
        exact leaves_watch moves.2.2 later.outside.2.2 _ _
      timer := by
        rw [later.timer, timer]
        exact leaves_watch moves.2.2 later.outside.2.2 _ _
      op := by
        rw [later.op, rest, limp, latch]
      outside := ⟨later.outside.1, later.outside.2.1, fun h => moves.2.2 (later.outside.2.2 h)⟩
      levels := fun j => by
        rw [later.levels]
        by_cases same : j = i
        · have level : u.level j = a := by
            rw [same]
            exact congrArg InRec.level own
          rw [level, same]
          simp [levelAfter]
        · have level : u.level j = s.level j := congrArg InRec.level (others j same)
          rw [level]
          simp [levelAfter, Ne.symm same]
      report := by
        refine ⟨changeEvents s.op.state [(i, a)] ++ s.endsTest i a ++ l, ?_, ?_, ?_, ?_, ?_⟩
        · rw [report, State.raiseEach_append _ (_ ++ _)]
          exact raiseEach_report_congr delivered.report l
        · intro x mem
          rcases List.mem_append.mp mem with mem | mem
          · rcases List.mem_append.mp mem with mem | mem
            · obtain ⟨ordinary, key, -⟩ := changeEvents_one _ _ _ x mem
              exact ⟨ordinary, key⟩
            · rw [endsTest_mem mem]
              decide
          · exact keys x mem
        · intro x mem
          rcases List.mem_cons.mp mem with rfl | mem
          · exact ⟨(.input, inputNumber i, if a then 1 else 0), by simp [changeEvents], rfl, rfl⟩
          · obtain ⟨y, at_, same⟩ := inputs x mem
            exact ⟨y, List.mem_append_right _ at_, same⟩
        · intro watch x mem
          rcases List.mem_append.mp mem with mem | mem
          · rcases List.mem_append.mp mem with mem | mem
            · exact (changeEvents_one _ _ _ x mem).2.2 watch
            · rw [endsTest_mem mem]
              decide
          · exact quiet (fun h => watch (moves.2.2 h)) x mem
        · intro none
          have ends : s.endsTest i a = [] := if_neg fun h => by simpa [State.testRunning, none] using h.2.2.2
          rw [ends, List.append_nil, plain fun g => untested g (none g), state, ← changeEvents_cons]
      supply := later.supply.trans delivered.supply
      link := later.link.trans delivered.link
      freeCount := later.freeCount.trans delivered.freeCount
      meas := later.meas.trans delivered.meas
      subs := later.subs.trans delivered.subs
      scenes := later.scenes.trans delivered.scenes
      bases := fun f => (later.bases f).trans (delivered.bases f)
      lamps := fun ch => (delivered.lamps ch).trans (later.lamps ch)
      consistent := fun h => later.consistent (delivered.consistent (.inr h)) }

end Sys2Proof.Machine
end

section
/-! PROOF. The confirmation window of SLEEP (O45). -/

namespace Sys2Proof.Machine

theorem exec_sleepEdge (i : WakeInput) (s : State) : exec (.sleepEdge i) s = s.live (fun s =>
    if s.op.state = .sleep ∧ s.op.window = none then { s with op := { s.op with window := some s.openWindow } } else s) := rfl

theorem exec_windowTimeout (s : State) : exec .windowTimeout s = s.live (fun s =>
    if s.op.state = .sleep then { s with op := { s.op with window := none } } else s) := rfl

theorem exec_wakeConfirmed (i : WakeInput) (pins : PinLevels) (s : State) : exec (.wakeConfirmed i pins) s = s.live (fun s =>
    if s.op.state = .sleep then
      match s.op.window with
      | some w => s.confirmBy i pins w
      | none => s
    else s) := rfl

/-! ### A sample within the window (R155) -/

/-- A sample within the window changes an input's level. -/
def State.windowChanges (s : State) (pins : PinLevels) (w : Window) (i : InputId) : Bool :=
  s.inputSampled i && s.assertedAt i (pins.get i) != w.levels.get i && decide (3 ≤ w.counts.get i)

/-- The window after a sample of some inputs. -/
structure WindowSampled (s : State) (pins : PinLevels) (w v : Window) (l : List InputId) : Prop where
  levels : ∀ i ∈ l, v.levels.get i = (if s.windowChanges pins w i then s.assertedAt i (pins.get i) else w.levels.get i)
  counts : ∀ i ∈ l, v.counts.get i =
    (if s.inputSampled i = false then w.counts.get i
      else if s.assertedAt i (pins.get i) = w.levels.get i ∨ s.windowChanges pins w i = true then 0 else w.counts.get i + 1)
  others : ∀ i, i ∉ l → v.levels.get i = w.levels.get i ∧ v.counts.get i = w.counts.get i
  held : v.held = w.held ++ (l.filter (s.windowChanges pins w)).map (fun i => (i, s.assertedAt i (pins.get i)))
  runs : v.ignRun = w.ignRun ∧ v.hazRun = w.hazRun ∧ v.doorRun = w.doorRun

/-- The sample of one input within the window. -/
theorem windowInput_spec (s : State) (pins : PinLevels) (w : Window) (i : InputId) : WindowSampled s pins w (s.windowInput pins w i) [i] := by
  unfold State.windowInput
  dsimp only
  by_cases sampled : s.inputSampled i = true
  · by_cases agrees : s.assertedAt i (pins.get i) = w.levels.get i
    · have still : s.windowChanges pins w i = false := by simp [State.windowChanges, agrees]
      rw [if_pos sampled, if_pos agrees]
      refine ⟨?_, ?_, fun j h => ⟨rfl, PerInput.get_put_other _ _ (by simpa using h)⟩, by simp [still], rfl, rfl, rfl⟩
      · simp [still]
      · simp [sampled, agrees]
    · by_cases due : 3 ≤ w.counts.get i
      · have changes : s.windowChanges pins w i = true := by simp [State.windowChanges, sampled, agrees, due]
        rw [if_pos sampled, if_neg agrees, if_pos due]
        refine ⟨?_, ?_, fun j h => ⟨PerInput.get_put_other _ _ (by simpa using h), PerInput.get_put_other _ _ (by simpa using h)⟩,
          by simp [changes], rfl, rfl, rfl⟩
        · simp [changes]
        · simp [changes, sampled]
      · have still : s.windowChanges pins w i = false := by simp [State.windowChanges, due]
        rw [if_pos sampled, if_neg agrees, if_neg due]
        refine ⟨?_, ?_, fun j h => ⟨rfl, PerInput.get_put_other _ _ (by simpa using h)⟩, by simp [still], rfl, rfl, rfl⟩
        · simp [still]
        · simp [sampled, agrees, still]
  · have still : s.windowChanges pins w i = false := by simp [State.windowChanges, sampled]
    rw [if_neg sampled]
    exact ⟨by simp [still], by simp [sampled], fun j _ => ⟨rfl, rfl⟩, by simp [still], rfl, rfl, rfl⟩

/-- Each input is debounced by itself within the window. -/
theorem windowFold_spec (s : State) (pins : PinLevels) (w : Window) {l : List InputId} (each : l.Nodup) :
    WindowSampled s pins w (l.foldl (fun w i => s.windowInput pins w i) w) l := by
  induction l generalizing w with
  | nil => exact ⟨by simp, by simp, fun _ _ => ⟨rfl, rfl⟩, by simp, rfl, rfl, rfl⟩
  | cons i l ih =>
    obtain ⟨apart, each⟩ := List.nodup_cons.mp each
    have first := windowInput_spec s pins w i
    rw [List.foldl_cons]
    generalize s.windowInput pins w i = u at first
    have later := ih u each
    generalize l.foldl (fun w i => s.windowInput pins w i) u = v at later
    have ne {j : InputId} (h : j ∈ l) : j ∉ [i] := fun e => apart (List.mem_singleton.mp e ▸ h)
    have same {j : InputId} (h : j ∈ l) : s.windowChanges pins u j = s.windowChanges pins w j := by
      obtain ⟨level, count⟩ := first.others j (ne h)
      unfold State.windowChanges
      rw [level, count]
    have filtered : l.filter (s.windowChanges pins u) = l.filter (s.windowChanges pins w) := List.filter_congr fun j h => same h
    refine ⟨fun j h => ?_, fun j h => ?_, fun j h => ?_, ?_, ?_⟩
    · rcases List.mem_cons.mp h with rfl | h
      · rw [(later.others j apart).1, first.levels j (by simp)]
      · rw [later.levels j h, same h, (first.others j (ne h)).1]
    · rcases List.mem_cons.mp h with rfl | h
      · rw [(later.others j apart).2, first.counts j (by simp)]
      · rw [later.counts j h, same h, (first.others j (ne h)).1, (first.others j (ne h)).2]
    · obtain ⟨other, h⟩ := not_or.mp (fun e => h (List.mem_cons.mpr e))
      obtain ⟨level, count⟩ := later.others j h
      obtain ⟨level', count'⟩ := first.others j (by simpa using other)
      exact ⟨level.trans level', count.trans count'⟩
    · rw [later.held, first.held, filtered]
      cases changes : s.windowChanges pins w i <;> simp [changes]
    · obtain ⟨ign, haz, door⟩ := first.runs
      exact ⟨later.runs.1.trans ign, later.runs.2.1.trans haz, later.runs.2.2.trans door⟩

/-! ### The window closes with the part awake (R155) -/

theorem countsFold_spec (w : Window) (l : List InputId) (s : State) :
    l.foldl (fun s i => s.setInRec i { s.inRec i with count := w.counts.get i }) s =
      s.withInputs (l.foldl (fun s i => s.setInRec i { s.inRec i with count := w.counts.get i }) s).inputs ∧
    ∀ j, (l.foldl (fun s i => s.setInRec i { s.inRec i with count := w.counts.get i }) s).inRec j =
      { s.inRec j with count := if j ∈ l then w.counts.get j else (s.inRec j).count } := by
  induction l generalizing s with
  | nil => exact ⟨rfl, fun j => by simp⟩
  | cons i l ih =>
    obtain ⟨shape, recs⟩ := ih (s.setInRec i { s.inRec i with count := w.counts.get i })
    rw [List.foldl_cons]
    refine ⟨shape, fun j => ?_⟩
    rw [recs]
    by_cases own : j = i
    · rw [own, State.inRec_setInRec_same]
      simp
    · rw [State.inRec_setInRec_other _ _ own]
      simp [own]

/-- Taking the counts of a window writes the counts of the inputs alone. -/
theorem takeWindowCounts_spec (s : State) (w : Window) :
    s.takeWindowCounts w = s.withInputs (s.takeWindowCounts w).inputs ∧ (∀ j, (s.takeWindowCounts w).level j = s.level j) ∧
      ∀ j, ((s.takeWindowCounts w).inRec j).count = w.counts.get j := by
  obtain ⟨shape, recs⟩ := countsFold_spec w allInputs s
  have all (j : InputId) : j ∈ allInputs := by cases j <;> decide
  refine ⟨shape, fun j => (congrArg InRec.level (recs j)).trans rfl, fun j => ?_⟩
  exact (congrArg InRec.count (recs j)).trans (if_pos (all j))

/-- Other counts leave a consistent part consistent. -/
theorem Consistent.withInputs {s : State} {x : Inputs} (h : Consistent s) (levels : ∀ i, (s.withInputs x).level i = s.level i) :
    Consistent (s.withInputs x) := by
  have alike := besides_alike (m := s.bank.meas) levels
  exact h.alike alike.1 alike.2 (fun _ => ⟨rfl, rfl⟩) rfl

/-- A window that closes with the part awake: its changes are delivered, and its counts stand. -/
theorem closeWindow_spec {s : State} (outside : s.op.state ≠ .limp ∧ s.op.state ≠ .sleep) (w : Window) :
    HeldDelivered s (s.closeWindow (some w)) w.held ∧ ∀ j, ((s.closeWindow (some w)).inRec j).count = w.counts.get j := by
  have delivered := deliverHeld_spec outside w.held
  have closes : s.closeWindow (some w) = (s.deliverHeld w.held).takeWindowCounts w := rfl
  rw [closes]
  generalize s.deliverHeld w.held = u at delivered
  obtain ⟨shape, levels, counts⟩ := takeWindowCounts_spec u w
  generalize (u.takeWindowCounts w).inputs = x at shape
  rw [shape] at levels counts ⊢
  exact ⟨{ delivered with
    levels := fun j => (levels j).trans (delivered.levels j)
    consistent := fun h => (delivered.consistent h).withInputs levels }, counts⟩

/-- A settled cause before the delivery adds nothing to what it leaves. -/
theorem HeldDelivered.settled {s t : State} {held : List (InputId × Bool)} (h : HeldDelivered s.settle t held) : HeldDelivered s t held := by
  have keeps := settle_keeps s
  have consistent := settle_consistent s
  have untested := settle_untested s
  generalize s.settle = v at h keeps consistent untested
  have level (j : InputId) := level_congr keeps.inputs j
  obtain ⟨l, report, keys, inputs, quiet, plain⟩ := h.report
  have state : v.op.state = s.op.state := by rw [keeps.op]
  exact {
    state := by rw [h.state, state]
    requested := by rw [h.requested, keeps.op]
    timer := by rw [h.timer, keeps.op]
    op := by rw [← keeps.op, ← h.op]
    outside := ⟨h.outside.1, h.outside.2.1, fun e => state ▸ h.outside.2.2 e⟩
    levels := fun j => (h.levels j).trans (by rw [level j])
    report := ⟨l, report.trans (raiseEach_report_congr keeps.report l), keys, inputs, fun e => quiet (state ▸ e),
      fun none => state ▸ plain fun g => untested g (none g)⟩
    supply := h.supply.trans keeps.supply
    link := h.link.trans keeps.link
    freeCount := h.freeCount.trans keeps.freeCount
    meas := h.meas.trans keeps.meas
    subs := h.subs.trans keeps.subs
    scenes := h.scenes.trans keeps.scenes
    bases := fun f => (h.bases f).trans (keeps.fns f).2.2
    lamps := fun ch => (keeps.lamps ch).trans (h.lamps ch)
    consistent := fun _ => h.consistent consistent }

/-- What a window that closes hands on, as the report shows it: `first` stands before the changes that were held. -/
structure WindowReported (s t : State) (w : Window) (o : OpState) (first : List (EventKind × Nat × Nat)) : Prop where
  inputs : ∀ j, t.level j = levelAfter (s.level j) j w.held ∧ (t.inRec j).count = w.counts.get j
  noted : s.eventEnabled .input = true → s.report.events.length ≤ 4 →
    ∀ x ∈ w.held, ∃ r ∈ t.report.events, r.kind = .input ∧ r.subject = inputNumber x.1
  plain : (∀ g, (s.gauge g).state ≠ .test) → t.report = (s.raiseEach (first ++ changeEvents o w.held)).report
  woken : o ≠ .watch → ∀ subject detail, Reports (s.raiseEach first) .woken subject detail → Reports t .woken subject detail

/-- A part woken, settled, and its window closed. -/
theorem wokenWindow {s u : State} (outside : u.op.state ≠ .limp ∧ u.op.state ≠ .sleep) (w : Window) (inputs : u.inputs = s.inputs)
    {first : List (EventKind × Nat × Nat)} (said : u.report = (s.raiseEach first).report)
    (tests : ∀ g, (s.gauge g).state ≠ .test → (u.gauge g).state ≠ .test) {key : EventKind × Nat}
    (within : ∀ x ∈ first, x.1.urgent = false ∧ (x.1, x.2.1) ∈ insert key wakeKeys) :
    HeldDelivered u (u.settle.closeWindow (some w)) w.held ∧ Consistent (u.settle.closeWindow (some w)) ∧
      WindowReported s (u.settle.closeWindow (some w)) w u.op.state first := by
  have op := (settle_keeps u).op
  obtain ⟨spec, counts⟩ := closeWindow_spec (s := u.settle) (by rwa [op]) w
  have consistent := spec.consistent (settle_consistent u)
  have delivered := spec.settled
  generalize u.settle.closeWindow (some w) = t at delivered counts consistent
  refine ⟨delivered, consistent, ?_⟩
  obtain ⟨l, report, keys, noted, quiet, plain⟩ := delivered.report
  have told : t.report = (s.raiseEach (first ++ l)).report := by
    rw [report, State.raiseEach_append]
    exact raiseEach_report_congr said l
  exact {
    inputs := fun j => ⟨(delivered.levels j).trans (by rw [level_congr inputs j]), counts j⟩
    noted := fun enabled few x mem => by
      obtain ⟨y, at_, kind, subject⟩ := noted x mem
      have room : s.report.events.length + unnoted s.report.events (insert key wakeKeys) < 16 := by
        have all := unnoted_le s.report.events (insert key wakeKeys)
        have size : (insert key wakeKeys).card ≤ 10 := Finset.card_insert_le ..
        omega
      have stands := (raiseEach_noted (keys := insert key wakeKeys) (first ++ l) room fun z m => by
        rcases List.mem_append.mp m with m | m
        · exact within z m
        · exact ⟨(keys z m).1, Finset.mem_insert_of_mem (keys z m).2⟩).2 y (List.mem_append_right _ at_) (by rw [kind]; exact enabled)
      rw [← told, kind, subject] at stands
      exact stands
    plain := fun none => by rw [told, plain fun g => tests g (none g)]
    woken := fun awake subject detail h => by
      have stands := raiseEach_standing l h fun x m => ⟨(keys x m).1, quiet awake x m⟩
      rw [← State.raiseEach_append] at stands
      unfold Reports at stands ⊢
      rwa [told] }

end Sys2Proof.Machine
end

section
/-! PROOF. The confirmation window wakes the part (O45). -/

namespace Sys2Proof.Machine

/-- The window after a sample of every input (R155). -/
theorem windowSample_spec (s : State) (pins : PinLevels) (w : Window) :
    (∀ i, (s.windowSample pins w).levels.get i = (if s.windowChanges pins w i then s.assertedAt i (pins.get i) else w.levels.get i) ∧
      (s.windowSample pins w).counts.get i = (if s.inputSampled i = false then w.counts.get i
        else if s.assertedAt i (pins.get i) = w.levels.get i ∨ s.windowChanges pins w i = true then 0 else w.counts.get i + 1)) ∧
    (s.windowSample pins w).held = w.held ++ (allInputs.filter (s.windowChanges pins w)).map (fun i => (i, s.assertedAt i (pins.get i))) := by
  have all (i : InputId) : i ∈ allInputs := by cases i <;> decide
  obtain ⟨levels, counts, -, held, -⟩ := windowFold_spec s pins w (l := allInputs) (by decide)
  exact ⟨fun i => ⟨levels i (all i), counts i (all i)⟩, held⟩

/-- The runs of the inputs whose edges wake the part. -/
def Window.runOf (w : Window) : WakeInput → Nat
  | .ign => w.ignRun
  | .haz => w.hazRun
  | .door => w.doorRun

theorem confirms_iff {w : Window} {i : WakeInput} : w.confirms i = true ↔ 4 ≤ w.runOf i := by
  cases i <;> simp [Window.confirms, Window.runOf]

theorem windowSample_runOf (s : State) (pins : PinLevels) (w : Window) (i : WakeInput) :
    (s.windowSample pins w).runOf i = if s.assertedAt i.input (pins.get i.input) then w.runOf i + 1 else 0 := by
  cases i <;> rfl

/-- An input confirms the wake exactly where it is a candidate. -/
theorem mem_candidates {w : Window} {i : WakeInput} : i ∈ w.candidates ↔ 4 ≤ w.runOf i := by
  unfold Window.candidates
  rw [List.mem_filter, confirms_iff]
  cases i <;> simp

theorem chooseCause_mem (k : Nat) (c : WakeInput) (rest : List WakeInput) : chooseCause k c rest ∈ c :: rest := by
  cases rest with
  | nil => simp [chooseCause]
  | cons d rest =>
    unfold chooseCause
    have within : Config.wakeTie k % (rest.length + 2) < (c :: d :: rest).length := Nat.mod_lt _ (by omega)
    dsimp only
    rw [List.getElem?_eq_getElem within, Option.getD_some]
    exact List.getElem_mem within

/-! ### The wakes (R154 to R156) -/

/-- The part as a wake by a cause leaves SLEEP for a state, before its cause is settled. -/
def State.woken (s : State) (new : OpState) (cause : WakeCause) : State :=
  { s with
    bank := { s.bank with intervalOpen := false, averagesReady := false }
    op := { s.op with state := new, sleepRequested := false, silenceTimer := 0, window := none }
    report := ((s.raise .woken 0 cause.code).raise .state 0 new.code).report }

theorem wakeTo_woken {s : State} (asleep : s.op.state = .sleep) (new : OpState) (cause : WakeCause) : s.wakeTo new cause = s.woken new cause :=
  wakeTo_asleep (u := s) cause asleep rfl

theorem confirmWake_eq {s : State} (asleep : s.op.state = .sleep) (i : WakeInput) (w : Window) :
    s.confirmWake i w = (s.woken (wakeStateOf i) (wakeCauseOf i)).settle.closeWindow (some w) := by
  unfold State.confirmWake
  rw [wakeTo_woken asleep]

theorem rxWakes_eq {s : State} {w : Window} (asleep : s.op.state = .sleep) (opened : s.op.window = some w) :
    s.rxWakes = (State.woken { s with link := { s.link with receiverPaused := true } } .park .rx).settle.closeWindow (some w) := by
  have woken : State.wakeTo { s with link := { s.link with receiverPaused := true } } .park .rx =
    State.woken { s with link := { s.link with receiverPaused := true } } .park .rx := wakeTo_woken (by exact asleep) ..
  unfold State.rxWakes
  dsimp only
  rw [opened, woken]

/-- The part as it returns from SLEEP to WATCH, before its cause is settled. -/
def State.watchAgain (s : State) : State :=
  { s with
    bank := { s.bank with intervalOpen := false, averagesReady := false }
    op := { s.op with state := .watch, window := none }
    report := (s.raise .state 0 3).report }

theorem returnToWatch_opens {s : State} {w : Window} (asleep : s.op.state = .sleep) (opened : s.op.window = some w) :
    s.returnToWatch = s.watchAgain.settle.closeWindow (some w) := by
  have back : s.backToWatch = s.watchAgain.settle := backToWatch_eq (u := s) asleep rfl
  unfold State.returnToWatch
  rw [opened, back]

/-- A wake closes the window: the part is awake, and what the window held has moved it on. -/
theorem woken_window {s p : State} (same : p.report = s.report ∧ p.inputs = s.inputs ∧ p.gauges = s.gauges) {new : OpState}
    (awake : new = .drive ∨ new = .park) (cause : WakeCause) (w : Window) :
    HeldDelivered (p.woken new cause) ((p.woken new cause).settle.closeWindow (some w)) w.held ∧
      WindowReported s ((p.woken new cause).settle.closeWindow (some w)) w new [(.woken, 0, cause.code), (.state, 0, new.code)] := by
  obtain ⟨report, inputs, gauges⟩ := same
  have said : (p.woken new cause).report = (s.raiseEach [(.woken, 0, cause.code), (.state, 0, new.code)]).report :=
    raiseEach_report_congr report [(.woken, 0, cause.code), (.state, 0, new.code)]
  have tests (g : GaugeId) (h : (s.gauge g).state ≠ .test) : ((p.woken new cause).gauge g).state ≠ .test := by
    have same : (p.woken new cause).gauge g = s.gauge g := congrArg (fun x : GaugeUnit => x.gauges[g]) gauges
    rwa [same]
  obtain ⟨delivered, -, reported⟩ := wokenWindow (s := s) (u := p.woken new cause) (key := (.woken, 0))
    (by rcases awake with rfl | rfl <;> exact ⟨by simp [State.woken], by simp [State.woken]⟩) w inputs said tests (by
      intro x mem
      simp only [List.mem_cons, List.not_mem_nil, or_false] at mem
      rcases mem with rfl | rfl <;> exact ⟨rfl, by simp [wakeKeys]⟩)
  exact ⟨delivered, reported⟩

/-- The wake by an input that confirms it (R155). -/
theorem exec_wakeConfirmed_confirms {s : State} {i : WakeInput} {pins : PinLevels} {w : Window} (running : s.op.resetHeld = false)
    (asleep : s.op.state = .sleep) (opened : s.op.window = some w) (confirms : 4 ≤ (s.windowSample pins w).runOf i) :
    exec (.wakeConfirmed i pins) s = .next (s.confirmWake i (s.windowSample pins w)) := by
  rw [exec_runs running (exec_wakeConfirmed i pins s), if_pos asleep, opened]
  dsimp only
  unfold State.confirmBy
  rw [if_pos (confirms_iff.mpr confirms)]

theorem exec_inputSample_window {s : State} {pins : PinLevels} {w : Window} (running : s.op.resetHeld = false)
    (asleep : s.op.state = .sleep) (opened : s.op.window = some w) : exec (.inputSample pins) s = .next (s.sampleInWindow pins w) := by
  rw [exec_runs running (exec_inputSample pins s)]
  unfold State.sampleInputs
  rw [if_pos asleep, opened]

/-- A wake's WOKEN stands behind its STATE. -/
theorem raise_wakes {s : State} (enabled : s.eventEnabled .woken = true) (room : s.report.events.length < 16) (cause : WakeCause) (new : OpState) :
    Reports (s.raiseEach [(.woken, 0, cause.code), (.state, 0, new.code)]) .woken 0 cause.code := by
  have fits : cause.code ≤ 65535 := by cases cause <;> decide
  refine raiseEach_standing (s := s.raise .woken 0 cause.code) [(.state, 0, new.code)] (raise_reports room enabled 0 fits) fun x mem => ?_
  rw [List.mem_singleton.mp mem]
  exact ⟨rfl, by simp⟩

/-- Settles O45: a window is folded over the inputs, and what it held is delivered one change after another behind the wake. -/
theorem windowsConfirmTheWake : Obligations.WindowsConfirmTheWake := by
  unfold Obligations.WindowsConfirmTheWake
  refine ⟨fun s i running asleep => ⟨fun closed => ?_, fun opened => ?_, ?_⟩, ?_, ?_, ?_, ?_, ?_⟩
  · refine ⟨s.openWindow, ?_, rfl, rfl, rfl, rfl, fun j => ?_⟩
    · rw [exec_runs running (exec_sleepEdge i s), if_pos ⟨asleep, closed⟩]
    · cases j <;> exact ⟨rfl, rfl⟩
  · rw [exec_runs running (exec_sleepEdge i s), if_neg fun h => opened h.2]
  · rw [exec_runs running (exec_windowTimeout s), if_pos asleep]
  · intro s pins w running asleep opened v a sampled changes
    obtain ⟨recs, held⟩ := windowSample_spec s pins w
    refine ⟨recs, held, rfl, rfl, rfl, fun ign haz door => ?_⟩
    have none : v.candidates = [] := List.eq_nil_iff_forall_not_mem.mpr fun i mem => by
      have run := mem_candidates.mp mem
      cases i <;> simp only [Window.runOf] at run <;> omega
    rw [exec_inputSample_window running asleep opened]
    unfold State.sampleInWindow
    dsimp only
    rw [show (s.windowSample pins w).candidates = [] from none]
  · intro s i pins w running asleep opened run asserted v
    have confirms : 4 ≤ v.runOf i := by
      have three : w.runOf i = 3 := by cases i <;> exact run
      rw [show v.runOf i = _ from windowSample_runOf s pins w i, if_pos asserted, three]
    have runs := exec_wakeConfirmed_confirms running asleep opened confirms
    have alone : v.candidates = [i] → exec (.inputSample pins) s = .next (s.confirmWake i v) := fun only => by
      rw [exec_inputSample_window running asleep opened]
      unfold State.sampleInWindow
      dsimp only
      rw [show (s.windowSample pins w).candidates = [i] from only]
    have awake : wakeStateOf i = .drive ∨ wakeStateOf i = .park := by cases i <;> simp [wakeStateOf]
    obtain ⟨held, reported⟩ := woken_window (s := s) (p := s) ⟨rfl, rfl, rfl⟩ awake (wakeCauseOf i) v
    rw [← confirmWake_eq asleep] at held reported
    change exec (.wakeConfirmed i pins) s = .next (s.confirmWake i v) at runs
    generalize s.confirmWake i v = t at runs alone held reported
    have op := held.op
    have wakeState : wakeStateOf i = if i = .ign then .drive else .park := by cases i <;> rfl
    refine ⟨t, runs, ?_, ?_, ?_, ?_, reported.inputs, fun enabled room => ?_, reported.noted, fun plain => ?_, alone, held.supply, held.link, held.scenes, held.bases⟩
    · rw [held.state, wakeState]
      rfl
    · rw [held.requested]
      exact ite_self _
    · rw [held.timer]
      exact ite_self _
    · rw [op]
      rfl
    · obtain ⟨r, mem, kind, -, detail⟩ := reported.woken (by rcases awake with e | e <;> simp [e]) 0 _ (raise_wakes enabled room _ _)
      exact ⟨r, mem, kind, detail.trans (by cases i <;> rfl)⟩
    · have told := reported.plain plain
      rw [wakeState] at told
      cases i <;> exact told
  · intro s pins w running asleep opened several
    obtain ⟨c, d, rest, candidates⟩ : ∃ c d rest, (s.windowSample pins w).candidates = c :: d :: rest := by
      match h : (s.windowSample pins w).candidates with
      | [] | [_] => rw [h] at several; simp at several
      | c :: d :: rest => exact ⟨c, d, rest, rfl⟩
    have chosen := chooseCause_mem s.freeCount c (d :: rest)
    rw [← candidates] at chosen
    have runs : exec (.inputSample pins) s =
        .next (State.confirmWake { s with freeCount := s.freeCount + 1 } (chooseCause s.freeCount c (d :: rest)) (s.windowSample pins w)) := by
      rw [exec_inputSample_window running asleep opened]
      unfold State.sampleInWindow
      dsimp only
      rw [candidates]
    generalize chooseCause s.freeCount c (d :: rest) = i at chosen runs
    have confirmed : exec (.wakeConfirmed i pins) { s with freeCount := s.freeCount + 1 } =
        .next (State.confirmWake { s with freeCount := s.freeCount + 1 } i (s.windowSample pins w)) :=
      exec_wakeConfirmed_confirms (s := { s with freeCount := s.freeCount + 1 }) running asleep opened (mem_candidates.mp chosen)
    have awake : wakeStateOf i = .drive ∨ wakeStateOf i = .park := by cases i <;> simp [wakeStateOf]
    obtain ⟨held, -⟩ := woken_window (s := s) (p := { s with freeCount := s.freeCount + 1 }) ⟨rfl, rfl, rfl⟩ awake (wakeCauseOf i)
      (s.windowSample pins w)
    rw [← confirmWake_eq (by exact asleep)] at held
    generalize State.confirmWake { s with freeCount := s.freeCount + 1 } i (s.windowSample pins w) = t at runs confirmed held
    refine ⟨t, runs, held.freeCount, ?_, ?_, ?_, i, chosen, confirmed⟩
    · obtain ⟨limp, sleep, watch⟩ := held.outside
      have left : t.op.state ≠ .watch := fun h => by
        have := watch h
        rcases awake with e | e <;> simp [State.woken, e] at this
      cases state : t.op.state <;> simp [state] at limp sleep left ⊢
    · rw [held.requested]
      exact ite_self _
    · rw [held.op]
      rfl
  · intro s w running asleep opened
    obtain ⟨held, reported⟩ := woken_window (s := s) (p := { s with link := { s.link with receiverPaused := true } }) ⟨rfl, rfl, rfl⟩
      (.inr rfl) .rx w
    have runs : exec .rxWake s = .next s.rxWakes := by rw [exec_runs running (exec_rxWake s), if_pos asleep]
    rw [← rxWakes_eq asleep opened] at held reported
    generalize s.rxWakes = t at runs held reported
    refine ⟨t, runs, held.state, ?_, ?_, ?_, held.link, reported.inputs, reported.noted, reported.plain⟩
    · rw [held.requested]
      exact ite_self _
    · rw [held.timer]
      exact ite_self _
    · rw [held.op]
      rfl
  · intro s w id running asleep opened expiring scenes lights
    have runs : exec (.sceneExpiry id) s = .next (s.expireScene id) := by
      rw [exec_runs running (exec_sceneExpiry id s), if_pos expiring]
    have expires := expireScene_eq (s := s) (id := id) (scenes := scenes) rfl rfl
    by_cases lit : lights
    · rw [if_pos ⟨asleep, lit⟩, returnToWatch_opens (w := w) (by exact asleep) (by exact opened)] at expires
      obtain ⟨held, consistent, reported⟩ := wokenWindow (s := s)
        (u := State.watchAgain { s.setScenes scenes with report := (s.raise .sceneEnd id.toNat 0).report }) (key := (.sceneEnd, id.toNat))
        ⟨by simp [State.watchAgain], by simp [State.watchAgain]⟩ w rfl
        (first := [(.sceneEnd, id.toNat, 0), (.state, 0, 3)]) (raise_report_congr (by rfl) ..) (fun g h => h) (by
          intro x mem
          simp only [List.mem_cons, List.not_mem_nil, or_false] at mem
          rcases mem with rfl | rfl
          · exact ⟨rfl, Finset.mem_insert_self ..⟩
          · exact ⟨rfl, Finset.mem_insert_of_mem (by decide)⟩)
      rw [← expires] at held consistent reported
      generalize s.expireScene id = t at runs held consistent reported
      refine ⟨t, runs, held.scenes, fun _ => ⟨held.state, ?_, reported.inputs, reported.noted, reported.plain, ?_, held.supply, held.link,
        held.meas, held.subs, held.lamps, held.bases⟩, fun dark => absurd lit dark, consistent⟩
      · rw [held.op]
        rfl
      · have requested : t.op.sleepRequested = if t.op.state = .watch then s.op.sleepRequested else false := by
          rw [held.requested]
          by_cases stays : t.op.state = .watch <;> simp [stays, State.watchAgain, State.setScenes]
        have timer : t.op.silenceTimer = if t.op.state = .watch then s.op.silenceTimer else 0 := by
          rw [held.timer]
          by_cases stays : t.op.state = .watch <;> simp [stays, State.watchAgain, State.setScenes]
        rw [← requested, ← timer]
        exact held.op
    · rw [if_neg fun h => lit h.2] at expires
      have keeps := settle_keeps { s.setScenes scenes with report := (s.raise .sceneEnd id.toNat 0).report }
      have consistent := settle_consistent { s.setScenes scenes with report := (s.raise .sceneEnd id.toNat 0).report }
      rw [← expires] at keeps consistent
      generalize s.expireScene id = t at runs keeps consistent
      refine ⟨t, runs, keeps.scenes, fun h => absurd h lit, fun _ => ⟨keeps.op, keeps.inputs, keeps.report, ?_⟩, consistent⟩
      rw [keeps.report]
      exact keeps

end Sys2Proof.Machine
end

section
/-! PROOF. What functions resolve to, and what channels hold (O12). -/

namespace Sys2Proof.Machine

/-! ### The gates (R51 to R54) -/

/-- The ignition gate is shut for an ignition-fed function (R51). -/
def State.shutOff (s : State) (f : Fn) : Prop :=
  (s.fnRec f).ignitionFed = true ∧ s.op.state ≠ .drive ∧ (s.op.state = .limp → f = .fan ∨ s.level .ign = false)

theorem shutOff_iff {s : State} {f : Fn} : s.shutOff f ↔ ((s.fnRec f).ignitionFed && !s.ignitionGateOpen f) = true := by
  unfold State.shutOff State.ignitionGateOpen
  cases s.op.state <;> simp

/-- The shed gate affects a class at a level where the two together reach 4 (R52). -/
theorem shedAffects_iff {cls l : Nat} : shedAffects cls l = true ↔ 1 ≤ cls ∧ 4 ≤ cls + l := by
  unfold shedAffects
  simp only [Bool.and_eq_true, decide_eq_true_eq]
  omega

/-- What the shed gate lets through (R52 to R54). -/
theorem shedValue_eq (f : Fn) (cls l v : Nat) : shedValue f cls l v =
    if f = .panel then (if v = 0 then 0 else min v (max 10 ((v + 1) / 2)))
    else if f = .fan then v - (l - (4 - cls) + 1)
    else 0 := by
  cases f <;> simp [shedValue, panelShed, fanReduction]

/-- The value behind both gates, gate by gate (R51 to R54). -/
theorem gatedValue_cases (s : State) (f : Fn) :
    (s.shutOff f → s.gatedValue f = (0, if s.openValue f = 0 then .none else .ignOff)) ∧
    (¬ s.shutOff f → ¬ (1 ≤ (s.fnRec f).cls ∧ 4 ≤ (s.fnRec f).cls + s.supply.l) → s.gatedValue f = (s.openValue f, .none)) ∧
    (¬ s.shutOff f → (1 ≤ (s.fnRec f).cls ∧ 4 ≤ (s.fnRec f).cls + s.supply.l) →
      s.gatedValue f = (shedValue f (s.fnRec f).cls s.supply.l (s.openValue f),
        if shedValue f (s.fnRec f).cls s.supply.l (s.openValue f) < s.openValue f then .shed else .none)) := by
  unfold State.gatedValue
  dsimp only
  rw [shutOff_iff, ← shedAffects_iff]
  refine ⟨fun shut => if_pos shut, fun opened clear => ?_, fun opened affects => ?_⟩
  · rw [if_neg opened, if_neg clear]
  · rw [if_neg opened, if_pos affects]

/-- The gate that lowers a value gives its reason (R48). -/
theorem gatedValue_reason (s : State) (f : Fn) : (s.gatedValue f).2 =
    if (s.gatedValue f).1 < s.openValue f then (if (s.fnRec f).ignitionFed = true ∧ s.ignitionGateOpen f = false then .ignOff else .shed) else .none := by
  obtain ⟨shut, clear, sheds⟩ := gatedValue_cases s f
  have gate : s.shutOff f ↔ (s.fnRec f).ignitionFed = true ∧ s.ignitionGateOpen f = false := by simp [shutOff_iff]
  by_cases closed : s.shutOff f
  · rw [shut closed, if_pos (gate.mp closed)]
    by_cases zero : s.openValue f = 0
    · simp [zero]
    · simp [zero, Nat.pos_of_ne_zero zero]
  · by_cases affected : 1 ≤ (s.fnRec f).cls ∧ 4 ≤ (s.fnRec f).cls + s.supply.l
    · rw [sheds closed affected, if_neg (mt gate.mpr closed)]
    · rw [clear closed affected]
      simp

/-! ### The scenes (R49) -/

/-- A scene names the value of a function it lists once (R49). -/
theorem valueOf_listed {sc : Scene} {f : Fn} {v : Nat} (mem : (f, v) ∈ sc.entries) (each : (sc.entries.map (·.1)).Nodup) :
    sc.valueOf f = some v := by
  have found : (sc.entries.find? (fun e => e.1 == f)).isSome := List.find?_isSome.mpr ⟨(f, v), mem, by simp⟩
  obtain ⟨e, at_⟩ := Option.isSome_iff_exists.mp found
  have named : e.1 = f := by simpa using List.find?_some at_
  have same : e = (f, v) := List.inj_on_of_nodup_map each (List.mem_of_find?_eq_some at_) mem named
  unfold Scene.valueOf
  rw [at_, same]
  rfl

theorem valueOf_unlisted {sc : Scene} {f : Fn} (absent : f ∉ sc.entries.map (·.1)) : sc.valueOf f = none := by
  unfold Scene.valueOf
  rw [Option.map_eq_none_iff, List.find?_eq_none]
  intro e mem same
  exact absent (List.mem_map.mpr ⟨e, mem, by simpa using same⟩)

theorem newestScene_none {scenes : List Scene} {f : Fn} (absent : ∀ sc ∈ scenes, f ∉ sc.entries.map (·.1)) : newestScene scenes f = none := by
  unfold newestScene
  rw [List.findSome?_eq_none_iff]
  exact fun sc mem => valueOf_unlisted (absent sc (List.mem_reverse.mp mem))

/-- The newest scene that names a function gives its value (R49). -/
theorem newestScene_some {older newer : List Scene} {sc : Scene} {f : Fn} {v : Nat} (later : ∀ x ∈ newer, f ∉ x.entries.map (·.1))
    (mem : (f, v) ∈ sc.entries) (each : (sc.entries.map (·.1)).Nodup) : newestScene (older ++ sc :: newer) f = some v := by
  unfold newestScene
  rw [List.reverse_append, List.reverse_cons, List.append_assoc, List.findSome?_append]
  have first : newer.reverse.findSome? (fun sc => sc.valueOf f) = none := newestScene_none later
  rw [first, List.findSome?_append]
  simp [valueOf_listed mem each]

/-! ### What the channels hold (R78 to R80, Table 4-4) -/

/-- The value that Table 4-4 gives an indicator of a side. -/
def State.indicated (s : State) (side : Sides) (brake : Nat) : Nat :=
  match s.flash.phase with
  | .idle => brake
  | .on => if s.flash.active = side ∨ s.flash.active = .both then 100 else brake
  | .off => if s.flash.active = side ∨ s.flash.active = .both then 0 else brake

/-- An indicator channel's demand by its side (R78, R79). -/
theorem flashValue_indicator {s : State} (flash : FlashOk s) {ch : LampId} {f : Fn} {side : Sides}
    (sided : f = .indL ∧ side = .left ∨ f = .indR ∧ side = .right) (serves : s.serving ch = some f) :
    s.flashValue ch f = s.indicated side (if s.op.state ≠ .limp ∧ (s.lamp ch).cfg.stopTurn = true then (s.fnRec .brake).resolved else 0) := by
  have stopTurn : s.stopTurnChannel ch = true ↔ s.op.state ≠ .limp ∧ (s.lamp ch).cfg.stopTurn = true := by
    unfold State.stopTurnChannel
    rcases sided with ⟨rfl, -⟩ | ⟨rfl, -⟩ <;> simp [serves]
  have active : sideActive s.flash.active f = true ↔ s.flash.active = side ∨ s.flash.active = .both := by
    rcases sided with ⟨rfl, rfl⟩ | ⟨rfl, rfl⟩ <;> simp [sideActive]
  have other : f ≠ .telltale := by rcases sided with ⟨rfl, -⟩ | ⟨rfl, -⟩ <;> simp
  have idle := flash.idle
  have none : side ≠ .none := by rcases sided with ⟨-, rfl⟩ | ⟨-, rfl⟩ <;> simp
  unfold State.flashValue State.indicated
  rw [if_neg other]
  simp only [active, stopTurn]
  cases phase : s.flash.phase with
  | idle =>
    obtain ⟨inactive, -⟩ := idle phase
    rw [inactive, if_neg (by simp [none.symm])]
  | on => simp
  | off => simp

/-- A function whose channels the flash engine does not drive hands them what it resolves to (R48). -/
theorem carriedReason_eq (v : Nat) (r : Reason) : carriedReason v r = if v = 0 ∧ (r = .ignOff ∨ r = .shed) then r else .demand := by
  unfold carriedReason
  by_cases zero : v = 0 <;> cases r <;> simp [zero]

/-- Settles O12: a consistent part holds what the resolver and Table 4-4 give, gate by gate. -/
theorem functionsResolveThroughTheGates : Obligations.FunctionsResolveThroughTheGates := by
  unfold Obligations.FunctionsResolveThroughTheGates
  constructor
  · intro s consistent flash ch c brake sideValue
    obtain ⟨demand, reason⟩ := consistent.demands ch
    have want : ∀ f, s.serving ch = some f → s.wantOf ch = if f.flashDrivenFn then (s.flashValue ch f, .demand)
        else ((s.fnRec f).resolved, carriedReason (s.fnRec f).resolved (s.fnRec f).reason) := fun f serves => by
      unfold State.wantOf
      rw [serves]
    refine ⟨fun serves => ?_, fun serves => ?_, fun serves => ?_, fun serves => ?_, fun f serves left right telltale => ?_⟩
    · rw [want _ serves] at demand reason
      exact ⟨demand.trans (flashValue_indicator flash (.inl ⟨rfl, rfl⟩) serves), reason⟩
    · rw [want _ serves] at demand reason
      exact ⟨demand.trans (flashValue_indicator flash (.inr ⟨rfl, rfl⟩) serves), reason⟩
    · rw [want _ serves] at demand reason
      exact ⟨demand, reason⟩
    · have none : s.wantOf ch = (0, .demand) := by
        unfold State.wantOf
        rw [serves]
      rw [none] at demand reason
      exact ⟨demand, reason⟩
    · have driven : f.flashDrivenFn = false := by cases f <;> simp at left right telltale <;> rfl
      rw [want _ serves, driven] at demand reason
      exact ⟨demand, reason.trans (carriedReason_eq ..)⟩
  · intro s consistent
    refine ⟨?_, ?_, fun f interior brake => ?_, fun on => if_pos on, rfl, fun f named => ?_, fun f v older sc newer free list later mem each => ?_⟩
    · intro f left right telltale maintell r v shut affected
      obtain ⟨resolved, reason⟩ := consistent.resolved f
      have gated : s.resolve f = s.gatedValue f := by cases f <;> simp at left right telltale maintell <;> rfl
      rw [gated] at resolved reason
      obtain ⟨closed, clear, sheds⟩ := gatedValue_cases s f
      refine ⟨fun h => ?_, fun h k => ?_, fun h k => ?_, ?_⟩
      · exact resolved.trans (by rw [closed h])
      · exact resolved.trans (by rw [clear h k])
      · exact resolved.trans (by rw [sheds h k, shedValue_eq])
      · refine reason.trans ?_
        unfold State.resolvedReason
        rw [gatedValue_reason, ← resolved]
        simp only [Bool.and_eq_true, bne_iff_ne]
        rfl
    · rw [(consistent.resolved .maintell).1, (consistent.resolved .main).1]
      rfl
    · cases f with
      | interior => exact absurd rfl interior
      | brake => exact if_neg (by simp [brake rfl])
      | _ => rfl
    · unfold State.sceneValue
      rcases named with fixed | absent
      · rw [if_pos fixed]
        rfl
      · rw [newestScene_none absent]
        exact ite_self _
    · unfold State.sceneValue
      rw [if_neg (by simp [free]), list, newestScene_some later mem each]
      rfl

end Sys2Proof.Machine
end

section
/-! PROOF. What the part does to the body link (O22). -/

namespace Sys2Proof.Machine

/-! ### Operations that leave the body link alone -/

theorem link_ite {c : Prop} [Decidable c] {t u : State} {l : Link} (first : t.link = l) (second : u.link = l) :
    (if c then t else u).link = l := by
  split
  · exact first
  · exact second

theorem link_foldl {α : Type} {f : State → α → State} (keeps : ∀ s a, (f s a).link = s.link) (l : List α) (s : State) :
    (l.foldl f s).link = s.link := by
  induction l generalizing s with
  | nil => rfl
  | cons a l ih => exact (ih (f s a)).trans (keeps s a)

theorem settle_link (s : State) : s.settle.link = s.link := (settle_keeps s).link

theorem arbitrate_link (s : State) : s.arbitrate.link = s.link := (arbitrate_keeps s).link

theorem examine_link (s : State) (occasion : LampId × LampId → Bool) : (s.examine occasion).link = s.link :=
  (examine_examined s occasion).link

theorem setLampOut_link (s : State) (ch : LampId) (out : Bool) (v : Nat) : (s.setLampOut ch out v).link = s.link :=
  link_ite rfl (raise_link ..)

/-! ### Samples -/

theorem storeSample_link (s : State) (ch : ChanId) (sample duty : Nat) : (s.storeSample ch sample duty).link = s.link := link_ite rfl rfl

theorem lampTrips_link (s : State) (ch : LampId) (v : Nat) : (s.lampTrips ch v).link = s.link := by
  refine link_ite (raise_link ..) ?_
  rw [examine_link, raise_link, raise_link]
  rfl

theorem lampActs_link (s : State) (ch : LampId) (v : Nat) : (s.lampActs ch v).link = s.link := by
  have judged : (s.judgeSample ch v).link = s.link :=
    link_ite (link_ite rfl rfl) (link_ite (link_ite (setLampOut_link ..) rfl) rfl)
  exact link_ite ((lampTrips_link ..).trans judged) judged

theorem lampSample_link (s : State) (ch : LampId) (v : Nat) : (s.lampSample ch v).link = s.link :=
  (lampActs_link ..).trans (storeSample_link ..)

theorem readBack_link (s : State) (ch : LampId) (v : Nat) : (s.readBack ch v).link = s.link := link_ite (raise_link ..) rfl

theorem fanActs_link (s : State) (v : Nat) : (s.fanActs v).link = s.link := by
  refine link_ite ?_ (link_ite rfl rfl)
  exact link_ite (raise_link { s with fan := s.fan.stop } ..) ((raise_link ..).trans (raise_link { s with fan := s.fan.stop } ..))

theorem fanSample_link (s : State) (v : Nat) : (s.fanSample v).link = s.link :=
  link_ite ((fanActs_link ..).trans (storeSample_link ..)) rfl

theorem abortTest_link (s : State) : s.abortTest.link = s.link := raise_link ..

theorem gaugeActs_link (s : State) (g : GaugeId) (v : Nat) : (s.gaugeActs g v).link = s.link :=
  link_ite (link_ite rfl (link_ite ((abortTest_link _).trans (raise_link ..)) (raise_link ..))) rfl

theorem gaugeSample_link (s : State) (g : GaugeId) (v : Nat) : (s.gaugeSample g v).link = s.link :=
  link_ite ((gaugeActs_link ..).trans (storeSample_link ..)) rfl

theorem storeTaken_link (s : State) (ch : ChanId) (taken : Taken) (reading : Nat) : (s.storeTaken ch taken reading).link = s.link := by
  cases taken with
  | current duty => exact storeSample_link s ch reading duty
  | line | nothing => rfl

theorem readingActs_link (s : State) (ch : ChanId) (taken : Taken) (reading : Nat) : (s.readingActs ch taken reading).link = s.link := by
  cases taken with
  | current duty =>
    show (s.sampleActs ch reading).link = s.link
    unfold State.sampleActs
    split
    · exact lampActs_link ..
    · exact link_ite (fanActs_link ..) (gaugeActs_link ..)
  | line =>
    unfold State.readingActs
    dsimp only
    split
    · exact readBack_link ..
    · rfl
  | nothing => rfl

theorem currentSample_link (s : State) (readings : Vector (Option Nat) 17) : (s.currentSample readings).link = s.link :=
  link_ite rfl ((link_foldl (fun _ _ => (settle_link _).trans (readingActs_link ..)) _ _).trans
    (link_foldl (fun _ _ => storeTaken_link ..) _ s))

/-! ### The flash engine, the gauges and the supply monitor -/

theorem decidePhase_link (s : State) (ch : LampId) : (s.decidePhase ch).link = s.link := by
  unfold State.decidePhase
  split
  · split
    · exact setLampOut_link ..
    · rfl
  · rfl

theorem endOnPhase_link (s : State) : s.endOnPhase.link = s.link := by
  have decided := link_foldl decidePhase_link allLamps s
  unfold State.endOnPhase
  dsimp only
  rw [settle_link]
  generalize allLamps.foldl State.decidePhase s = u at decided ⊢
  exact decided

theorem setFlash_link (s : State) (fl : Flash) : (s.setFlash fl).link = s.link := by
  have restarted := link_foldl (f := State.restartIfCeased fl) (fun _ _ => link_ite rfl rfl) allLamps s
  unfold State.setFlash
  generalize allLamps.foldl (State.restartIfCeased fl) s = u at restarted ⊢
  exact restarted

theorem endOffPhase_link (s : State) : s.endOffPhase.link = s.link := by
  unfold State.endOffPhase
  rw [settle_link]
  exact link_ite (setFlash_link ..) (onStart_keeps ..).link

theorem mapGauges_link (f : Gauge → Gauge) (s : State) :
    (allGauges.foldl (fun s g => s.setGauge g (f (s.gauge g))) s).link = s.link :=
  link_foldl (f := fun s g => s.setGauge g (f (s.gauge g))) (fun _ _ => rfl) ..

theorem gaugeUpdateOne_link (n : Nat) (s : State) (g : GaugeId) : (s.gaugeUpdateOne n g).link = s.link := by
  have compensated (u : State) : (u.gaugeCompensate g).link = u.link := link_ite rfl (link_ite rfl (raise_link ..))
  have sensed : (s.gaugeSense g).link = s.link := link_ite (link_ite rfl (raise_link ..)) rfl
  unfold State.gaugeUpdateOne
  split
  · exact link_ite ((compensated _).trans sensed) rfl
  · exact (compensated _).trans sensed
  · rfl
  · rfl

theorem gaugeMark_link (s : State) : s.gaugeMark.link = s.link := by
  have advanced : (if s.testRunning then { s with gauges := { s.gauges with testStep := s.gauges.testStep + 1 } } else s).link = s.link :=
    link_ite rfl rfl
  have updated := (link_foldl (fun u g => gaugeUpdateOne_link (s.gauges.testStep + 1) u g) allGauges _).trans advanced
  have cleared := (mapGauges_link (fun x => { x with samples := [] }) _).trans updated
  have finished (u : State) : u.finishTest.link = u.link := (raise_link ..).trans (mapGauges_link Gauge.endTest u)
  exact link_ite ((finished _).trans cleared) cleared

theorem supplySampled_link (s : State) (bat chg : Nat) : (s.supplySampled bat chg).link = s.link := by
  have declared (u : State) : (u.declareHold bat).link = u.link := by
    have written := (holdDeclared_writes u bat).link
    unfold State.declareHold
    rw [settle_link]
    exact written
  have checked (u : State) : (u.checkHold bat).link = u.link :=
    link_ite (link_ite (link_ite ((settle_link _).trans (raise_link ..)) rfl) rfl) (link_ite (declared u) rfl)
  exact link_ite rfl (checked _)

theorem supplyMark_link (s : State) : s.supplyMark.link = s.link := by
  refine link_ite rfl (link_ite ?_ (link_ite rfl rfl))
  have charged (u : State) (c : Prop) [Decidable c] (k : EventKind) (a d : Nat) : (if c then u else u.raise k a d).link = u.link :=
    link_ite rfl (raise_link ..)
  exact link_ite (charged _ _ _ _ _) ((settle_link _).trans ((raise_link ..).trans (charged _ _ _ _ _)))

end Sys2Proof.Machine
end

section
/-! PROOF. A RESTART that stands taken stops the taking of frames (O22). -/

namespace Sys2Proof.Machine

/-! ### The operating states and the inputs leave the body link alone -/

theorem wakeTo_link (s : State) (new : OpState) (cause : WakeCause) : (s.wakeTo new cause).link = s.link := by
  refine (enterState_link ..).trans ((raise_link ..).trans ?_)
  exact link_ite rfl rfl

theorem deliverLevel_link (s : State) (i : InputId) (a : Bool) : (s.deliverLevel i a).link = s.link := (deliverLevel_spec s i a).link

theorem closeWindow_link (s : State) (w : Option Window) : (s.closeWindow w).link = s.link := by
  cases w with
  | none => rfl
  | some w =>
    have delivered : (s.deliverHeld w.held).link = s.link := link_foldl (fun _ _ => deliverLevel_link ..) w.held s
    have closes : s.closeWindow (some w) = (s.deliverHeld w.held).takeWindowCounts w := rfl
    rw [closes, (takeWindowCounts_spec _ w).1]
    generalize ((s.deliverHeld w.held).takeWindowCounts w).inputs = x
    generalize s.deliverHeld w.held = u at delivered
    exact delivered

theorem confirmWake_link (s : State) (i : WakeInput) (w : Window) : (s.confirmWake i w).link = s.link := by
  unfold State.confirmWake
  rw [closeWindow_link, settle_link, wakeTo_link]

theorem sampleInput_link (pins : PinLevels) (s : State) (i : InputId) : (s.sampleInput pins i).link = s.link := by
  by_cases changes : s.changesOn pins i
  · rw [((sampleInput_cases s pins i).1 changes).1, deliverLevel_link]
  · rw [((sampleInput_cases s pins i).2 changes).1]
    rfl

theorem sampleInputs_link (s : State) (pins : PinLevels) : (s.sampleInputs pins).link = s.link := by
  unfold State.sampleInputs
  split
  · split
    · unfold State.sampleInWindow
      dsimp only
      split
      · rfl
      · exact confirmWake_link ..
      · exact confirmWake_link ..
    · rfl
  · exact link_foldl (sampleInput_link pins) allInputs s

theorem goToSleep_link (s : State) : s.goToSleep.link = s.link := by
  have entered : (s.enterState .sleep).link = s.link := enterState_link ..
  have cleared := link_foldl (f := State.clearMeas) (fun _ _ => rfl) allChans (s.enterState .sleep)
  unfold State.goToSleep
  dsimp only
  generalize allChans.foldl State.clearMeas (s.enterState .sleep) = u at cleared ⊢
  have discarded := link_foldl (f := State.clearSamples) (fun _ _ => rfl) allGauges u
  generalize allGauges.foldl State.clearSamples u = v at discarded ⊢
  exact discarded.trans (cleared.trans entered)

theorem backToWatch_link (s : State) : s.backToWatch.link = s.link := by
  unfold State.backToWatch
  rw [settle_link, enterState_link]
  rfl

theorem deliverAsleep_link (s : State) (i : InputId) : (s.deliverAsleep i).link = s.link := by
  have handed : ((s.storeLevel i true).handLevel i true).link = s.link := by rw [(levelHeard s i true).rest]
  exact link_ite ((backToWatch_link _).trans handed) ((settle_link _).trans handed)

theorem expireScene_link (s : State) (id : Byte) : (s.expireScene id).link = s.link := by
  unfold State.expireScene
  refine link_ite ?_ ?_
  · unfold State.returnToWatch
    rw [closeWindow_link, backToWatch_link, raise_link]
    rfl
  · rw [settle_link, raise_link]
    rfl

/-! ### What stands while a RESTART stands taken (R150) -/

/-- The RESTART stands, and no frame leaves the inbound queue. -/
def TakingStopped (l m : Link) : Prop := (l.restartTaken = true → m.restartTaken = true) ∧ l.inbound <+: m.inbound

theorem TakingStopped.refl (l : Link) : TakingStopped l l := ⟨id, List.prefix_rfl⟩

/-- A byte received takes no frame. -/
theorem receive_stopped (s : State) (b : Byte) (parity stop : Bool) : TakingStopped s.link (s.receive b parity stop).link := by
  have offered (u : State) (f : Frame) : TakingStopped u.link (u.validFrame f).link := by
    rw [validFrame_link]
    unfold Link.offer
    split
    · exact ⟨id, List.prefix_append ..⟩
    · exact .refl _
  unfold State.receive
  split
  · exact .refl _
  · split
    · unfold State.assemble
      split
      · split <;> exact .refl _
      · split <;> exact .refl _
      · exact .refl _
      · split <;> exact .refl _
      · split
        · exact offered (s.setAssembler .hunt) _
        · exact .refl _
    · exact .refl _

theorem rxWakes_stopped (s : State) : TakingStopped s.link s.rxWakes.link := by
  unfold State.rxWakes
  dsimp only
  rw [closeWindow_link, settle_link, wakeTo_link]
  exact .refl _

theorem sent_stopped (l : Link) : TakingStopped l l.sent := by
  exact ⟨id, List.prefix_rfl⟩

/-- Where a command leads, the RESTART stands and no frame is taken. -/
def NextStopped (s : State) (o : Host.Outcome State Fault Refusal) : Prop := ∀ t, o = .next t → TakingStopped s.link t.link

theorem live_stopped {s : State} {k : State → State} (stopped : TakingStopped s.link (k s).link) : NextStopped s (s.live k) := by
  intro t h
  rcases eq_or_of_live_next h with rfl | rfl
  · exact .refl _
  · exact stopped

/-- A command that leaves the body link alone. -/
theorem live_linkAlone {s : State} {k : State → State} (alone : (k s).link = s.link) : NextStopped s (s.live k) :=
  live_stopped (alone ▸ .refl _)

/-- A command that acts on a condition and leaves the body link alone. -/
theorem liveIf_linkAlone {s : State} {c : State → Prop} [∀ s, Decidable (c s)] {k : State → State} (alone : (k s).link = s.link) :
    NextStopped s (s.live fun s => if c s then k s else s) := live_linkAlone (link_ite alone rfl)

theorem request_stopped {s : State} (taken : s.link.restartTaken = true) {k : ReqKind} {owner : List Byte → State → Answer} :
    NextStopped s (s.live (State.request k owner)) := by
  rw [request_waits (.inr taken)]
  rintro _ ⟨⟩
  exact .refl _

theorem hold_stopped (s : State) (causes : CauseSet) : NextStopped s (.next (s.holdReset causes)) := by
  rintro _ ⟨⟩
  exact .refl _

theorem wakeConfirmed_stopped (s : State) (i : WakeInput) (pins : PinLevels) : NextStopped s (execWakeConfirmed i pins s) := by
  refine live_linkAlone (link_ite ?_ rfl)
  split
  · exact link_ite (confirmWake_link ..) rfl
  · rfl

theorem takeUnknown_restarting {s : State} (taken : s.link.restartTaken = true) : s.takeUnknown = s := by
  unfold State.takeUnknown
  split
  · rfl
  · exact if_neg (by simp [State.mayTake, taken])

/-- No command but the release of a reset ends the RESTART that stands taken, and none takes a frame. -/
theorem exec_stopped {s : State} (c : Instr) (taken : s.link.restartTaken = true) (awake : ∀ polOpen, c ≠ .resetRelease polOpen) :
    NextStopped s (exec c s) := by
  unfold exec
  cases c with
  | resetRelease polOpen => exact absurd rfl (awake polOpen)
  | powerOn | brownout | resetLine => exact hold_stopped s _
  | unknownKind => exact live_linkAlone (congrArg State.link (takeUnknown_restarting taken))
  | rxByte data parity stop => exact live_stopped (receive_stopped ..)
  | gapTimeout => exact live_stopped (.refl _)
  | replySent => exact live_stopped (sent_stopped _)
  | rxWake =>
    refine live_stopped ?_
    split
    · exact rxWakes_stopped s
    · exact .refl _
  | receiverRestart =>
    refine live_stopped ?_
    split <;> exact .refl _
  | restartReset => exact liveIf_linkAlone rfl
  | currentSample readings => exact live_linkAlone (currentSample_link ..)
  | channelAverage => exact live_linkAlone (link_ite rfl (link_ite rfl rfl))
  | trip ch v | lampOutDecision ch v => exact liveIf_linkAlone ((settle_link _).trans (lampSample_link ..))
  | inrushEnd ch | retryExpiry ch => exact liveIf_linkAlone (arbitrate_link _)
  | kickEnd | stallWaitEnd => exact liveIf_linkAlone (arbitrate_link _)
  | tripForgiveness ch => exact liveIf_linkAlone rfl
  | fedDecision ch v => exact liveIf_linkAlone (readBack_link ..)
  | onPhaseEnd => exact liveIf_linkAlone (endOnPhase_link s)
  | offPhaseEnd => exact liveIf_linkAlone (endOffPhase_link s)
  | rampTimerExpiry | fanForgiveness => exact liveIf_linkAlone rfl
  | stallFound v => exact liveIf_linkAlone ((arbitrate_link _).trans (fanSample_link ..))
  | senseSample g code => exact liveIf_linkAlone rfl
  | gaugeUpdate => exact live_linkAlone (gaugeMark_link s)
  | senderStatusChange g => exact liveIf_linkAlone (gaugeMark_link s)
  | testComplete => exact liveIf_linkAlone (gaugeMark_link s)
  | gaugeOutputShort g v => exact liveIf_linkAlone (gaugeSample_link ..)
  | supplySample bat chg => exact live_linkAlone (supplySampled_link ..)
  | holdEnd bat chg => exact liveIf_linkAlone (supplySampled_link ..)
  | supplyEvaluation => exact live_linkAlone (supplyMark_link s)
  | chargeChange | voltageLevelChange => exact liveIf_linkAlone (supplyMark_link s)
  | inputSample pins => exact live_linkAlone (sampleInputs_link ..)
  | inputLevelChange i => exact live_linkAlone (link_ite (deliverLevel_link ..) (link_ite (deliverAsleep_link ..) rfl))
  | enterSleep => exact liveIf_linkAlone (goToSleep_link s)
  | sleepEdge i => exact liveIf_linkAlone rfl
  | wakeConfirmed i pins => exact wakeConfirmed_stopped s i pins
  | windowTimeout => exact liveIf_linkAlone rfl
  | sceneExpiry id => exact liveIf_linkAlone (expireScene_link ..)
  | dwellEnd | fadeStep | limpLightingBegin => exact liveIf_linkAlone (settle_link _)
  | linkTimeout => exact liveIf_linkAlone (raise_link ..)
  | timeCountTick => exact live_linkAlone rfl
  | _ => exact request_stopped taken

/-- Settles O22: RESTART by its request, the stop of taking by `request_waits`, and what stands by what each command does to the link. -/
theorem restartStopsTheTaking : Obligations.RestartStopsTheTaking := by
  refine ⟨fun s rest h => ?_, fun s taken => ⟨fun k => ?_, ?_, fun running shifting waiting => ?_, fun busy => ?_⟩,
    fun c s t taken awake h => ?_⟩
  · refine (request_taken (k := .restart) h rfl).trans ?_
    dsimp only [restartOwner, popInbound_link, linkAfter, Link.send]
    cases s.link.shifting <;> rfl
  · obtain ⟨owner, run⟩ := exec_requestOf k
    rw [run, request_waits (.inr taken)]
  · have run : exec .unknownKind s = s.live State.takeUnknown := rfl
    rw [run, State.live, takeUnknown_restarting taken, ite_self]
  · have due : s.restartDue = true := by simp [State.restartDue, taken, shifting, waiting]
    refine (live_run running _).trans ?_
    rw [if_pos due]
    rfl
  · have due : s.restartDue ≠ true := by
      rcases busy with h | h <;> simp [State.restartDue, Option.isNone_iff_eq_none, h]
    have run : exec .restartReset s = s.live (fun s => if s.restartDue then s.holdReset { s.report.causes with restart := true } else s) := rfl
    rw [run, State.live, if_neg due, ite_self]
  · obtain ⟨stands, kept⟩ := exec_stopped c taken awake t h
    exact ⟨stands taken, kept⟩

end Sys2Proof.Machine
end

section
/-! PROOF. An examination of the substitution table after a change of what is locked out (O19, O28). -/

namespace Sys2Proof.Machine

/-! ### The fan's lockout stands (R99) -/

/-- Settling neither locks the fan out nor lifts its lockout. -/
theorem settle_fanLocked (s : State) : s.settle.fan.state = .lockedOut ↔ s.fan.state = .lockedOut := by
  have granted (f : Fan) : f.takeGrant.state ≠ .lockedOut := by
    unfold Fan.takeGrant Fan.enterRamping
    split
    · split <;> simp
    · simp
  have stepped (f : Fan) (step : Nat) (hold : Bool) : (f.takeStep step hold).state = .lockedOut ↔ f.state = .lockedOut := by
    unfold Fan.takeStep
    dsimp only
    cases state : f.state with
    | stopped => dsimp only; split <;> simp [Fan.startWaiting]
    | waiting | kick | ramping => dsimp only; split <;> simp [Fan.stop]
    | running =>
      dsimp only
      split
      · simp [Fan.stop]
      · split <;> simp
    | stallWait | lockedOut => exact Iff.rfl
  have follows : s.ready.fan.state = .lockedOut ↔ s.fan.state = .lockedOut := by
    have taken : (if (s.resolve .fan).1 = s.fan.step then s.fan else s.fan.takeStep (s.resolve .fan).1 s.supply.hold).state = .lockedOut ↔
        s.fan.state = .lockedOut := by
      split
      · rfl
      · exact stepped ..
    rw [ready_fan, ← taken]
    unfold Fan.follows
    dsimp only
    generalize (if (s.resolve .fan).1 = s.fan.step then s.fan else s.fan.takeStep (s.resolve .fan).1 s.supply.hold) = g
    split
    · rename_i stopped
      simp [Fan.startWaiting, stopped.1]
    · rfl
  rw [settle_eq, ← follows]
  rcases (arbitrate_grantPass s.ready).fan with same | ⟨waiting, taken⟩
  · rw [same]
  · simp [taken, granted, waiting]

/-! ### The table is examined where spares are free (R23) -/

theorem subEntry_congr {s t : State} (h : t.bank.subs = s.bank.subs) (e : Fin 3) : t.subEntry e = s.subEntry e := by
  rw [State.subEntry, h]
  rfl

/-- What an examination finds of a part: the entries of its table, engaged as they stood or released with a primary that is not locked
out, spares with their own settings, and locked-out primaries with theirs. -/
structure TableStands (s u : State) : Prop where
  op : u.op.state ≠ .limp
  pairs : ∀ e, (u.subEntry e).pair = (s.subEntry e).pair
  engaged : ∀ e, (u.subEntry e).engaged = true → (s.subEntry e).engaged = true
  released : ∀ e p q, (s.subEntry e).engaged = true → (u.subEntry e).engaged = false → (s.subEntry e).pair = some (p, q) →
    (u.lamp p).state ≠ .lockedOut
  own : SubstitutionOk s → ∀ q, (∀ e p, (u.subEntry e).engaged = true → (u.subEntry e).pair ≠ some (p, q)) →
    (u.lamp q).cfg = (s.lamp q).setAside.getD (s.lamp q).cfg
  primary : ∀ p, (u.lamp p).state = .lockedOut → (s.lamp p).state = .lockedOut ∧ (u.lamp p).cfg = (s.lamp p).cfg

/-- The part after an examination of the entries whose spares are free, and a settling. -/
structure ExaminedFrom (free : LampId → Bool) (s u t : State) : Prop where
  stands : TableStands s u
  below : ∃ v, ExaminedBelow (fun x => free x.2) u v 3 ∧ (∀ e, t.subEntry e = v.subEntry e) ∧
    (∀ ch, LampKept (v.lamp ch) (t.lamp ch)) ∧ t.report = v.report

/-- An examination that a settling and a reply follow. -/
theorem TableStands.examined {free : LampId → Bool} {s u t : State} {l : Link} (stands : TableStands s u)
    (keeps : SettleKeeps { u.examine (fun x => free x.2) with link := l } t) : ExaminedFrom free s u t where
  stands := stands
  below := ⟨u.examine fun x => free x.2, examine_spec .., subEntry_congr keeps.subs, keeps.lamps, keeps.report⟩

section
variable {free : LampId → Bool} {s u t : State}

theorem ExaminedFrom.engages (h : ExaminedFrom free s u t) {e : Fin 3} {p q : LampId} :
    Engages s t e p q ↔ EntryEngages (fun x => free x.2) u e p q := by
  obtain ⟨v, below, subs, -⟩ := h.below
  unfold Engages
  rw [subs, below.pairs, below.engaged]
  constructor
  · rintro ⟨pair, stood | ⟨-, p', q', due⟩, fresh⟩
    · rw [h.stands.engaged e stood] at fresh
      cases fresh
    · have same := due.pair.symm.trans pair
      simp only [Option.some.injEq, Prod.mk.injEq] at same
      exact same.1 ▸ same.2 ▸ due
  · refine fun due => ⟨due.pair, .inr ⟨e.isLt, p, q, due⟩, ?_⟩
    rw [← Bool.not_eq_true]
    exact fun on => h.stands.released e p q on due.fresh ((h.stands.pairs e).symm.trans due.pair) due.primary

/-- A channel that stands in for none anew keeps its record up to the settling. -/
theorem ExaminedFrom.others (h : ExaminedFrom free s u t) {ch : LampId} (none : ∀ e p, ¬ Engages s t e p ch) :
    LampKept (u.lamp ch) (t.lamp ch) := by
  obtain ⟨v, below, -, lamps, -⟩ := h.below
  rw [← below.others ch fun e p _ due => none e p (h.engages.mpr due)]
  exact lamps ch

theorem ExaminedFrom.spare (h : ExaminedFrom free s u t) {e : Fin 3} {p q : LampId} (due : Engages s t e p q) :
    LampKept ((u.lamp q).standsIn p (u.lamp p).cfg).remapped (t.lamp q) := by
  obtain ⟨v, below, -, lamps, -⟩ := h.below
  rw [← below.spares e p q e.isLt (h.engages.mp due)]
  exact lamps q

theorem ExaminedFrom.locked (h : ExaminedFrom free s u t) (ch : LampId) : (t.lamp ch).state = .lockedOut ↔ (u.lamp ch).state = .lockedOut := by
  obtain ⟨v, below, -, lamps, -⟩ := h.below
  rw [(lamps ch).lockedOut, below.lockedOut]

/-- An examination keeps every channel's function, its retries and what it times, and whether it has tripped. -/
theorem ExaminedFrom.keeps (h : ExaminedFrom free s u t) (ch : LampId) :
    (t.lamp ch).cfg.fn = (u.lamp ch).cfg.fn ∧ ((t.lamp ch).state = .tripped ↔ (u.lamp ch).state = .tripped) ∧
    (t.lamp ch).retriesUsed = (u.lamp ch).retriesUsed ∧ (t.lamp ch).onTime = (u.lamp ch).onTime ∧
    (t.lamp ch).retryTimer = (u.lamp ch).retryTimer := by
  by_cases spare : ∃ e p, Engages s t e p ch
  · obtain ⟨e, p, due⟩ := spare
    have taken := h.spare due
    refine ⟨by rw [taken.cfg]; rfl, taken.tripped.trans ?_, taken.retriesUsed, taken.onTime, taken.retryTimer⟩
    unfold LampRec.remapped LampRec.standsIn
    dsimp only
    split <;> simp_all
  · have kept := h.others fun e p due => spare ⟨e, p, due⟩
    exact ⟨by rw [kept.cfg], kept.tripped, kept.retriesUsed, kept.onTime, kept.retryTimer⟩

theorem ExaminedFrom.pairs (h : ExaminedFrom free s u t) (e : Fin 3) : (t.subEntry e).pair = (s.subEntry e).pair := by
  obtain ⟨v, below, subs, -⟩ := h.below
  rw [subs, below.pairs, h.stands.pairs]

/-- The entries that engage raise SUBST, and nothing else is raised. -/
theorem ExaminedFrom.report (h : ExaminedFrom free s u t) : t.report = (substRaised s t u).report := by
  have engages (e : Fin 3) (p q : LampId) := h.engages (e := e) (p := p) (q := q)
  obtain ⟨v, below, subs, -, report⟩ := h.below
  have step (e : Fin 3) (r : State) : substStep s t e r = substStep u v e r := by
    by_cases due : ∃ p q, EntryEngages (fun x => free x.2) u e p q
    · obtain ⟨p, q, due⟩ := due
      have here : Engages u v e p q := ⟨(below.pairs e).trans due.pair, (below.engaged e).mpr (.inr ⟨e.isLt, p, q, due⟩), due.fresh⟩
      rw [substStep_engages ((engages e p q).mpr due), substStep_engages here]
    · have still (on : (v.subEntry e).engaged = true) : (u.subEntry e).engaged = true :=
        ((below.engaged e).mp on).resolve_right fun ⟨_, due'⟩ => due due'
      rw [substStep_still fun on => h.stands.engaged e (still (subs e ▸ on)), substStep_still still]
  rw [report, below.report, substRaised_eq, substRaised_eq, step, step, step]

/-- What engages takes the primary's settings, where the table and the records agreed (R23). -/
theorem ExaminedFrom.engagements (h : ExaminedFrom free s u t) (agree : SubstitutionOk s) : Engagements s t where
  primary e p q due := by
    have locked := (h.engages.mp due).primary
    exact ⟨(h.stands.primary p locked).1, (h.locked p).mpr locked⟩
  lowest e p q due e' p' lower pair := by
    have engages := h.engages.mp due
    rw [ne_eq, h.locked]
    rw [h.pairs, ← h.stands.pairs] at pair
    exact engages.lowest e' lower p' pair engages.named
  spare e p q due := by
    have engages := h.engages.mp due
    have taken := h.spare due
    have own := h.stands.own agree q engages.free
    refine ⟨?_, taken.substituteFor, fun e' p' other on pair => ?_, ?_, ?_⟩
    · rw [ne_eq, h.locked]
      exact engages.available
    · obtain ⟨v, below, subs, -⟩ := h.below
      rw [subs] at on pair
      rw [below.pairs] at pair
      rcases (below.engaged e').mp on with stood | ⟨-, p'', q'', due'⟩
      · exact engages.free e' p' stood pair
      · have same := due'.pair.symm.trans pair
        simp only [Option.some.injEq, Prod.mk.injEq] at same
        exact other (EntryEngages.unique (same.2 ▸ due') engages).1
    · rw [← own]
      exact taken.setAside
    · rw [← own, ← (h.stands.primary p engages.primary).2]
      exact taken.cfg

/-- An entry of a free spare that is due and does not engage finds its spare engaged (R23). -/
theorem ExaminedFrom.due (h : ExaminedFrom free s u t) {e : Fin 3} {p q : LampId} (pair : (t.subEntry e).pair = some (p, q))
    (named : free q = true) (primary : (t.lamp p).state = .lockedOut) (available : (t.lamp q).state ≠ .lockedOut) :
    ∃ e' p', (t.subEntry e').engaged = true ∧ (t.subEntry e').pair = some (p', q) := by
  rw [h.locked] at primary
  rw [ne_eq, h.locked] at available
  rw [h.pairs, ← h.stands.pairs] at pair
  by_cases unused : ∀ e' p', (u.subEntry e').engaged = true → (u.subEntry e').pair ≠ some (p', q)
  · by_cases lower : ∃ e', e' < e ∧ ∃ p', EntryEngages (fun x => free x.2) u e' p' q
    · obtain ⟨e', -, p', engages⟩ := lower
      obtain ⟨pair', on, -⟩ := h.engages.mpr engages
      exact ⟨e', p', on, pair'⟩
    · have engages := entryEngages_of_none_lower pair named primary h.stands.op unused available
        fun e' lt p' engages => lower ⟨e', lt, p', engages⟩
      obtain ⟨pair', on, -⟩ := h.engages.mpr engages
      exact ⟨e, p, on, pair'⟩
  · simp only [not_forall, not_not] at unused
    obtain ⟨e', p', on, pair'⟩ := unused
    obtain ⟨v, below, subs, -⟩ := h.below
    refine ⟨e', p', ?_, ?_⟩
    · rw [subs]
      exact (below.engaged e').mpr (.inl on)
    · rw [subs, below.pairs, pair']

end

end Sys2Proof.Machine
end

section
/-! PROOF. START brings the configured map into force (O19). -/

namespace Sys2Proof.Machine

/-- A change of the map writes lamp channels and the queue alone. -/
theorem mapChanged_rest (old : LampId → Option Fn) (s : State) :
    s.mapChanged old = { s with bank := { s.bank with lamps := (s.mapChanged old).bank.lamps }, queue := (s.mapChanged old).queue } := by
  unfold State.mapChanged
  generalize allLamps = l
  induction l generalizing s with
  | nil => rfl
  | cons a l ih =>
    have one : (if s.serving a = old a then s else s.functionChanged a) = { s with
        bank := { s.bank with lamps := (if s.serving a = old a then s else s.functionChanged a).bank.lamps }
        queue := (if s.serving a = old a then s else s.functionChanged a).queue } := by
      split
      · rfl
      · exact functionChanged_rest s a
    rw [List.foldl_cons]
    generalize (if s.serving a = old a then s else s.functionChanged a) = u at one ⊢
    refine (ih u).trans ?_
    generalize l.foldl _ u = v
    rw [one]

/-- The record of a channel that START hands its value (R66). -/
def LampRec.marked (c : LampRec) (serves : Bool) : LampRec := if serves then { c with entered := true } else c

/-- Channels are marked one by one. -/
theorem markEntered_fold (l : List LampId) (distinct : l.Nodup) (s : State) :
    (∀ c, (l.foldl State.markEntered s).lamp c = (s.lamp c).marked (decide (c ∈ l) && (s.serving c).isSome)) ∧
      l.foldl State.markEntered s = { s with bank := { s.bank with lamps := (l.foldl State.markEntered s).bank.lamps } } := by
  induction l generalizing s with
  | nil => exact ⟨fun c => by simp [LampRec.marked], rfl⟩
  | cons a l ih =>
    obtain ⟨fresh, distinct⟩ := List.nodup_cons.mp distinct
    obtain ⟨lamps, rest⟩ := ih distinct (s.markEntered a)
    have one (c : LampId) : (s.markEntered a).lamp c = if c = a then (s.lamp a).marked (s.serving a).isSome else s.lamp c := by
      unfold State.markEntered LampRec.marked
      by_cases serves : (s.serving a).isSome = true
      · rw [if_pos serves, State.lamp_setLamp, if_pos serves]
      · rw [if_neg serves, if_neg serves]
        split
        · rename_i same
          rw [same]
        · rfl
    have alone : s.markEntered a = { s with bank := { s.bank with lamps := (s.markEntered a).bank.lamps } } := by
      unfold State.markEntered
      split <;> rfl
    have serving (c : LampId) : (s.markEntered a).serving c = s.serving c := by
      refine serving_of_map (by rw [alone]) (fun k => ?_) c
      rw [one]
      split
      · rename_i same
        rw [same]
        unfold LampRec.marked
        split <;> exact ⟨rfl, rfl⟩
      · exact ⟨rfl, rfl⟩
    rw [List.foldl_cons]
    refine ⟨fun c => ?_, rest.trans ?_⟩
    · rw [lamps, serving, one]
      by_cases same : c = a
      · subst same
        simp [fresh, LampRec.marked]
      · simp [same]
    · generalize (l.foldl State.markEntered (s.markEntered a)).bank.lamps = x
      rw [alone]

/-- The part as START brings the new map into force, before it marks the channels (R148). -/
def State.startMap (s : State) : State := (s.startFields.enterState s.startState).mapChanged s.serving

/-- The part that START's examination finds (R148). -/
def State.startMarked (s : State) : State := allLamps.foldl State.markEntered s.startMap

theorem startMarked_eq (s : State) : s.startMarked = allLamps.foldl State.markEntered s.startMap := by rw [State.startMarked]

theorem startPart_eq (s : State) : s.startPart = (s.startMarked.examine fun _ => true).settle := by
  rw [State.startMarked, State.startMap]
  rfl

/-- What START writes beside the lamp channels (R148). -/
theorem startMarked_rest {s : State} (limp : s.op.state = .limp) :
    s.startMarked = { s with
      bank := { s.bank with lamps := s.startMarked.bank.lamps }
      queue := s.startMarked.queue
      resolver := { s.resolver with courtesy := s.courtesyAtStart }
      gauges := { s.gauges with gauges := s.gauges.gauges.map (fun g => { g with pendingCurve := none }) }
      op := { s.op with state := s.startState, configured := true, limpLighting := false, silenceTimer := 0 }
      report := (s.raise .state 0 s.startState.code).report } := by
  have entered : s.startFields.enterState s.startState = { s with
      resolver := { s.resolver with courtesy := s.courtesyAtStart }
      gauges := { s.gauges with gauges := s.gauges.gauges.map (fun g => { g with pendingCurve := none }) }
      op := { s.op with state := s.startState, configured := true, limpLighting := false, silenceTimer := 0 }
      report := (s.raise .state 0 s.startState.code).report } :=
    enterState_awake (s := s.startFields) (u := s) (.inl (by simp [State.startFields, limp])) rfl
  have mapped := mapChanged_rest s.serving (s.startFields.enterState s.startState)
  have marked := (markEntered_fold allLamps (by decide) s.startMap).2
  rw [← State.startMap] at mapped
  rw [startMarked_eq]
  generalize allLamps.foldl State.markEntered s.startMap = v at marked ⊢
  generalize s.startMap = w at mapped marked
  rw [marked, mapped, entered]

/-- The serving functions of the new map (R2). -/
theorem startMarked_lamp (s : State) (c : LampId) :
    (s.startMarked.serving c = match (s.lamp c).substituteFor with
      | some p => (s.lamp p).cfg.fn
      | none => (s.lamp c).cfg.fn) ∧
    s.startMarked.lamp c =
      (if s.startMarked.serving c ≠ s.serving c then (s.lamp c).remapped else s.lamp c).marked (s.startMarked.serving c).isSome := by
  have outside : s.startState ≠ .limp := by
    unfold State.startState
    split <;> simp
  have entered (k : LampId) : (s.startFields.enterState s.startState).lamp k = s.lamp k := by
    rw [State.lamp, enterState_bank]
    rfl
  have first : (s.startFields.enterState s.startState).serving c = match (s.lamp c).substituteFor with
      | some p => (s.lamp p).cfg.fn
      | none => (s.lamp c).cfg.fn := by
    rw [serving_eq, enterState_op, if_neg (by simpa using outside), entered]
    cases (s.lamp c).substituteFor with
    | none => rfl
    | some p => exact congrArg (·.cfg.fn) (entered p)
  have mapped := mapChanged_lamp s.serving (s.startFields.enterState s.startState) c
  have serves := mapChanged_serving s.serving (s.startFields.enterState s.startState) c
  rw [← State.startMap] at mapped serves
  rw [first, entered] at mapped
  rw [first] at serves
  obtain ⟨lamps, rest⟩ := markEntered_fold allLamps (by decide) s.startMap
  rw [startMarked_eq]
  generalize allLamps.foldl State.markEntered s.startMap = v at lamps rest ⊢
  generalize s.startMap = w at lamps rest mapped serves
  have servesMarked : v.serving c = w.serving c := by
    refine serving_of_map (by rw [rest]) (fun k => ?_) c
    rw [lamps]
    unfold LampRec.marked
    split <;> exact ⟨rfl, rfl⟩
  rw [servesMarked, serves]
  refine ⟨rfl, ?_⟩
  rw [lamps, mapped, serves, decide_eq_true (mem_allLamps c), Bool.true_and]

end Sys2Proof.Machine
end

section
/-! PROOF. START brings the configured map into force (O19). -/

namespace Sys2Proof.Machine

/-- What START leaves of a channel before the examination: all but the function it serves and what goes with it (R21, R148). -/
theorem startMarked_kept (s : State) (c : LampId) :
    (s.startMarked.lamp c).cfg = (s.lamp c).cfg ∧ (s.startMarked.lamp c).setAside = (s.lamp c).setAside ∧
    (s.startMarked.lamp c).substituteFor = (s.lamp c).substituteFor ∧
    ((s.startMarked.lamp c).state = .tripped ↔ (s.lamp c).state = .tripped) ∧
    ((s.startMarked.lamp c).state = .lockedOut ↔ (s.lamp c).state = .lockedOut) ∧
    (s.startMarked.lamp c).retriesUsed = (s.lamp c).retriesUsed ∧ (s.startMarked.lamp c).onTime = (s.lamp c).onTime ∧
    (s.startMarked.lamp c).retryTimer = (s.lamp c).retryTimer := by
  have marked (d : LampRec) (b : Bool) : d.marked b = { d with entered := if b then true else d.entered } := by
    cases b <;> rfl
  rw [(startMarked_lamp s c).2, marked]
  split
  · refine ⟨rfl, rfl, rfl, ?_, ?_, rfl, rfl, rfl⟩ <;> unfold LampRec.remapped <;> dsimp only <;> split <;> simp_all
  · exact ⟨rfl, rfl, rfl, .rfl, .rfl, rfl, rfl, rfl⟩

/-- Taking a frame leaves the table and the channels. -/
theorem ExaminedFrom.popInbound {free : LampId → Bool} {s u t : State} {rest : List Frame}
    (h : ExaminedFrom free (s.popInbound rest) u t) : ExaminedFrom free s u t :=
  ⟨⟨h.stands.op, h.stands.pairs, h.stands.engaged, h.stands.released,
    fun agree => h.stands.own ⟨agree.engaged, agree.paired, agree.single, agree.setAside, agree.function, agree.limp⟩,
    h.stands.primary⟩, h.below⟩

/-- A channel that START gives another function to serve has no lamp_out. -/
theorem startMarked_lampOut {s : State} {c : LampId} (changed : s.startMarked.serving c ≠ s.serving c) :
    (s.startMarked.lamp c).lampOut = false := by
  rw [(startMarked_lamp s c).2, if_pos changed]
  unfold LampRec.marked
  split <;> rfl

theorem startState_code (s : State) : s.startState.code = if s.level .ign then 1 else 2 := by
  unfold State.startState
  split <;> rfl

theorem startState_awake (s : State) : s.startState ≠ .limp := by
  unfold State.startState
  split <;> simp

/-- START examines the table as it stood. -/
theorem startMarked_stands {s : State} (limp : s.op.state = .limp) : TableStands s s.startMarked := by
  have op : s.startMarked.op.state = s.startState := by rw [startMarked_rest limp]
  have subs (e : Fin 3) : s.startMarked.subEntry e = s.subEntry e := subEntry_congr (by rw [startMarked_rest limp]) e
  exact {
    op := op ▸ startState_awake s
    pairs := fun e => by rw [subs]
    engaged := fun e => by rw [subs]; exact id
    released := fun e p q on off => by rw [subs, on] at off; cases off
    own := fun agree q unused => by
      have alone : (s.lamp q).substituteFor = none := by
        rw [Option.eq_none_iff_forall_ne_some]
        intro p stands
        obtain ⟨e, on, pair⟩ := (agree.engaged q p).mp stands
        exact unused e p (by rw [subs, on]) (by rw [subs, pair])
      rw [(startMarked_kept s q).1, (agree.setAside q).mpr alone]
      rfl
    primary := fun p locked => ⟨(startMarked_kept s p).2.2.2.2.1.mp locked, (startMarked_kept s p).1⟩ }

/-- The serving functions of the part that START leaves (R2, R148). -/
theorem start_serving {s t : State} (from_ : ExaminedFrom (fun _ => true) s s.startMarked t) (op : t.op.state ≠ .limp) (ch : LampId) :
    t.serving ch = match (t.lamp ch).substituteFor with
      | some p => (s.lamp p).cfg.fn
      | none => (s.lamp ch).cfg.fn := by
  have fn (k : LampId) : (t.lamp k).cfg.fn = (s.lamp k).cfg.fn := (from_.keeps k).1.trans (by rw [(startMarked_kept s k).1])
  rw [serving_eq, if_neg op]
  cases (t.lamp ch).substituteFor with
  | none => exact fn ch
  | some p => exact fn p

/-- A channel that serves another function after START has no lamp_out (R21). -/
theorem start_lampOut {s t : State} (from_ : ExaminedFrom (fun _ => true) s s.startMarked t) (op : t.op.state ≠ .limp) {ch : LampId}
    (changed : t.serving ch ≠ s.serving ch) : (t.lamp ch).lampOut = false := by
  by_cases spare : ∃ e p, Engages s t e p ch
  · obtain ⟨e, p, due⟩ := spare
    exact (from_.spare due).lampOut
  · have kept := from_.others fun e p due => spare ⟨e, p, due⟩
    refine kept.lampOut.trans (startMarked_lampOut fun same => changed ?_)
    refine (start_serving from_ op ch).trans ?_
    rw [kept.substituteFor, (startMarked_kept s ch).2.2.1]
    exact (startMarked_lamp s ch).1.symm.trans same

/-- An examination takes no measurement. -/
theorem examine_meas (s : State) (occasion : LampId × LampId → Bool) : (s.examine occasion).bank.meas = s.bank.meas :=
  congrArg (·.bank.meas) (examine_withMeas (m := s.bank.meas) (s := s) occasion)

theorem startOwner_ready {s : State} (limp : s.op.state = .limp) (ready : StartReady s) :
    startOwner [] s = { state := (s.startMarked.examine fun _ => true).settle, code := .ok, data := b1 s.startState.code } := by
  unfold startOwner
  rw [if_neg (not_not_intro limp), startCheck_ready ready, startPart_eq]

/-- What START leaves beside the lamp channels and the table, up to the settling (R148). -/
structure StartWrites (s t : State) : Prop where
  op : t.op = { s.op with state := s.startState, configured := true, limpLighting := false, silenceTimer := 0 }
  courtesy : t.resolver.courtesy = s.courtesyAtStart
  scenes : t.resolver.scenes = s.resolver.scenes
  fns : t.resolver.fns = s.resolver.fns
  gauges : t.gauges.gauges = s.gauges.gauges.map fun g => { g with pendingCurve := none }
  report : t.report = (s.raise .state 0 s.startState.code).report
  fan : t.fan = s.fan
  inputs : t.inputs = s.inputs
  supply : t.supply = s.supply
  meas : t.bank.meas = s.bank.meas
  link : t.link = s.link

theorem startMarked_writes {s : State} (limp : s.op.state = .limp) : StartWrites s s.startMarked := by
  have shape := startMarked_rest limp
  generalize s.startMarked = u at shape
  constructor <;> rw [shape]

/-- Settles O19: START writes the new map and what goes with it, examines the substitution table, and settles. -/
theorem startBringsTheConfiguredMap : Obligations.StartBringsTheConfiguredMap := by
  intro s rest h limp ready
  have popLimp : (s.popInbound rest).op.state = .limp := limp
  have answer := startOwner_ready popLimp ready
  have examined := examine_examined (s.popInbound rest).startMarked fun _ => true
  have writes := startMarked_writes popLimp
  have stands := startMarked_stands popLimp
  have kept (k : LampId) := startMarked_kept (s.popInbound rest) k
  have serves {t : State} := start_serving (s := s.popInbound rest) (t := t)
  have lampOut {t : State} := start_lampOut (s := s.popInbound rest) (t := t)
  generalize (s.popInbound rest).startMarked = u at answer examined writes stands kept serves lampOut
  obtain ⟨t, run, value, keeps, consistent⟩ := request_settles (k := .start) h rfl answer (examined.link.trans writes.link)
  have popped := stands.examined (free := fun _ => true) keeps
  have from_ := popped.popInbound
  have fan := settle_fanLocked (u.examine fun _ => true)
  have fanKeeps : t.fan.state = .lockedOut ↔ s.fan.state = .lockedOut := by
    generalize (u.examine fun _ => true).settle = w at value fan
    have same : t.fan = w.fan := by rw [value]
    rw [same, fan, examined.fan, writes.fan]
    rfl
  have meas := examine_meas u fun _ => true
  generalize u.examine (fun _ => true) = v at keeps examined meas
  have op := keeps.op.trans (examined.op.trans writes.op)
  have awake : t.op.state ≠ .limp := op ▸ startState_awake _
  have fns (f : Fn) : (v.fnRec f).base = (s.fnRec f).base ∧ (v.fnRec f).cls = (s.fnRec f).cls := by
    rw [State.fnRec, examined.resolver, writes.fns]
    exact ⟨rfl, rfl⟩
  have pending (g : GaugeId) : v.gauge g = { s.gauge g with pendingCurve := none } := by
    rw [State.gauge, examined.gauges, writes.gauges]
    exact Vector.getElem_map ..
  have link : t.link = linkAfter s rest 0x10 .ok (b1 (if s.level .ign then 1 else 2)) :=
    (congrArg State.link value).trans (congrArg (fun n => linkAfter s rest 0x10 .ok (b1 n)) (startState_code s))
  have report : t.report = (substRaised s t (s.raise .state 0 (if s.level .ign then 1 else 2))).report := by
    have raised : u.report = (s.raise .state 0 (if s.level .ign then 1 else 2)).report := by
      rw [writes.report, ← startState_code s]
      exact raise_report_congr (s := s.popInbound rest) (t := s) rfl ..
    exact from_.report.trans (substRaised_report_congr _ _ raised)
  refine ⟨t, run, op, link, report, serves popped awake, fun ch => lampOut popped awake, fun ch alone => ?_, from_.pairs,
    fun agree => ⟨from_.engagements agree, fun e p q pair => from_.due pair rfl⟩, fun ch => ?_,
    ⟨fanKeeps, ?_, ?_⟩, fun g => ?_, ?_, fun f => ?_, ?_⟩
  · have same := from_.others alone
    obtain ⟨cfg, setAside, substituteFor, -⟩ := kept ch
    exact ⟨same.cfg.trans cfg, same.setAside.trans setAside, same.substituteFor.trans substituteFor⟩
  · obtain ⟨-, -, -, tripped, locked, retries, onTime, retryTimer⟩ := kept ch
    obtain ⟨-, tripped', retries', onTime', retryTimer'⟩ := from_.keeps ch
    exact ⟨tripped'.trans tripped, (from_.locked ch).trans locked, retries'.trans retries, onTime'.trans onTime,
      retryTimer'.trans retryTimer⟩
  · exact keeps.fanRetries.trans (congrArg Fan.retriesUsed (examined.fan.trans writes.fan))
  · exact keeps.fanSettings.trans (congrArg Fan.settings (examined.fan.trans writes.fan))
  · have gauge : GaugeKept (v.gauge g) (t.gauge g) := keeps.gauges g
    rw [pending] at gauge
    refine ⟨gauge.pendingCurve, gauge.cfg, ?_⟩
    rcases gauge.state with same | ⟨off, run, -⟩
    · rw [same]
    · rw [run, off]
      simp
  · refine keeps.courtesy.trans ((congrArg Resolver.courtesy examined.resolver).trans (writes.courtesy.trans ?_))
    unfold State.courtesyAtStart
    simp only [Bool.and_eq_true]
    rfl
  · obtain ⟨cls, -, base⟩ := keeps.fns f
    exact ⟨base.trans (fns f).1, cls.trans (fns f).2⟩
  · exact ⟨keeps.inputs.trans (examined.inputs.trans writes.inputs), keeps.supply.trans (examined.supply.trans writes.supply),
      keeps.meas.trans (meas.trans writes.meas),
      keeps.scenes.trans ((congrArg Resolver.scenes examined.resolver).trans writes.scenes), consistent⟩

end Sys2Proof.Machine
end

section
/-! PROOF. Releases of the substitution table (R24): which entries are released, and what a released spare holds. -/

namespace Sys2Proof.Machine

/-- An entry is released by a condition on its pair. -/
def EntryReleases (which : LampId × LampId → Bool) (s : State) (e : Fin 3) (p q : LampId) : Prop :=
  (s.subEntry e).engaged = true ∧ (s.subEntry e).pair = some (p, q) ∧ which (p, q) = true

/-- The record of a released spare (R24, R21). -/
def LampRec.freed (c : LampRec) : LampRec := c.release.remapped

theorem LampRec.freed_freed (c : LampRec) : c.freed.freed = c.freed := rfl

/-- The part once the entries below `k` have been released. -/
structure ReleasedBelow (which : LampId × LampId → Bool) (s u : State) (k : Nat) : Prop where
  examined : Examined s u
  report : u.report = s.report
  meas : u.bank.meas = s.bank.meas
  pairs : ∀ e, (u.subEntry e).pair = (s.subEntry e).pair
  engaged : ∀ e, (u.subEntry e).engaged = true ↔ (s.subEntry e).engaged = true ∧ ¬ (e.val < k ∧ ∃ p q, EntryReleases which s e p q)
  spares : ∀ (e : Fin 3) p q, e.val < k → EntryReleases which s e p q → u.lamp q = (s.lamp q).freed
  others : ∀ c, (∀ (e : Fin 3) p, e.val < k → ¬ EntryReleases which s e p c) → u.lamp c = s.lamp c

theorem releaseEntry_report (s : State) (e : Fin 3) : (s.releaseEntry e).report = s.report := by
  rcases pair : (s.subEntry e).pair with _ | ⟨p, q⟩
  · rw [releaseEntry_idle (.inl pair)]
  · by_cases engaged : (s.subEntry e).engaged = true
    · rw [releaseEntry_engaged pair engaged]
      change (State.functionChanged _ q).report = _
      rw [functionChanged_rest]
      rfl
    · rw [releaseEntry_idle (.inr (by simpa using engaged))]

theorem releaseEntry_meas (s : State) (e : Fin 3) : (s.releaseEntry e).bank.meas = s.bank.meas := by
  rcases pair : (s.subEntry e).pair with _ | ⟨p, q⟩
  · rw [releaseEntry_idle (.inl pair)]
  · by_cases engaged : (s.subEntry e).engaged = true
    · rw [releaseEntry_engaged pair engaged]
      change (State.functionChanged _ q).bank.meas = _
      rw [functionChanged_rest]
      rfl
    · rw [releaseEntry_idle (.inr (by simpa using engaged))]

theorem EntryReleases.unique {which : LampId × LampId → Bool} {s : State} {e : Fin 3} {p q p' q' : LampId}
    (h : EntryReleases which s e p q) (k : EntryReleases which s e p' q') : p = p' ∧ q = q' := by
  have same := h.2.1.symm.trans k.2.1
  simpa using same

/-- The next entry is released where it stands engaged with a pair of the condition. -/
theorem ReleasedBelow.step {which : LampId × LampId → Bool} {s u : State} {e : Fin 3} (h : ReleasedBelow which s u e.val) :
    ReleasedBelow which s (if (u.subEntry e).pair.any which then u.releaseEntry e else u) (e.val + 1) := by
  have stands : (u.subEntry e).engaged = true ↔ (s.subEntry e).engaged = true := by
    rw [h.engaged]
    simp
  have upTo (k : Fin 3) : k.val < e.val + 1 ↔ k.val < e.val ∨ k = e := by
    rw [Nat.lt_succ_iff_lt_or_eq, Fin.ext_iff]
  by_cases releases : ∃ p q, EntryReleases which s e p q
  · obtain ⟨p, q, due⟩ := releases
    obtain ⟨on, pair, named⟩ := due
    have pairNow := (h.pairs e).trans pair
    have onNow := stands.mpr on
    rw [if_pos (by simp [pairNow, named])]
    have spare : (u.releaseEntry e).lamp q = (s.lamp q).freed := by
      rw [release_lamp pairNow onNow, if_pos rfl]
      by_cases before : ∃ (k : Fin 3) (p' : LampId), k.val < e.val ∧ EntryReleases which s k p' q
      · obtain ⟨k, p', lt, due⟩ := before
        rw [h.spares k p' q lt due]
        exact LampRec.freed_freed _
      · rw [h.others q fun k p' lt due => before ⟨k, p', lt, due⟩]
        rfl
    refine ⟨h.examined.trans (releaseEntry_examined u e), (releaseEntry_report u e).trans h.report, (releaseEntry_meas u e).trans h.meas, fun k => ?_, fun k => ?_,
      fun k p' q' lt due => ?_, fun c others => ?_⟩
    · exact (releaseEntry_subEntry u e k).1.trans (h.pairs k)
    · rw [(releaseEntry_subEntry u e k).2, h.engaged, upTo, pairNow]
      by_cases same : k = e
      · subst same
        have releases : ∃ p q, EntryReleases which s k p q := ⟨p, q, on, pair, named⟩
        simp [releases]
      · simp [same]
    · rcases (upTo k).mp lt with below | rfl
      · by_cases same : q' = q
        · exact same ▸ spare
        · rw [release_lamp pairNow onNow, if_neg same]
          exact h.spares k p' q' below due
      · obtain ⟨-, rfl⟩ := due.unique ⟨on, pair, named⟩
        exact spare
    · have other : c ≠ q := fun same => others e p (by omega) ⟨on, same ▸ pair, same ▸ named⟩
      rw [release_lamp pairNow onNow, if_neg other]
      exact h.others c fun k p' lt => others k p' (by omega)
  · have same : (if (u.subEntry e).pair.any which then u.releaseEntry e else u) = u := by
      split
      · rename_i named
        refine releaseEntry_idle (.inr ?_)
        rw [← Bool.not_eq_true, stands]
        intro on
        rw [h.pairs] at named
        obtain ⟨⟨p, q⟩, pair, named⟩ := (Option.any_eq_true ..).mp named
        exact releases ⟨p, q, on, pair, named⟩
      · rfl
    have upTo' (k : Fin 3) {p q : LampId} (due : EntryReleases which s k p q) : k.val < e.val + 1 ↔ k.val < e.val := by
      rw [upTo, or_iff_left]
      rintro rfl
      exact releases ⟨p, q, due⟩
    rw [same]
    refine ⟨h.examined, h.report, h.meas, h.pairs, fun k => (h.engaged k).trans (and_congr_right fun _ => not_congr ?_),
      fun k p q lt due => h.spares k p q ((upTo' k due).mp lt) due,
      fun c others => h.others c fun k p lt due => others k p ((upTo' k due).mpr lt) due⟩
    exact ⟨fun ⟨lt, p, q, due⟩ => ⟨by omega, p, q, due⟩, fun ⟨lt, p, q, due⟩ => ⟨(upTo' k due).mp lt, p, q, due⟩⟩

/-- What a release of the entries of a condition does (R24). -/
theorem releaseWhere_spec (which : LampId × LampId → Bool) (s : State) : ReleasedBelow which s (s.releaseWhere which) 3 := by
  have start : ReleasedBelow which s s 0 :=
    ⟨.refl s, rfl, rfl, fun _ => rfl, fun _ => by simp, fun _ _ _ below => absurd below (Nat.not_lt_zero _), fun _ _ => rfl⟩
  have one := start.step (e := 0)
  have two := one.step (e := 1)
  exact two.step (e := 2)

/-- Lifting every lockout writes each lamp channel. -/
theorem clearAllLamps_lamp (s : State) (c : LampId) : s.clearAllLamps.lamp c = (s.lamp c).clearLockout := by
  have all := (lamps_fold LampRec.clearLockout allLamps (by decide) s).1 c
  rw [if_pos (mem_allLamps c)] at all
  exact all

theorem clearAllLamps_rest (s : State) : s.clearAllLamps = { s with bank := { s.bank with lamps := s.clearAllLamps.bank.lamps } } :=
  (lamps_fold LampRec.clearLockout allLamps (by decide) s).2

end Sys2Proof.Machine
end

section
/-! PROOF. STOP returns the part to LIMP (O20). -/

namespace Sys2Proof.Machine

/-- The part that STOP settles (R149). -/
def State.stopMapped (s : State) : State :=
  ((s.releaseWhere fun _ => true).clearAllLamps.stopFields.enterState .limp).mapChanged s.serving

theorem stopPart_eq (s : State) : s.stopPart = s.stopMapped.settle := by
  rw [State.stopMapped]
  rfl

/-- What STOP writes beside the lamp channels, the table and the queue (R149). -/
structure StopWrites (s t : State) : Prop where
  op : t.op = { s.op with state := .limp, configured := false, sleepRequested := false, linkSilent := false, silenceCount := 0 }
  report : t.report = (s.raise .state 0 0).report
  fns : t.resolver.fns = s.resolver.fns.map fun r => { r with base := 0 }
  scenes : t.resolver.scenes = []
  courtesy : t.resolver.courtesy = { s.resolver.courtesy with phase := .quiet, level := 0, timer := 0 }
  flash : t.flash = { s.flash with hostSide := .none, hostHazard := false }
  fan : t.fan = s.fan.clearLockout
  gauges : t.gauges.gauges = s.gauges.gauges.map Gauge.clearFault
  inputs : t.inputs = s.inputs
  supply : t.supply = s.supply
  meas : t.bank.meas = s.bank.meas
  link : t.link = s.link

/-- STOP outside DRIVE enters LIMP from the released and cleared part. -/
theorem stopEntered {s : State} (stopped : s.op.state ≠ .drive) :
    StopWrites s ((s.releaseWhere fun _ => true).clearAllLamps.stopFields.enterState .limp) ∧
    (∀ c, ((s.releaseWhere fun _ => true).clearAllLamps.stopFields.enterState .limp).lamp c =
      ((s.releaseWhere fun _ => true).lamp c).clearLockout) ∧
    ∀ e, ((s.releaseWhere fun _ => true).clearAllLamps.stopFields.enterState .limp).subEntry e = (s.releaseWhere fun _ => true).subEntry e := by
  have released := releaseWhere_spec (fun _ => true) s
  generalize s.releaseWhere (fun _ => true) = r at released ⊢
  have lamps := clearAllLamps_lamp r
  have rest := clearAllLamps_rest r
  have x := released.examined.trans (clearAllLamps_examined r)
  generalize r.clearAllLamps = c at lamps rest x ⊢
  have entered : c.stopFields.enterState .limp =
      { c.stopFields with op := { c.stopFields.op with state := .limp }, report := (s.raise .state 0 0).report } :=
    enterState_awake (.inl (by exact (congrArg OpCtl.state x.op).trans_ne stopped))
      (by rw [show c.stopFields.report = c.report from rfl, rest]; exact released.report)
  rw [entered]
  refine ⟨?_, fun k => lamps k, fun e => by rw [rest]; rfl⟩
  unfold State.stopFields
  exact {
    op := by dsimp only; rw [x.op]
    report := rfl
    fns := by dsimp only; rw [x.resolver]
    scenes := rfl
    courtesy := by dsimp only; rw [x.resolver]; rfl
    flash := by dsimp only; rw [x.flash]
    fan := by dsimp only; rw [x.fan]
    gauges := by dsimp only; rw [x.gauges]
    inputs := x.inputs
    supply := x.supply
    meas := by dsimp only; rw [rest]; exact released.meas
    link := x.link }

/-- What STOP writes and what it makes of the lamp channels and the table, up to the settling (R149, R21, R24). -/
structure StopLeaves (s u : State) : Prop where
  writes : StopWrites s u
  pairs : ∀ e, (u.subEntry e).pair = (s.subEntry e).pair
  released : ∀ e, (u.subEntry e).pair ≠ none → (u.subEntry e).engaged = false
  spares : ∀ (e : Fin 3) p q, (s.subEntry e).engaged = true → (s.subEntry e).pair = some (p, q) → u.lamp q =
    if limpMap q ≠ s.serving q then (s.lamp q).freed.clearLockout.remapped else (s.lamp q).freed.clearLockout
  others : ∀ c, (∀ (e : Fin 3) p, (s.subEntry e).engaged = true → (s.subEntry e).pair ≠ some (p, c)) → u.lamp c =
    if limpMap c ≠ s.serving c then (s.lamp c).clearLockout.remapped else (s.lamp c).clearLockout
  unlocked : ∀ c, (u.lamp c).state ≠ .lockedOut

theorem clearLockout_unlocked (c : LampRec) : c.clearLockout.state ≠ .lockedOut := by
  unfold LampRec.clearLockout
  split
  · simp
  · assumption

theorem remapped_lockedOut (c : LampRec) : c.remapped.state = .lockedOut ↔ c.state = .lockedOut := by
  unfold LampRec.remapped
  dsimp only
  split
  · simp_all
  · rfl

theorem stopMapped_leaves {s : State} (stopped : s.op.state ≠ .drive) : StopLeaves s s.stopMapped := by
  obtain ⟨writes, lamps, subs⟩ := stopEntered stopped
  have released := releaseWhere_spec (fun _ => true) s
  unfold State.stopMapped
  generalize (s.releaseWhere fun _ => true).clearAllLamps.stopFields.enterState .limp = v at writes lamps subs ⊢
  generalize s.releaseWhere (fun _ => true) = r at released lamps subs
  have limp (c : LampId) : v.serving c = limpMap c := by rw [serving_eq, writes.op]; rfl
  have mapped (c : LampId) := mapChanged_lamp s.serving v c
  have rest := mapChanged_rest s.serving v
  generalize v.mapChanged s.serving = u at mapped rest ⊢
  have subs (e : Fin 3) : u.subEntry e = r.subEntry e := by rw [← subs e, rest]; rfl
  simp only [limp, lamps] at mapped
  exact {
    writes := by
      rw [rest]
      exact ⟨writes.op, writes.report, writes.fns, writes.scenes, writes.courtesy, writes.flash, writes.fan, writes.gauges,
        writes.inputs, writes.supply, writes.meas, writes.link⟩
    pairs := fun e => by rw [subs, released.pairs]
    released := fun e some => by
      rw [subs] at some ⊢
      rw [released.pairs] at some
      obtain ⟨⟨p, q⟩, pair⟩ := Option.ne_none_iff_exists'.mp some
      rw [← Bool.not_eq_true, released.engaged]
      exact fun ⟨on, stays⟩ => stays ⟨e.isLt, p, q, on, pair, rfl⟩
    spares := fun e p q on pair => by rw [mapped, released.spares e p q e.isLt ⟨on, pair, rfl⟩]
    others := fun c none => by rw [mapped, released.others c fun e p _ due => none e p due.1 due.2.1]
    unlocked := fun c => by
      rw [mapped]
      split
      · rw [ne_eq, remapped_lockedOut]
        exact clearLockout_unlocked _
      · exact clearLockout_unlocked _ }

/-- What a channel keeps through STOP (R24, R28, R149). -/
structure StopKept (c d : LampRec) (same : Prop) [Decidable same] : Prop where
  fed : d.fed = c.fed
  lampOut : d.lampOut = if same ∧ c.substituteFor = none then c.lampOut else false
  cfg : d.cfg = c.setAside.getD c.cfg
  setAside : d.setAside = none
  substituteFor : d.substituteFor = none
  retriesUsed : d.retriesUsed = if c.state = .lockedOut ∨ c.substituteFor ≠ none then 0 else c.retriesUsed
  onTime : d.onTime = if c.state = .lockedOut ∨ c.substituteFor ≠ none then 0 else c.onTime

theorem stopKept_remapped {c d : LampRec} {same : Prop} [Decidable same] (changed : ¬ same) (h : StopKept c d True) : StopKept c d.remapped same :=
  ⟨h.fed, by simp [LampRec.remapped, changed], h.cfg, h.setAside, h.substituteFor, h.retriesUsed, h.onTime⟩

theorem stopKept_released {c : LampRec} {same : Prop} [Decidable same] (stands : c.substituteFor ≠ none) :
    StopKept c c.freed.clearLockout same := by
  constructor <;> simp [LampRec.clearLockout, LampRec.freed, LampRec.remapped, LampRec.release, stands]

theorem stopKept_cleared {c : LampRec} {same : Prop} [Decidable same] (holds : same) (alone : c.substituteFor = none) (own : c.setAside = none) :
    StopKept c c.clearLockout same := by
  unfold LampRec.clearLockout
  split <;> constructor <;> simp [*]

/-- In a part whose table and records agree STOP frees the spares that stand in, and no other channel (R24). -/
theorem StopLeaves.kept {s u : State} (h : StopLeaves s u) (agree : SubstitutionOk s) (ch : LampId) :
    StopKept (s.lamp ch) (u.lamp ch) (s.serving ch = limpMap ch) := by
  by_cases alone : (s.lamp ch).substituteFor = none
  · have own := (agree.setAside ch).mpr alone
    rw [h.others ch fun e p on pair => by simpa [alone] using (agree.engaged ch p).mpr ⟨e, on, pair⟩]
    split
    · rename_i changed
      exact stopKept_remapped (fun same => changed same.symm) (stopKept_cleared trivial alone own)
    · rename_i same
      exact stopKept_cleared (Eq.symm (not_not.mp same)) alone own
  · obtain ⟨p, stands⟩ := Option.ne_none_iff_exists'.mp alone
    obtain ⟨e, on, pair⟩ := (agree.engaged ch p).mp stands
    rw [h.spares e p ch on pair]
    split
    · rename_i changed
      exact stopKept_remapped (fun same => changed same.symm) (stopKept_released alone)
    · exact stopKept_released alone

theorem clearLockout_fanUnlocked (f : Fan) : f.clearLockout.state ≠ .lockedOut ∧ f.clearLockout.settings = f.settings := by
  unfold Fan.clearLockout
  split
  · simp [Fan.stop]
  · exact ⟨‹_›, rfl⟩

theorem clearFault_ended (x : Gauge) : x.clearFault.state ≠ .outputFault ∧ x.clearFault.cfg = x.cfg := by
  unfold Gauge.clearFault
  split
  · simp
  · exact ⟨‹_›, rfl⟩

/-- Settles O20: STOP releases, clears, enters LIMP, and settles. -/
theorem stopReturnsToLimp : Obligations.StopReturnsToLimp := by
  refine fun s rest h => ⟨fun away => ?_, fun limp => ?_⟩
  · have stopped : (s.popInbound rest).op.state ≠ .drive := by
      change s.op.state ≠ .drive
      rcases away with park | watch
      · simp [park]
      · simp [watch]
    have answer : stopOwner [] (s.popInbound rest) = { state := (s.popInbound rest).stopMapped.settle, code := .ok, data := [] } := by
      have state : (s.popInbound rest).op.state = s.op.state := rfl
      rw [← stopPart_eq]
      rcases away with park | watch
      · simp only [stopOwner, state, park]
      · simp only [stopOwner, state, watch]
    have leaves := stopMapped_leaves stopped
    generalize (s.popInbound rest).stopMapped = u at answer leaves
    have writes := leaves.writes
    obtain ⟨t, run, value, keeps, consistent⟩ := request_settles (k := .stop) h rfl answer writes.link
    have op := keeps.op.trans writes.op
    have report : t.report = (s.raise .state 0 0).report :=
      keeps.report.trans (writes.report.trans (raise_report_congr (s := s.popInbound rest) (t := s) rfl ..))
    have fanSettles := settle_fanLocked u
    have kept (agree : SubstitutionOk s) (ch : LampId) := leaves.kept ⟨agree.engaged, agree.paired, agree.single, agree.setAside, agree.function, agree.limp⟩ ch
    refine ⟨t, run, op, by rw [value]; rfl, report, fun f => ?_, keeps.scenes.trans writes.scenes, keeps.courtesy.trans writes.courtesy,
      keeps.hostSide.trans (congrArg Flash.hostSide writes.flash), keeps.hostHazard.trans (congrArg Flash.hostHazard writes.flash),
      keeps.rate.trans (show u.flash.rate = s.flash.rate by rw [writes.flash]; rfl), fun ch => ⟨?_, ?_⟩, fun agree ch => ?_, fun agree ch => ?_, fun e => ?_, ?_, ?_,
      fun g => ?_, keeps.inputs.trans writes.inputs, keeps.supply.trans writes.supply, keeps.meas.trans writes.meas, ?_, consistent⟩
    · obtain ⟨cls, -, base⟩ := keeps.fns f
      have cleared : u.fnRec f = { s.fnRec f with base := 0 } := by
        rw [State.fnRec, writes.fns]
        exact Vector.getElem_map ..
      exact ⟨base.trans (congrArg FnRec.base cleared), cls.trans (show (u.fnRec f).cls = _ by rw [cleared])⟩
    · rw [ne_eq, (keeps.lamps ch).lockedOut]
      exact leaves.unlocked ch
    · rw [serving_eq, if_pos (by rw [op])]
    · exact ⟨(keeps.lamps ch).fed.trans (kept agree ch).fed, (keeps.lamps ch).lampOut.trans (kept agree ch).lampOut⟩
    · have settled := keeps.lamps ch
      have stop := kept agree ch
      exact ⟨settled.cfg.trans stop.cfg, settled.setAside.trans stop.setAside, settled.substituteFor.trans stop.substituteFor,
        settled.retriesUsed.trans stop.retriesUsed, settled.onTime.trans stop.onTime⟩
    · have same : t.subEntry e = u.subEntry e := subEntry_congr keeps.subs e
      rw [same]
      exact ⟨leaves.pairs e, leaves.released e⟩
    · generalize u.settle = w at value fanSettles
      have same : t.fan = w.fan := by rw [value]
      rw [same, ne_eq, fanSettles, writes.fan]
      exact (clearLockout_fanUnlocked s.fan).1
    · refine keeps.fanSettings.trans ((congrArg Fan.settings writes.fan).trans ?_)
      exact (clearLockout_fanUnlocked s.fan).2
    · have gauge : GaugeKept (u.gauge g) (t.gauge g) := keeps.gauges g
      have cleared : u.gauge g = (s.gauge g).clearFault := by
        rw [State.gauge, writes.gauges]
        exact Vector.getElem_map ..
      obtain ⟨ended, cfg⟩ := clearFault_ended (s.gauge g)
      rw [cleared] at gauge
      refine ⟨?_, gauge.cfg.trans cfg⟩
      rcases gauge.state with same | ⟨-, run, -⟩
      · rwa [same]
      · simp [run]
    · rw [report, raise_mask]
  · have popLimp : (s.popInbound rest).op.state = .limp := limp
    have answer : stopOwner [] (s.popInbound rest) = { state := (s.popInbound rest).stopInLimp, code := .ok, data := [] } := by
      simp only [stopOwner, popLimp]
    unfold State.stopInLimp at answer
    have lamps := clearAllLamps_lamp (s.popInbound rest)
    have cleared := clearAllLamps_rest (s.popInbound rest)
    generalize (s.popInbound rest).clearAllLamps = c at answer lamps cleared
    obtain ⟨t, run, value, keeps, consistent⟩ := request_settles (k := .stop) h rfl answer (by rw [cleared])
    have settled (ch : LampId) : LampKept ((s.lamp ch).clearLockout) (t.lamp ch) := lamps ch ▸ keeps.lamps ch
    refine ⟨t, run, keeps.op, by rw [value]; rfl, fun ch => ?_, fun ch locked => ?_, fun ch unlocked => ?_, ?_, ?_, ?_, ?_, consistent⟩
    · rw [ne_eq, (settled ch).lockedOut]
      exact clearLockout_unlocked _
    · have kept := settled ch
      rw [LampRec.clearLockout, if_pos locked] at kept
      exact ⟨kept.retriesUsed, kept.onTime, kept.cfg⟩
    · have kept := settled ch
      rwa [LampRec.clearLockout, if_neg unlocked] at kept
    · exact keeps.report.trans (by rw [cleared]; rfl)
    · exact keeps.inputs.trans (by rw [cleared]; rfl)
    · exact keeps.supply.trans (by rw [cleared]; rfl)
    · exact keeps.scenes.trans (by rw [cleared]; rfl)

end Sys2Proof.Machine
end

section
/-! PROOF. What a settling leaves of the channels and the fan whose values stand: a grant that reaches them (O28). -/

namespace Sys2Proof.Machine

/-- A channel stays as it is, but for a grant that reaches it (R31). -/
def LampRec.Stays (c d : LampRec) : Prop := d = c ∨ (c.state = .queued ∧ d = c.enterInrush true)

/-- The fan stays as it is, but for a grant that reaches it (R31). -/
def Fan.Stays (f g : Fan) : Prop := g = f ∨ (f.state = .waiting ∧ g = f.takeGrant)

theorem LampRec.Stays.grants {c d e : LampRec} (h : c.Stays d) (k : d.Stays e) : c.Stays e := by
  rcases h with rfl | ⟨queued, rfl⟩
  · exact k
  · rcases k with rfl | ⟨again, -⟩
    · exact .inr ⟨queued, rfl⟩
    · simp [LampRec.enterInrush] at again

theorem takeGrant_runs (f : Fan) : f.takeGrant.state ≠ .stopped ∧ f.takeGrant.state ≠ .waiting ∧ f.takeGrant.step = f.step := by
  unfold Fan.takeGrant Fan.enterRamping
  split
  · split <;> simp
  · simp

theorem Fan.Stays.grants {f g h : Fan} (first : f.Stays g) (second : g.Stays h) : f.Stays h := by
  rcases first with rfl | ⟨waiting, rfl⟩
  · exact second
  · rcases second with rfl | ⟨again, -⟩
    · exact .inr ⟨waiting, rfl⟩
    · exact absurd again (takeGrant_runs f).2.1

/-- A record that stays is as fit as before. -/
theorem LampRec.Stays.fits {hold : Bool} {c d : LampRec} (h : c.Stays d) (fits : LampFits hold c) : LampFits hold d := by
  rcases h with rfl | ⟨queued, rfl⟩
  · exact fits
  · have bright := fits.toLampGoes.bright (.inl queued)
    refine ⟨⟨?_, ?_, ?_, ?_, ?_, ?_⟩, ?_, fits.handed⟩ <;> simp [LampRec.enterInrush, bright]

theorem LampRec.Stays.same {c d : LampRec} (h : c.Stays d) :
    d.cfg = c.cfg ∧ d.substituteFor = c.substituteFor ∧ d.demand = c.demand ∧ d.demandReason = c.demandReason := by
  rcases h with rfl | ⟨-, rfl⟩ <;> exact ⟨rfl, rfl, rfl, rfl⟩

/-- A fit record that is handed the value it holds stays as it is (R48). -/
theorem handed_same {hold : Bool} {c : LampRec} (fits : LampFits hold c) (signalling : Bool) :
    c.handed (c.demand, c.demandReason) hold signalling = c := by
  unfold LampRec.handed
  split
  · rename_i due
    have off : c.state = .off ∧ c.demand ≠ 0 := by simpa [fits.handed] using due
    obtain ⟨stands, reason⟩ := fits.heldOff off.1 off.2
    simp only [LampRec.takeDemand, off.1, if_neg off.2, LampRec.turnOn, stands, if_true]
    rw [← reason, ← fits.handed]
    simp only [reason]
    obtain ⟨⟩ := c
    cases off.1
    cases reason
    rfl
  · rfl

/-- A fit channel whose value a settling leaves stays as it is. -/
theorem settle_stays {u : State} {ch : LampId} (still : FlashStill u) (fits : LampFits u.supply.hold (u.lamp ch))
    (demand : (u.settle.lamp ch).demand = (u.lamp ch).demand) (reason : (u.settle.lamp ch).demandReason = (u.lamp ch).demandReason) :
    (u.lamp ch).Stays (u.settle.lamp ch) := by
  have ready := (ready_lamp u ch).trans (handedOn_lamp_eq u ch)
  obtain ⟨carried, carriedReason⟩ := arbitrate_demand u.ready ch
  rw [← settle_eq, ready_lamp] at carried carriedReason
  have want : u.handedOn.wantOf ch = ((u.lamp ch).demand, (u.lamp ch).demandReason) := by
    have handed := handAll_demand u.flashPoke.gaugePoke.resolveAll ch
    rw [handedOn_wantOf] at handed
    exact Prod.ext (handed.1.symm.trans (carried.symm.trans demand)) (handed.2.symm.trans (carriedReason.symm.trans reason))
  rw [flashPoke_still still, want, handed_same fits] at ready
  rw [settle_eq]
  rcases (arbitrate_grantPass u.ready).lamps ch with same | ⟨queued, granted⟩
  · exact .inl (same.trans ready)
  · rw [ready] at queued granted
    exact .inr ⟨queued, granted⟩

/-- A part that resolves and flashes as another. -/
structure Unmoved (s w : State) : Prop where
  resolves : ResolvesAlike s w
  flash : w.flash = s.flash
  op : w.op = s.op
  hold : w.supply.hold = s.supply.hold

theorem Unmoved.still {s w : State} (h : Unmoved s w) (flash : FlashOk s) (awake : s.op.state ≠ .sleep) : FlashStill w := by
  unfold FlashStill
  rw [wanted_eq, h.flash, h.op]
  by_cases idle : s.flash.phase = .idle
  · obtain ⟨hazIn, hostHazard, side⟩ := flash.wants awake idle
    refine .inr ?_
    rw [if_neg (by simp [hazIn, hostHazard])]
    split
    · exact side ‹_›
    · rfl
  · exact .inl idle

/-- Parts that resolve and flash alike want the same of a channel that serves alike. -/
theorem Unmoved.want {s t : State} (h : Unmoved s t) (before : Consistent s) (after : Consistent t) {ch : LampId}
    (cfg : (t.lamp ch).cfg = (s.lamp ch).cfg) (serving : t.serving ch = s.serving ch) : t.wantOf ch = s.wantOf ch := by
  have fns (f : Fn) : (t.fnRec f).resolved = (s.fnRec f).resolved ∧ (t.fnRec f).reason = (s.fnRec f).reason := by
    rw [(after.resolved f).1, (after.resolved f).2, h.resolves.resolve, State.resolvedReason, h.resolves.hold]
    exact ⟨(before.resolved f).1.symm, (before.resolved f).2.symm⟩
  have stopTurn : t.stopTurnChannel ch = s.stopTurnChannel ch := by
    unfold State.stopTurnChannel
    rw [h.resolves.state, cfg, serving]
  unfold State.wantOf State.flashValue
  simp only [serving, stopTurn, h.flash, (fns _).1, (fns _).2]

theorem Unmoved.settles {s w t : State} (h : Unmoved s w) (k : SettleKeeps w t) (flash : t.flash = w.flash) : Unmoved s t := by
  obtain ⟨⟨fns, scenes, courtesy, brake, state, ign, lighting, hold, shed⟩, flash', op, held⟩ := h
  exact {
    resolves := {
      fns := fun f => by
        obtain ⟨cls, fed, base⟩ := k.fns f
        obtain ⟨cls', fed', base'⟩ := fns f
        exact ⟨cls.trans cls', fed.trans fed', base.trans base'⟩
      scenes := by rw [k.scenes, scenes]
      courtesy := by rw [k.courtesy, courtesy]
      brake := (level_congr k.inputs _).trans brake
      state := by rw [k.op, state]
      ign := fun limp => (level_congr k.inputs _).trans (ign (by rw [← k.op]; exact limp))
      lighting := by rw [k.op, lighting]
      hold := by rw [k.supply, hold]
      shed := by rw [k.supply, shed] }
    flash := flash.trans flash'
    op := k.op.trans op
    hold := by rw [k.supply, held] }

/-- A channel of a consistent part that still serves as it did stays as it is while a cause is settled. -/
theorem Unmoved.stays {s w : State} (h : Unmoved s w) (consistent : Consistent s) (lamps : LampsOk s) (flash : FlashOk s)
    (awake : s.op.state ≠ .sleep) {ch : LampId} (serving : w.serving ch = s.serving ch) (stays : (s.lamp ch).Stays (w.lamp ch)) :
    (s.lamp ch).Stays (w.settle.lamp ch) := by
  have still := h.still flash awake
  have keeps := settle_keeps w
  have settled := settle_consistent w
  have engine : w.settle.flash = w.flash := (settle_flash _).trans (congrArg State.flash (flashPoke_still still))
  obtain ⟨cfg, -, demand, reason⟩ := stays.same
  have want := (h.settles keeps engine).want consistent settled ((keeps.lamps ch).cfg.trans cfg)
    ((serving_congr keeps.op keeps.lamps ch).trans serving)
  refine stays.grants (settle_stays still (h.hold ▸ stays.fits (lampsOk_iff.mp lamps ch)) ?_ ?_)
  · rw [(settled.demands ch).1, want, demand, (consistent.demands ch).1]
  · rw [(settled.demands ch).2, want, reason, (consistent.demands ch).2]

/-- A fan at its resolved step stays as it is while a cause is settled, unless it stands stopped with a step to take. -/
theorem settle_fan_stays {w : State} (step : (w.resolve .fan).1 = w.fan.step)
    (stopped : w.fan.state = .stopped → w.fan.step ≠ 0 → w.supply.hold = true) : w.fan.Stays w.settle.fan := by
  have ready : w.ready.fan = w.fan := by
    rw [ready_fan, step, Fan.follows, if_pos rfl]
    refine if_neg fun ⟨state, nonzero, free⟩ => ?_
    rw [stopped state nonzero] at free
    cases free
  rw [settle_eq]
  rcases (arbitrate_grantPass w.ready).fan with same | ⟨waiting, granted⟩
  · exact .inl (same.trans ready)
  · rw [ready] at waiting granted
    exact .inr ⟨waiting, granted⟩

/-- The fan of a consistent part stays as it is while a cause is settled. -/
theorem Unmoved.fanStays {s w : State} (h : Unmoved s w) (consistent : Consistent s) (follows : FollowsOk s) (stays : s.fan.Stays w.fan) :
    s.fan.Stays w.settle.fan := by
  have step : (w.resolve .fan).1 = s.fan.step := by
    rw [h.resolves.resolve, consistent.fanStep, (consistent.resolved .fan).1]
  refine stays.grants (settle_fan_stays ?_ fun stopped nonzero => ?_)
  · rcases stays with same | ⟨-, granted⟩
    · rw [step, same]
    · rw [step, granted, (takeGrant_runs _).2.2]
  · rcases stays with same | ⟨-, granted⟩
    · rw [same] at stopped nonzero
      rw [h.hold]
      exact follows.stopped stopped nonzero
    · rw [granted] at stopped
      exact absurd stopped (takeGrant_runs _).1

end Sys2Proof.Machine
end

section
/-! PROOF. What FAULTCLR lifts, releases and examines (O28). -/

namespace Sys2Proof.Machine

/-- FAULTCLR of `b` names a channel number (R27). -/
def Names (b n : Nat) : Prop := n = b ∨ b = 255

/-- FAULTCLR lifts a lamp channel's lockout (R15, R27). -/
def Lifted (s : State) (b : Nat) (ch : LampId) : Prop := Names b ch.val ∧ (s.lamp ch).state = .lockedOut

/-- FAULTCLR frees a spare: an entry engaged for it is released with its primary (R24). -/
def FreedWith (s : State) (b : Nat) (q : LampId) : Prop :=
  ∃ e p, (s.subEntry e).engaged = true ∧ (s.subEntry e).pair = some (p, q) ∧ Lifted s b p

/-- What FAULTCLR writes before the cause is settled (R27, R24, R100, R117). -/
structure Cleared (s c : State) (b : Nat) : Prop where
  op : c.op = s.op
  inputs : c.inputs = s.inputs
  supply : c.supply = s.supply
  link : c.link = s.link
  report : c.report = s.report
  resolver : c.resolver = s.resolver
  flash : c.flash = s.flash
  meas : c.bank.meas = s.bank.meas
  pairs : ∀ e, (c.subEntry e).pair = (s.subEntry e).pair
  engaged : ∀ e, (c.subEntry e).engaged = true ↔
    (s.subEntry e).engaged = true ∧ ¬ ∃ p q, (s.subEntry e).pair = some (p, q) ∧ Lifted s b p
  freed : ∀ q, FreedWith s b q → c.lamp q = (s.lamp q).freed
  lifted : ∀ ch, Lifted s b ch → ¬ FreedWith s b ch → c.lamp ch = (s.lamp ch).clearLockout
  others : ∀ ch, ¬ Lifted s b ch → ¬ FreedWith s b ch → c.lamp ch = s.lamp ch
  fan : (Names b 14 ∧ c.fan = s.fan.clearLockout) ∨ (¬ Names b 14 ∧ c.fan = s.fan)
  gauges : ∀ g : GaugeId, (Names b (15 + g.val) ∧ c.gauge g = (s.gauge g).clearFault) ∨ (¬ Names b (15 + g.val) ∧ c.gauge g = s.gauge g)

section
variable {s c : State} {b : Nat}

/-- No channel that is lifted or freed stands locked out, and the others stand as before. -/
theorem Cleared.locked (h : Cleared s c b) (ch : LampId) :
    (c.lamp ch).state = .lockedOut ↔ (s.lamp ch).state = .lockedOut ∧ ¬ Lifted s b ch ∧ ¬ FreedWith s b ch := by
  by_cases freed : FreedWith s b ch
  · rw [h.freed ch freed]
    simp [freed, LampRec.freed, LampRec.remapped, LampRec.release]
  · by_cases lifted : Lifted s b ch
    · rw [h.lifted ch lifted freed]
      simp [lifted, clearLockout_unlocked]
    · rw [h.others ch lifted freed]
      simp [lifted, freed]

theorem Cleared.restored (h : Cleared s c b) {ch : LampId} (named : Lifted s b ch ∨ FreedWith s b ch) :
    (c.lamp ch).state ≠ .lockedOut ∧ (c.lamp ch).retriesUsed = 0 ∧ (c.lamp ch).onTime = 0 := by
  refine ⟨fun locked => ?_, ?_⟩
  · obtain ⟨-, lifted, freed⟩ := (h.locked ch).mp locked
    exact named.elim lifted freed
  · by_cases freed : FreedWith s b ch
    · rw [h.freed ch freed]
      exact ⟨rfl, rfl⟩
    · have lifted := named.resolve_right freed
      rw [h.lifted ch lifted freed, LampRec.clearLockout, if_pos lifted.2]
      exact ⟨rfl, rfl⟩

/-- A channel that is not freed keeps its settings. -/
theorem Cleared.settings (h : Cleared s c b) {ch : LampId} (freed : ¬ FreedWith s b ch) :
    (c.lamp ch).cfg = (s.lamp ch).cfg ∧ (c.lamp ch).substituteFor = (s.lamp ch).substituteFor := by
  by_cases lifted : Lifted s b ch
  · rw [h.lifted ch lifted freed, LampRec.clearLockout, if_pos lifted.2]
    exact ⟨rfl, rfl⟩
  · rw [h.others ch lifted freed]
    exact ⟨rfl, rfl⟩

/-- The table that FAULTCLR examines (R23). -/
theorem Cleared.stands (h : Cleared s c b) {x : State} (k : SettleKeeps c x) (configured : s.op.state ≠ .limp) : TableStands s x := by
  have subs := subEntry_congr k.subs
  exact {
    op := by rw [k.op, h.op]; exact configured
    pairs := fun e => by rw [subs, h.pairs]
    engaged := fun e on => ((h.engaged e).mp (subs e ▸ on)).1
    released := fun e p q on off pair locked => by
      rw [(k.lamps p).lockedOut, h.locked] at locked
      have stays : (c.subEntry e).engaged = true := (h.engaged e).mpr ⟨on, fun ⟨p', q', pair', lifted⟩ => by
        obtain ⟨rfl, rfl⟩ : p = p' ∧ q = q' := by simpa using pair.symm.trans pair'
        exact locked.2.1 lifted⟩
      rw [subs, stays] at off
      cases off
    own := fun agree q unused => by
      rw [(k.lamps q).cfg]
      by_cases freed : FreedWith s b q
      · rw [h.freed q freed]
        rfl
      · have alone : (s.lamp q).substituteFor = none := by
          rw [Option.eq_none_iff_forall_ne_some]
          intro p stands
          obtain ⟨e, on, pair⟩ := (agree.engaged q p).mp stands
          refine unused e p ?_ (by rw [subs, h.pairs, pair])
          rw [subs, h.engaged]
          refine ⟨on, fun ⟨p', q', pair', lifted⟩ => freed ?_⟩
          obtain ⟨rfl, rfl⟩ : p = p' ∧ q = q' := by simpa using pair.symm.trans pair'
          exact ⟨e, p, on, pair, lifted⟩
        rw [(h.settings freed).1, (agree.setAside q).mpr alone]
        rfl
    primary := fun p locked => by
      rw [(k.lamps p).lockedOut, h.locked] at locked
      exact ⟨locked.1, (k.lamps p).cfg.trans (h.settings locked.2.2).1⟩ }

/-- Where the table and the records agree a channel that is not freed serves as before. -/
theorem Cleared.fn (h : Cleared s c b) (agree : SubstitutionOk s) (ch : LampId) : (c.lamp ch).cfg.fn = (s.lamp ch).cfg.fn := by
  by_cases freed : FreedWith s b ch
  · rw [h.freed ch freed]
    cases own : (s.lamp ch).setAside with
    | none => simp [LampRec.freed, LampRec.remapped, LampRec.release, own]
    | some x => simpa [LampRec.freed, LampRec.remapped, LampRec.release, own] using agree.function ch x own
  · rw [(h.settings freed).1]

/-- A part that has the functions of another serves a channel alike where it stands in alike. -/
theorem serving_alike {s w : State} (op : w.op = s.op) (fn : ∀ k, (w.lamp k).cfg.fn = (s.lamp k).cfg.fn) {ch : LampId}
    (stands : (w.lamp ch).substituteFor = (s.lamp ch).substituteFor) : w.serving ch = s.serving ch := by
  rw [serving_eq, serving_eq, op, stands]
  cases (s.lamp ch).substituteFor with
  | none => simp only [fn]
  | some p => simp only [fn]

theorem Cleared.unmoved (h : Cleared s c b) : Unmoved s c where
  resolves := {
    fns := fun f => by rw [State.fnRec, h.resolver]; exact ⟨rfl, rfl, rfl⟩
    scenes := by rw [h.resolver]
    courtesy := by rw [h.resolver]
    brake := level_congr h.inputs _
    state := by rw [h.op]
    ign := fun _ => level_congr h.inputs _
    lighting := by rw [h.op]
    hold := by rw [h.supply]
    shed := by rw [h.supply] }
  flash := h.flash
  op := h.op
  hold := by rw [h.supply]

end

theorem Examined.unmoved {s x v : State} (h : Examined x v) (k : Unmoved s x) : Unmoved s v := by
  obtain ⟨⟨fns, scenes, courtesy, brake, state, ign, lighting, hold, shed⟩, flash, op, held⟩ := k
  rw [show v = _ from h]
  exact ⟨⟨fns, scenes, courtesy, brake, state, ign, lighting, hold, shed⟩, flash, op, held⟩

/-! ### What is lifted (R27) -/

/-- Nothing is released where no entry meets the condition. -/
theorem releasedBelow_none (s : State) : ReleasedBelow (fun _ => false) s s 3 :=
  ⟨.refl s, rfl, rfl, fun _ => rfl, fun e => by simp [EntryReleases], fun e p q _ due => by simpa using due.2.2, fun _ _ => rfl⟩

/-- A release of the entries whose primaries are lifted, with the lockouts lifted. -/
theorem cleared_release {s r c : State} {b : Nat} {which : LampId × LampId → Bool}
    (names : ∀ (e : Fin 3) p q, (s.subEntry e).pair = some (p, q) → (which (p, q) = true ↔ Lifted s b p)) (r_eq : ReleasedBelow which s r 3)
    (rest : c = { r with bank := { r.bank with lamps := c.bank.lamps }, fan := c.fan, gauges := c.gauges })
    (lamps : ∀ ch : LampId, (Names b ch.val ∧ c.lamp ch = (r.lamp ch).clearLockout) ∨ (¬ Names b ch.val ∧ c.lamp ch = r.lamp ch))
    (fan : (Names b 14 ∧ c.fan = s.fan.clearLockout) ∨ (¬ Names b 14 ∧ c.fan = s.fan))
    (gauges : ∀ g : GaugeId, (Names b (15 + g.val) ∧ c.gauge g = (s.gauge g).clearFault) ∨ (¬ Names b (15 + g.val) ∧ c.gauge g = s.gauge g)) :
    Cleared s c b := by
  have releases (e : Fin 3) (p q : LampId) : EntryReleases which s e p q ↔
      (s.subEntry e).engaged = true ∧ (s.subEntry e).pair = some (p, q) ∧ Lifted s b p :=
    and_congr_right fun _ => and_congr_right fun pair => names e p q pair
  have subs (e : Fin 3) : c.subEntry e = r.subEntry e := by rw [rest]; rfl
  have x := r_eq.examined
  have unfreed (ch : LampId) (freed : ¬ FreedWith s b ch) : r.lamp ch = s.lamp ch :=
    r_eq.others ch fun e p _ due => freed ⟨e, p, (releases e p ch).mp due⟩
  exact {
    op := by rw [rest]; exact x.op
    inputs := by rw [rest]; exact x.inputs
    supply := by rw [rest]; exact x.supply
    link := by rw [rest]; exact x.link
    report := by rw [rest]; exact r_eq.report
    resolver := by rw [rest]; exact x.resolver
    flash := by rw [rest]; exact x.flash
    meas := by rw [rest]; exact r_eq.meas
    pairs := fun e => by rw [subs, r_eq.pairs]
    engaged := fun e => by
      rw [subs, r_eq.engaged]
      refine and_congr_right fun on => not_congr ?_
      simp only [releases]
      exact ⟨fun ⟨_, p, q, _, due⟩ => ⟨p, q, due⟩, fun ⟨p, q, due⟩ => ⟨e.isLt, p, q, on, due⟩⟩
    freed := fun q ⟨e, p, due⟩ => by
      have record := r_eq.spares e p q e.isLt ((releases e p q).mpr due)
      rw [← record]
      rcases lamps q with ⟨-, cleared⟩ | ⟨-, same⟩
      · rw [cleared, record]
        exact if_neg (by simp [LampRec.freed, LampRec.remapped, LampRec.release])
      · exact same
    lifted := fun ch lifted freed => by
      rcases lamps ch with ⟨-, cleared⟩ | ⟨other, -⟩
      · rw [cleared, unfreed ch freed]
      · exact absurd lifted.1 other
    others := fun ch lifted freed => by
      rcases lamps ch with ⟨named, cleared⟩ | ⟨-, same⟩
      · rw [cleared, unfreed ch freed]
        exact if_neg fun locked => lifted ⟨named, locked⟩
      · rw [same, unfreed ch freed]
    fan := fan
    gauges := gauges }

theorem names_iff {b n : Nat} (single : b ≠ 255) : Names b n ↔ n = b := or_iff_left single

theorem setGauge_clears (s : State) {b : Nat} (single : b ≠ 255) {g : GaugeId} (here : b = 15 + g.val) :
    Cleared s (s.setGauge g (s.gauge g).clearFault) b := by
  refine cleared_release (which := fun _ => false) (fun e p q _ => ?_) (releasedBelow_none s) rfl (fun ch => .inr ⟨?_, rfl⟩)
    (.inr ⟨?_, rfl⟩) fun k => ?_
  · simp only [reduceCtorEq, false_iff, Lifted, names_iff single]
    omega
  · rw [names_iff single]
    omega
  · rw [names_iff single]
    omega
  · rw [names_iff single, State.gauge_setGauge]
    by_cases same : k = g
    · subst same
      exact .inl ⟨here.symm, if_pos rfl⟩
    · exact .inr ⟨fun number => same (Fin.ext (by omega)), if_neg same⟩

theorem fan_clears (s : State) : Cleared s { s with fan := s.fan.clearLockout } 14 := by
  refine cleared_release (which := fun _ => false) (fun e p q _ => ?_) (releasedBelow_none s) rfl (fun ch => .inr ⟨?_, rfl⟩)
    (.inl ⟨.inl rfl, rfl⟩) fun k => .inr ⟨?_, rfl⟩
  · simp only [reduceCtorEq, false_iff, Lifted, names_iff (by decide : 14 ≠ 255)]
    omega
  · rw [names_iff (by decide)]
    omega
  · rw [names_iff (by decide)]
    omega

theorem everything_clears (s : State) : Cleared s s.clearEverything 255 := by
  have released := releaseWhere_spec (fun p => (s.lamp p.1).state == .lockedOut) s
  unfold State.clearEverything
  generalize s.releaseWhere _ = r at released ⊢
  have lamps := clearAllLamps_lamp r
  have rest := clearAllLamps_rest r
  have x := released.examined.trans (clearAllLamps_examined r)
  dsimp only
  generalize r.clearAllLamps = v at lamps rest x ⊢
  have all (n : Nat) : Names 255 n := .inr rfl
  refine cleared_release (fun e p q _ => ?_) released (by rw [rest]) (fun ch => .inl ⟨all _, lamps ch⟩) (.inl ⟨all _, ?_⟩)
    fun k => .inl ⟨all _, ?_⟩
  · simp [Lifted, all]
  · exact congrArg Fan.clearLockout x.fan
  · refine (Vector.getElem_map ..).trans ?_
    rw [x.gauges]
    rfl

/-- A channel that stands locked out is lifted, with the entries engaged for it released. -/
theorem lamp_clears (s : State) (ch : LampId) (locked : (s.lamp ch).state = .lockedOut) :
    Cleared s ((s.releaseWhere fun p => p.1 == ch).clearLamp ch) ch.val := by
  have single : ch.val ≠ 255 := by omega
  have released := releaseWhere_spec (fun p => p.1 == ch) s
  generalize s.releaseWhere _ = r at released ⊢
  have lamps (c : LampId) : (r.clearLamp ch).lamp c = if c = ch then (r.lamp ch).clearLockout else r.lamp c := State.lamp_setLamp ..
  refine cleared_release (fun e p q _ => ?_) released rfl (fun c => ?_) (.inr ⟨?_, released.examined.fan⟩) fun k => .inr ⟨?_, ?_⟩
  · simp only [beq_iff_eq, Lifted, names_iff single]
    refine ⟨fun same => ⟨congrArg Fin.val same, same ▸ locked⟩, fun ⟨same, _⟩ => Fin.ext same⟩
  · rw [lamps, names_iff single, ← Fin.ext_iff]
    by_cases same : c = ch
    · subst same
      exact .inl ⟨rfl, if_pos rfl⟩
    · exact .inr ⟨same, if_neg same⟩
  · rw [names_iff single]
    omega
  · rw [names_iff single]
    omega
  · change r.gauge k = s.gauge k
    rw [State.gauge, released.examined.gauges]
    rfl

/-- A named channel that does not stand locked out leaves nothing to lift. -/
theorem nothing_clears {s : State} (ch : LampId) (unlocked : (s.lamp ch).state ≠ .lockedOut) : Cleared s s ch.val := by
  have single : ch.val ≠ 255 := by omega
  refine cleared_release (which := fun _ => false) (fun e p q _ => ?_) (releasedBelow_none s) rfl (fun c => ?_) (.inr ⟨?_, rfl⟩)
    fun k => .inr ⟨?_, rfl⟩
  · simp only [reduceCtorEq, false_iff, Lifted, names_iff single, not_and, ← Fin.ext_iff]
    rintro rfl
    exact unlocked
  · rw [names_iff single, ← Fin.ext_iff]
    by_cases same : c = ch
    · exact .inl ⟨same, (if_neg (same ▸ unlocked)).symm⟩
    · exact .inr ⟨same, rfl⟩
  · rw [names_iff single]
    omega
  · rw [names_iff single]
    omega

end Sys2Proof.Machine
end

section
/-! PROOF. FAULTCLR lifts lockouts (O28). -/

namespace Sys2Proof.Machine

/-- An examination without an occasion does nothing. -/
theorem examine_never (s : State) : s.examine (fun _ => false) = s := by
  unfold State.examine
  generalize allSubs = l
  induction l generalizing s with
  | nil => rfl
  | cons e l ih =>
    rw [List.foldl_cons, if_neg (by simp)]
    exact ih s

/-- What FAULTCLR does before the last settling: it clears, settles where a lamp channel leaves LOCKED_OUT, and examines the entries of
the spares that this frees (R27). -/
structure Clears (s : State) (b : Nat) (free : LampId → Bool) (c x : State) : Prop where
  cleared : Cleared s c b
  first : x = c ∨ (x = c.settle ∧ ¬ Names b 14)
  occasions : ∀ q, free q = true → Lifted s b q ∨ FreedWith s b q
  complete : ∀ p q, (c.lamp p).state = .lockedOut → Lifted s b q ∨ FreedWith s b q → free q = true

/-- A part is what FAULTCLR makes of another before the last settling. -/
def ClearsTo (s : State) (b : Nat) (v : State) : Prop :=
  ∃ (free : LampId → Bool) (c x : State), v = x.examine (fun y => free y.2) ∧ Clears s b free c x

/-- Where no entry may be due nothing is examined. -/
theorem Cleared.clearsTo {s c : State} {b : Nat} (cleared : Cleared s c b)
    (none : ∀ p q, (c.lamp p).state = .lockedOut → ¬ (Lifted s b q ∨ FreedWith s b q)) : ClearsTo s b c :=
  ⟨fun _ => false, c, c, (examine_never c).symm, cleared, .inl rfl, fun _ on => (Bool.false_ne_true on).elim,
    fun p q locked named => (none p q locked named).elim⟩

/-- Without a channel that is lifted none is freed. -/
theorem none_freed {s : State} {b : Nat} (none : ∀ ch, ¬ Lifted s b ch) (q : LampId) : ¬ (Lifted s b q ∨ FreedWith s b q) := by
  rintro (h | ⟨e, p, -, -, h⟩)
  · exact none q h
  · exact none p h

/-- One channel that is lifted frees itself and the spares that stand in for it. -/
theorem freedBy_iff {s : State} {ch : LampId} (locked : (s.lamp ch).state = .lockedOut) (q : LampId) :
    s.freedBy ch q = true ↔ Lifted s ch.val q ∨ FreedWith s ch.val q := by
  have lifted (k : LampId) : Lifted s ch.val k ↔ k = ch := by
    rw [Lifted, names_iff (by omega), ← Fin.ext_iff]
    exact ⟨And.left, fun same => ⟨same, same ▸ locked⟩⟩
  have all (e : Fin 3) : e ∈ allSubs := by revert e; decide
  simp only [State.freedBy, FreedWith, lifted, Bool.or_eq_true, beq_iff_eq, List.any_eq_true, Bool.and_eq_true]
  refine or_congr_right ⟨fun ⟨e, _, on, pair⟩ => ⟨e, ch, on, pair, rfl⟩, fun ⟨e, p, on, pair, same⟩ => ⟨e, all e, on, same ▸ pair⟩⟩

/-- FAULTCLR of a lamp channel. -/
theorem clearNamedLamp_clears (s : State) (ch : LampId) : ClearsTo s ch.val (s.clearNamedLamp ch) := by
  have single : ch.val ≠ 255 := by omega
  unfold State.clearNamedLamp
  by_cases locked : (s.lamp ch).state = .lockedOut
  · rw [if_pos locked]
    refine ⟨s.freedBy ch, _, _, rfl, lamp_clears s ch locked, .inr ⟨rfl, ?_⟩, fun q => (freedBy_iff locked q).mp,
      fun p q _ => (freedBy_iff locked q).mpr⟩
    rw [names_iff single]
    omega
  · rw [if_neg locked]
    refine (nothing_clears ch locked).clearsTo fun p q _ => none_freed (fun k lifted => ?_) q
    have same : k = ch := Fin.ext ((names_iff single).mp lifted.1)
    exact locked (same ▸ lifted.2)

/-- FAULTCLR takes one of five ways (R27). -/
theorem clearTarget_clears (s : State) {b : Nat} (known : b ≤ 16 ∨ b = 255) : ClearsTo s b (s.clearTarget b) := by
  unfold State.clearTarget
  by_cases all : b = 255
  · rw [if_pos all]
    subst all
    refine (everything_clears s).clearsTo fun p q locked _ => ?_
    obtain ⟨stood, lifted, -⟩ := ((everything_clears s).locked p).mp locked
    exact lifted ⟨.inr rfl, stood⟩
  · rw [if_neg all]
    by_cases lamp : b < 14
    · rw [dif_pos lamp]
      exact clearNamedLamp_clears s ⟨b, lamp⟩
    · rw [dif_neg lamp]
      have unnamed : ∀ q, ¬ (Lifted s b q ∨ FreedWith s b q) := none_freed fun ch lifted => by
        have same := (names_iff all).mp lifted.1
        omega
      by_cases fan : b = 14
      · rw [if_pos fan]
        subst fan
        exact (fan_clears s).clearsTo fun p q _ => unnamed q
      · rw [if_neg fan]
        by_cases first : b = 15
        · rw [if_pos first]
          exact (setGauge_clears s all (g := 0) first).clearsTo fun p q _ => unnamed q
        · rw [if_neg first]
          refine (setGauge_clears s all (g := 1) ?_).clearsTo fun p q _ => unnamed q
          change b = 16
          omega

end Sys2Proof.Machine
end

section
/-! PROOF. FAULTCLR lifts lockouts (O28). -/

namespace Sys2Proof.Machine

section
variable {s t c x : State} {b : Nat} {free : LampId → Bool} {l : Link}

theorem Clears.keeps (h : Clears s b free c x) : SettleKeeps c x := by
  rcases h.first with same | ⟨settled, -⟩
  · rw [same]
    exact .refl c
  · rw [settled]
    exact settle_keeps c

/-- The part that FAULTCLR leaves follows from an examination of the freed spares' entries. -/
theorem Clears.examinedFrom (h : Clears s b free c x) (configured : s.op.state ≠ .limp)
    (k : SettleKeeps { x.examine (fun y => free y.2) with link := l } t) : ExaminedFrom free s x t :=
  (h.cleared.stands h.keeps configured).examined k

theorem Clears.restored (h : Clears s b free c x) (e : ExaminedFrom free s x t) {ch : LampId} (named : Lifted s b ch ∨ FreedWith s b ch) :
    (t.lamp ch).state ≠ .lockedOut ∧ (t.lamp ch).retriesUsed = 0 ∧ (t.lamp ch).onTime = 0 := by
  obtain ⟨unlocked, retries, onTime⟩ := h.cleared.restored named
  have kept := h.keeps.lamps ch
  obtain ⟨-, -, retries', onTime', -⟩ := e.keeps ch
  rw [ne_eq, e.locked, kept.lockedOut]
  exact ⟨unlocked, retries'.trans (kept.retriesUsed.trans retries), onTime'.trans (kept.onTime.trans onTime)⟩

theorem Clears.others (h : Clears s b free c x) (e : ExaminedFrom free s x t) {ch : LampId} (lifted : ¬ Lifted s b ch)
    (freed : ¬ FreedWith s b ch) (alone : ∀ e p, ¬ Engages s t e p ch) : LampKept (s.lamp ch) (t.lamp ch) := by
  rw [← h.cleared.others ch lifted freed]
  exact (h.keeps.lamps ch).trans (e.others alone)

/-- The entries released are those whose primaries are lifted. -/
theorem Clears.released (h : Clears s b free c x) (k : ExaminedFrom free s x t) {e : Fin 3} {p q : LampId}
    (on : (s.subEntry e).engaged = true) (pair : (s.subEntry e).pair = some (p, q)) :
    (t.subEntry e).engaged = false ↔ Lifted s b p := by
  obtain ⟨v, below, subs, -⟩ := k.below
  have stands : (x.subEntry e).engaged = true ↔ ¬ Lifted s b p := by
    rw [subEntry_congr h.keeps.subs, h.cleared.engaged, and_iff_right on, not_iff_not]
    refine ⟨fun ⟨p', q', pair', lifted⟩ => ?_, fun lifted => ⟨p, q, pair, lifted⟩⟩
    obtain ⟨rfl, rfl⟩ : p = p' ∧ q = q' := by simpa using pair.symm.trans pair'
    exact lifted
  rw [subs, ← Bool.not_eq_true, below.engaged, not_or, stands, not_not]
  refine and_iff_left_of_imp fun lifted => ?_
  rintro ⟨-, p', q', due⟩
  obtain ⟨rfl, rfl⟩ : p = p' ∧ q = q' := by simpa using pair.symm.trans ((k.stands.pairs e).symm.trans due.pair)
  exact (k.locked p).not.mp (h.restored k (.inl lifted)).1 due.primary

/-- A freed spare that does not stand in again has its own settings back (R24). -/
theorem Clears.returned (h : Clears s b free c x) (k : ExaminedFrom free s x t) {q : LampId} (freed : FreedWith s b q)
    (alone : ∀ e p, ¬ Engages s t e p q) : (t.lamp q).substituteFor = none ∧ (t.lamp q).setAside = none ∧
      (t.lamp q).cfg = (s.lamp q).setAside.getD (s.lamp q).cfg := by
  have kept := (h.keeps.lamps q).trans (k.others alone)
  rw [h.cleared.freed q freed] at kept
  exact ⟨kept.substituteFor, kept.setAside, kept.cfg⟩

theorem Clears.due (h : Clears s b free c x) (k : ExaminedFrom free s x t) {e : Fin 3} {p q : LampId}
    (pair : (t.subEntry e).pair = some (p, q)) (primary : (t.lamp p).state = .lockedOut) (named : Lifted s b q ∨ FreedWith s b q) :
    ∃ e' p', (t.subEntry e').engaged = true ∧ (t.subEntry e').pair = some (p', q) := by
  have locked := primary
  rw [k.locked, (h.keeps.lamps p).lockedOut] at locked
  exact k.due pair (h.complete p q locked named) primary (h.restored k named).1

/-- The fan's lockout, retries and settings after FAULTCLR (R100). -/
theorem Clears.fan (h : Clears s b free c x) (k : SettleKeeps { x.examine (fun y => free y.2) with link := l } t)
    (locked : t.fan.state = .lockedOut ↔ (x.examine fun y => free y.2).fan.state = .lockedOut) :
    (t.fan.state = .lockedOut ↔ c.fan.state = .lockedOut) ∧ t.fan.retriesUsed = c.fan.retriesUsed ∧ t.fan.settings = c.fan.settings := by
  have examined := (examine_examined x fun y => free y.2).fan
  generalize x.examine (fun y => free y.2) = v at k locked examined
  have first : x.fan.state = .lockedOut ↔ c.fan.state = .lockedOut := by
    rcases h.first with same | ⟨settled, -⟩
    · rw [same]
    · rw [settled, settle_fanLocked]
  have retries : t.fan.retriesUsed = v.fan.retriesUsed := k.fanRetries
  have settings : t.fan.settings = v.fan.settings := k.fanSettings
  rw [locked, retries, settings, examined]
  exact ⟨first, h.keeps.fanRetries, h.keeps.fanSettings⟩

theorem Clears.gauge (h : Clears s b free c x) (k : SettleKeeps { x.examine (fun y => free y.2) with link := l } t) (g : GaugeId) :
    GaugeKept (c.gauge g) (t.gauge g) := by
  have examined := (examine_examined x fun y => free y.2).gauges
  generalize x.examine (fun y => free y.2) = v at k examined
  have last : GaugeKept (v.gauge g) (t.gauge g) := k.gauges g
  rw [State.gauge, examined] at last
  exact (h.keeps.gauges g).trans last

/-! ### What stays in a part whose records agree (R31, R92, R93) -/

theorem Clears.unmoved (h : Clears s b free c x) (flash : FlashOk s) (awake : s.op.state ≠ .sleep) : Unmoved s x := by
  have unmoved := h.cleared.unmoved
  rcases h.first with same | ⟨settled, -⟩
  · rw [same]
    exact unmoved
  · rw [settled]
    exact unmoved.settles (settle_keeps c)
      ((settle_flash c).trans (congrArg State.flash (flashPoke_still (unmoved.still flash awake))))

/-- A channel that is neither lifted nor freed nor engaged stays as it is, but for a grant. -/
theorem Clears.stays (h : Clears s b free c x) (consistent : Consistent s) (lamps : LampsOk s) (flash : FlashOk s) (agree : SubstitutionOk s)
    (awake : s.op.state ≠ .sleep) {ch : LampId} (lifted : ¬ Lifted s b ch) (freed : ¬ FreedWith s b ch)
    (alone : ∀ e p, ¬ EntryEngages (fun y => free y.2) x e p ch) :
    (s.lamp ch).Stays ((x.examine fun y => free y.2).settle.lamp ch) := by
  have cleared := h.cleared.others ch lifted freed
  have first : (s.lamp ch).Stays (x.lamp ch) := by
    rcases h.first with same | ⟨settled, -⟩
    · rw [same]
      exact .inl cleared
    · rw [settled]
      refine h.cleared.unmoved.stays consistent lamps flash awake ?_ (.inl cleared)
      exact serving_alike h.cleared.op (h.cleared.fn agree) (by rw [cleared])
  have fn (k : LampId) : (x.lamp k).cfg.fn = (s.lamp k).cfg.fn := by rw [(h.keeps.lamps k).cfg, h.cleared.fn agree]
  have below := examine_spec x fun y => free y.2
  have unmoved := (examine_examined x fun y => free y.2).unmoved (h.unmoved flash awake)
  generalize x.examine (fun y => free y.2) = v at below unmoved
  have here : v.lamp ch = x.lamp ch := below.others ch fun e p _ => alone e p
  have fnNow (k : LampId) : (v.lamp k).cfg.fn = (s.lamp k).cfg.fn := by
    by_cases spare : ∃ e p, EntryEngages (fun y => free y.2) x e p k
    · obtain ⟨e, p, due⟩ := spare
      rw [below.spares e p k e.isLt due]
      exact fn k
    · rw [below.others k fun e p _ due => spare ⟨e, p, due⟩, fn]
  exact unmoved.stays consistent lamps flash awake (serving_alike unmoved.op fnNow (by rw [here]; exact first.same.2.1)) (here ▸ first)

/-- A fan whose lockout is not lifted stays as it is, but for a grant. -/
theorem Clears.fanStays (h : Clears s b free c x) (consistent : Consistent s) (follows : FollowsOk s) (flash : FlashOk s)
    (awake : s.op.state ≠ .sleep) (unlifted : ¬ Names b 14 ∨ s.fan.state ≠ .lockedOut) :
    s.fan.Stays (x.examine fun y => free y.2).settle.fan := by
  have cleared : c.fan = s.fan := by
    rcases h.cleared.fan with ⟨named, cleared⟩ | ⟨-, same⟩
    · rw [cleared]
      exact if_neg (unlifted.resolve_left (not_not_intro named))
    · exact same
  have first : s.fan.Stays x.fan := by
    rcases h.first with same | ⟨settled, -⟩
    · rw [same]
      exact .inl cleared
    · rw [settled]
      exact h.cleared.unmoved.fanStays consistent follows (.inl cleared)
  have examined := examine_examined x fun y => free y.2
  have unmoved := examined.unmoved (h.unmoved flash awake)
  generalize x.examine (fun y => free y.2) = v at examined unmoved
  exact unmoved.fanStays consistent follows (examined.fan ▸ first)

/-- A lifted fan stands stopped, or starts where it has a step to take and HOLD does not stand (R100, R92, R93). -/
theorem Clears.fanLifted (h : Clears s b free c x) (consistent : Consistent s) (flash : FlashOk s) (awake : s.op.state ≠ .sleep)
    (named : Names b 14) (locked : s.fan.state = .lockedOut) :
    let cleared : Fan := { s.fan.stop with retriesUsed := 0 }
    let waits : Fan := { cleared with state := .waiting }
    if s.fan.step = 0 ∨ s.supply.hold = true then (x.examine fun y => free y.2).settle.fan = cleared
    else (x.examine fun y => free y.2).settle.fan = waits ∨ (x.examine fun y => free y.2).settle.fan = waits.takeGrant := by
  intro cleared waits
  have same : x = c := h.first.resolve_right fun ⟨_, unnamed⟩ => unnamed named
  have fan : c.fan = cleared := by
    rcases h.cleared.fan with ⟨-, lifted⟩ | ⟨unnamed, -⟩
    · rw [lifted]
      exact if_pos locked
    · exact absurd named unnamed
  have examined := examine_examined x fun y => free y.2
  have unmoved := examined.unmoved (h.unmoved flash awake)
  generalize x.examine (fun y => free y.2) = v at examined unmoved
  have fanNow : v.fan = cleared := by rw [examined.fan, same, fan]
  have step : (v.resolve .fan).1 = s.fan.step := by rw [unmoved.resolves.resolve, consistent.fanStep, (consistent.resolved .fan).1]
  have ready : v.ready.fan = if cleared.step ≠ 0 ∧ v.supply.hold = false then cleared.startWaiting else cleared := by
    rw [ready_fan, step, fanNow, Fan.follows, if_pos (show s.fan.step = cleared.step from rfl)]
    exact if_congr (and_iff_right rfl) rfl rfl
  rw [settle_eq]
  have passes := (arbitrate_grantPass v.ready).fan
  generalize v.ready = r at ready passes
  by_cases stands : s.fan.step = 0 ∨ s.supply.hold = true
  · rw [if_pos stands]
    rw [if_neg (by rw [unmoved.hold]; rcases stands with e | e <;> simp [cleared, Fan.stop, e])] at ready
    rcases passes with still | ⟨waiting, -⟩
    · exact still.trans ready
    · rw [ready] at waiting
      cases waiting
  · rw [if_neg stands]
    obtain ⟨some, free⟩ := not_or.mp stands
    rw [if_pos ⟨some, by rw [unmoved.hold]; simpa using free⟩] at ready
    rw [ready] at passes
    exact passes.imp_right And.right

end

end Sys2Proof.Machine
end

section
/-! PROOF. FAULTCLR lifts lockouts (O28): the request. -/

namespace Sys2Proof.Machine

/-- An unknown channel number is refused (R27). -/
theorem faultclr_unknown {s : State} {rest : List Frame} {b : Byte} (h : Takes s 0x26 [b] rest) (configured : s.op.state ≠ .limp)
    (above : 16 < b.toNat) (other : b.toNat ≠ 255) : exec .faultclr s = .next { s with link := linkAfter s rest 0x26 .badValue [] } := by
  have answer : notInLimp faultclrOwner [b] (s.popInbound rest) = { state := s.popInbound rest, code := .badValue, data := [] } :=
    (notInLimp_eq configured ..).trans (if_pos ⟨above, other⟩)
  exact request_answers (k := .faultclr) (u := s.popInbound rest) h rfl answer rfl

/-- Settles O28: FAULTCLR clears what it names, examines the entries of the spares it frees, and settles. -/
theorem faultclrLiftsLockouts : Obligations.FaultclrLiftsLockouts := by
  intro s rest b h configured
  refine ⟨faultclr_unknown h configured, ?_⟩
  intro known names lifted freed
  have answer : notInLimp faultclrOwner [b] (s.popInbound rest) =
      { state := ((s.popInbound rest).clearTarget b.toNat).settle, code := .ok, data := [] } :=
    (notInLimp_eq configured ..).trans (if_neg (by change ¬ (16 < b.toNat ∧ b.toNat ≠ 255); omega))
  obtain ⟨free, c, x, target, clears⟩ := clearTarget_clears (s.popInbound rest) known
  rw [target] at answer
  have examined := examine_examined x fun y => free y.2
  have meas := examine_meas x fun y => free y.2
  have firstKeeps := clears.keeps
  have cleared := clears.cleared
  obtain ⟨t, run, value, keeps, consistent⟩ := request_settles (k := .faultclr) h rfl answer
    (examined.link.trans (firstKeeps.link.trans cleared.link))
  have popped := clears.examinedFrom (by exact configured) keeps
  have from_ := popped.popInbound
  obtain ⟨-, -, -, awake, -⟩ := h
  have fanLocked := settle_fanLocked (x.examine fun y => free y.2)
  have fanStays (agree : Consistent s) (follows : FollowsOk s) (flash : FlashOk s) := clears.fanStays (consistent_link agree _)
    ⟨follows.target, follows.stopped, follows.turning, follows.running, follows.enabled⟩ ⟨flash.idle, flash.flashing, flash.wants⟩ awake
  have fanLifted (agree : Consistent s) (flash : FlashOk s) := clears.fanLifted (consistent_link agree _)
    ⟨flash.idle, flash.flashing, flash.wants⟩ awake
  have stays (agree : Consistent s) (lamps : LampsOk s) (flash : FlashOk s) (table : SubstitutionOk s) {ch : LampId} :=
    clears.stays (ch := ch) (consistent_link agree _)
      ⟨lamps.dark, lamps.heldOff, lamps.off, lamps.lit, lamps.tripped, lamps.lockedOut, lamps.granted, lamps.handed⟩
      ⟨flash.idle, flash.flashing, flash.wants⟩ ⟨table.engaged, table.paired, table.single, table.setAside, table.function, table.limp⟩ awake
  have link : t.link = linkAfter s rest 0x26 .ok [] := by rw [value]; rfl
  generalize (x.examine fun y => free y.2).settle = w at value fanLocked fanStays fanLifted stays
  have fanIs : t.fan = w.fan := by rw [value]
  have lampIs (ch : LampId) : t.lamp ch = w.lamp ch := by rw [value]; rfl
  obtain ⟨locked, retries, settings⟩ := clears.fan keeps (by rw [fanIs]; exact fanLocked)
  refine ⟨t, run, link, from_.report.trans (substRaised_report_congr s t (firstKeeps.report.trans cleared.report)), fun ch named => clears.restored popped (.inl named),
    fun ch notLifted notFreed alone => clears.others popped notLifted notFreed alone, from_.pairs,
    fun e p q on pair => clears.released popped on pair, fun q released => ?_, fun e p q due => clears.occasions q (popped.engages.mp due).named,
    from_.engagements, fun e p q pair primary named => clears.due popped pair primary named, ?_, ?_, ?_, ?_, fun g named faulted => ?_,
    fun g unnamed => ?_, ?_⟩
  · obtain ⟨unlocked, retries, onTime⟩ := clears.restored popped (.inr released)
    exact ⟨unlocked, retries, onTime, clears.returned popped released⟩
  · intro named stood
    rcases cleared.fan with ⟨-, lifts⟩ | ⟨unnamed, -⟩
    · have lifts : c.fan = { s.fan.stop with retriesUsed := 0 } := lifts.trans (if_pos stood)
      rw [ne_eq, locked, retries, lifts]
      exact ⟨by simp [Fan.stop], rfl⟩
    · exact absurd named unnamed
  · intro unlifted
    have same : c.fan = s.fan := by
      rcases cleared.fan with ⟨named, lifts⟩ | ⟨-, same⟩
      · exact lifts.trans (if_neg (unlifted.resolve_left (not_not_intro named)))
      · exact same
    rw [locked, retries, same]
    exact ⟨.rfl, rfl⟩
  · rw [settings]
    rcases cleared.fan with ⟨-, lifts⟩ | ⟨-, same⟩
    · exact (congrArg Fan.settings lifts).trans (clearLockout_fanUnlocked s.fan).2
    · exact congrArg Fan.settings same
  · intro agree lamps follows flash table
    constructor
    · intro ch notLifted notFreed alone
      rw [lampIs]
      exact stays agree lamps flash table notLifted notFreed fun e p due => alone e p (popped.engages.mpr due)
    · rw [fanIs]
      exact ⟨fanStays agree follows flash, fanLifted agree flash⟩
  · have gauge := clears.gauge keeps g
    rcases cleared.gauges g with ⟨-, lifts⟩ | ⟨other, -⟩
    · rwa [lifts.trans (if_pos faulted)] at gauge
    · exact absurd named other
  · have gauge := clears.gauge keeps g
    rcases cleared.gauges g with ⟨named, lifts⟩ | ⟨-, same⟩
    · rwa [lifts.trans (if_neg (unnamed.resolve_left (not_not_intro named)))] at gauge
    · rwa [same] at gauge
  · refine ⟨keeps.op.trans (examined.op.trans (firstKeeps.op.trans cleared.op)),
      keeps.inputs.trans (examined.inputs.trans (firstKeeps.inputs.trans cleared.inputs)),
      keeps.supply.trans (examined.supply.trans (firstKeeps.supply.trans cleared.supply)),
      keeps.meas.trans (meas.trans (firstKeeps.meas.trans cleared.meas)),
      keeps.scenes.trans ((congrArg Resolver.scenes examined.resolver).trans
        (firstKeeps.scenes.trans (congrArg Resolver.scenes cleared.resolver))), fun f => ?_, consistent⟩
    have last : (t.fnRec f).base = ((x.examine fun y => free y.2).fnRec f).base := (keeps.fns f).2.2
    rw [last, State.fnRec, examined.resolver]
    refine (firstKeeps.fns f).2.2.trans ?_
    rw [State.fnRec, cleared.resolver]
    rfl

end Sys2Proof.Machine
end
